-- ==== Sys2Proof/Word.lean ====
section
/-! DEFINITION. The word types of the module: the byte of the fabric address space, the 32-bit word of the W area and
of WACC, and the 64-bit plane of the solvers (Table 0.2: a plane is a 64-bit word in which bit k belongs to
instance k). Register fields of many widths are natural numbers below 2 to the power of their width. -/

namespace Sys2Proof

/-- A byte of the fabric address space. -/
abbrev Byte := BitVec 8
/-- A 32-bit word (W area, WACC). -/
abbrev Word := BitVec 32
/-- A 64-bit plane: bit k belongs to instance k. -/
abbrev Plane := BitVec 64

end Sys2Proof
end

