-- ==== Sys2Proof/Syntax.lean ====
section
/-! DEFINITION. The commands of the module: one constructor for each row of spec/opcode_table.json, in the order of the table
(RESERVED_OPCODE beside the Sheaf instructions, whose words spell it), and the types of their operands. An operand is what the
outside gives with the command: an index, the data of a write, a message received, a measured result. -/

namespace Sys2Proof

/-- Who makes a register write (R9): the host through BAR0; machine-mode firmware of the slices, carrying out a command
of the session named; a core in user mode; the DMA; any other block. -/
inductive Writer where
  | host
  | firmware (session : Fin 8)
  | userCore
  | dma
  | block
  deriving DecidableEq, Repr

/-- Who reads or writes fabric memory (R186, R189): a participating slice, a slice that does not participate, the DMA,
the host through BAR0, FIO, or another block. -/
inductive Initiator where
  | slices | otherSlice | dma | host | fio | sfu | other
  deriving DecidableEq, Repr

/-- The command a session has issued: session, ring pair, TAG and CI of its descriptor (Table 13.2). -/
structure CmdRef where
  session : Fin 8
  ring : Nat
  tag : Nat
  ci : Bool
  deriving DecidableEq, Repr

/-- The operand of a Sheaf instruction (Table 7.1): space code, N, P and INDEX. -/
structure Opnd where
  space : Nat
  n : Bool
  p : Bool
  index : Nat
  deriving DecidableEq, Repr

/-- A command descriptor as read from a command ring (Table 13.2). -/
structure Desc where
  own : Bool
  ci : Bool
  wait : Bool
  opcode : Nat
  tag : Nat
  arg0 : Nat
  buf : Nat
  buflen : Nat
  arg1 : Nat
  arg2 : Nat
  arg3 : Nat
  deriving DecidableEq, Repr

/-- A record of stream 1 (Table 4.2): core, file (floating point or integer), register, retire sequence and data. -/
structure ArchRec where
  core : Fin 4
  fp : Bool
  reg : Fin 32
  seq : BitVec 16
  data : BitVec 64
  deriving DecidableEq, Repr

/-- A record of stream 2 (Table 4.2): source (0 to 3 cores, 8 solver), byte enables, address and data. -/
structure StoreRec where
  source : Fin 16
  be : BitVec 8
  addr : BitVec 40
  data : BitVec 64
  deriving DecidableEq, Repr

/-- A record of stream 3, by its kind (Table 4.3). -/
inductive CtlRec where
  /-- a CSR write: CSR number and new value -/
  | csr (core : Fin 4) (num : BitVec 12) (data : BitVec 64)
  /-- a conditional branch: taken or not, and where to -/
  | branch (core : Fin 4) (taken : Bool) (target : BitVec 64)
  /-- an indirect jump, or a trap entry with its cause -/
  | jump (core : Fin 4) (cause : Fin 64) (target : BitVec 64)
  /-- solver writes of ACC, of WACC, and of the image: space code, index, and the new bit, plane or word -/
  | acc (data : BitVec 64)
  | wacc (data : BitVec 32)
  | image (space : Fin 8) (index : BitVec 21) (data : BitVec 64)
  deriving DecidableEq, Repr

/-- A fault that the solver of one slice reports and the others do not (R182): code, pc and word of its instruction, stack depth,
template context, the last MARK tag, and how many of the window's solver records the slice had delivered when it stopped. -/
structure SolverFault where
  code : Fin 16
  pc : BitVec 20
  word : BitVec 32
  depth : Fin 64
  ctx : Bool
  mark : BitVec 21
  recs : Nat
  deriving DecidableEq, Repr

/-- The compared activity of the cores of one slice in one signature window (Table 4.2): the records of streams 1, 2 and 3, clock by
clock and in each clock core by core; for each record that the solver delivers in the window, which State holds (R179), how many records of
the cores in stream 3 stand before it (R85); and the fault with which its solver stopped alone, if it did. -/
structure SliceAct where
  arch : List ArchRec
  stores : List StoreRec
  control : List CtlRec
  solver : List Nat
  fault : Option SolverFault
  deriving DecidableEq, Repr

/-- What the Winnower sees of a window: the activity of slices A, B and C; the comparators whose rail pairs were not complementary
(R98); the slices whose old line differed from the others' when a solver image write was logged (R113). -/
structure WindowObs where
  acts : List SliceAct
  rails : Fin 8
  lines : Fin 8
  deriving DecidableEq, Repr

/-- An access of the slices: who carries it out (firmware for a session, or a core in user mode), for which slice (the
participating ones, or a slice with tasks of its own), and which core. -/
structure SliceAcc where
  fw : Option (Fin 8)
  own : Option (Fin 3)
  core : Fin 4
  deriving DecidableEq, Repr

/-- What a slice reads: memory or a register, plainly or as a load-reserved, or a CSR of the core, `time` among them (R82, R281). -/
inductive LoadKind where
  | plain
  | reserved
  | csr (num : BitVec 12)
  deriving DecidableEq, Repr

/-- The operation of an AMO. -/
inductive AmoOp where
  | swap | add | xor | and | or | min | max | minu | maxu
  deriving DecidableEq, Repr

/-- A store, a store-conditional or an atomic memory operation (Table 4.1). -/
inductive StoreKind where
  | plain | sc
  | amo (op : AmoOp)
  deriving DecidableEq, Repr

/-- What a scrub block holds: cache lines that are clean in every slice, a 4 KiB page of the program store, or anything else
(R100, R101). -/
inductive ScrubKind where
  | cleanLines (lines : List Nat)
  | programStore (page : Fin 1024)
  | other
  deriving DecidableEq, Repr

/-- One 64-bit word of a scrub block as slices A, B and C read it, and whether execution wrote it while the block was read
(R100). -/
structure ScrubWord where
  a : BitVec 64
  b : BitVec 64
  c : BitVec 64
  written : Bool
  deriving DecidableEq, Repr

/-- A change set as LOAD finds it in its buffer (R150): whether its own check value verifies, the program identity it
applies to and the new one, the safety configuration check value it records (R420), the pages it writes (page number and
words), the pages of the new program, the stage bank, the task table with its base (entry pc and argument), the code of slice tasks by
DDR address, the space sizes in planes by space code, the template descriptors (number and 64 bytes), the base of the binding table
with its entries as 128-bit numbers, and the migration list. -/
structure ChangeSet where
  verifies : Bool
  baseId : Nat
  newId : Nat
  safetyCv : Nat
  pages : List (Nat × List Nat)
  active : List Nat
  stages : List Nat
  taskBase : Nat
  tasks : List (Nat × Nat)
  code : List (Nat × List Byte)
  sizes : List Nat
  templates : List (Nat × List Byte)
  bindBase : Nat
  bindings : List Nat
  migration : List Nat
  deriving DecidableEq, Repr

/-- What a backbone frame carries, as far as the switch looks at it (R293). -/
inductive BbKind where
  | arp | icmp | icmp6
  | tcp (port : Nat)
  | udp (port : Nat)
  | ptp | other
  deriving DecidableEq, Repr

/-- A backbone frame: addresses, VLAN tag (PCP and VID), sequence number of an R-tag, what it carries, and the bytes after the
source address and the tags, without FCS. -/
structure BbFrame where
  dst : Nat
  src : Nat
  tag : Option (Nat × Nat)
  rtag : Option Nat
  kind : BbKind
  rest : List (BitVec 8)
  deriving DecidableEq, Repr

/-- An entry of the branch stack (R156): B with the 64 lanes of ACC, or R with a return index and the flag T. -/
inductive StackEntry where
  | b (v : Plane)
  | r (ret : Nat) (t : Bool)
  deriving DecidableEq, Repr

/-- Architectural state of one core (Tables 4.1, 5.1): integer and floating-point registers, pc, machine-mode and user-mode
CSRs by number, whether it is in user mode, and the granule that a load-reserved holds. -/
structure Core where
  x : List Nat
  f : List Nat
  pc : Nat
  csr : List (Nat × Nat)
  user : Bool
  resv : Option Nat
  deriving DecidableEq, Repr

/-- A bank of the checkpoint store (Table 5.1). -/
structure Checkpoint where
  cores : List Core
  acc : Plane
  wacc : Word
  stack : List StackEntry
  t0sec : Nat
  t0ns : Nat
  deriving DecidableEq, Repr

/-- Connection state of the safety runtime (R409 to R411, R416): state of Table 17.7 (0 OFF, 1 START, 2 RUN, 3 FAILED,
4 AWAITACK), whether LAST is set, LAST, whether and which partner SEQ was last accepted, consecutive t0 with an accepted
PDU, the partner's FSV, the safe data last accepted, the t0 of the last watchdog restart in ns, CRC errors, chaff, the
acknowledgement bit last seen, JX5 paths lost, whether a PDU was accepted in the stage last run, and for each path one more than the
SEQ it delivered last (0: none) and the t0, in ns, at which it did (R416). -/
structure Conn where
  state : Nat
  haveLast : Bool
  last : Nat
  echo : Nat
  count : Nat
  fsv : Bool
  data : List Byte
  wd : Nat
  crcErr : Nat
  chaff : Nat
  ackPrev : Bool
  lost1 : Bool
  lost2 : Bool
  accepted : Bool
  seen1 : Nat
  seen2 : Nat
  at1 : Nat
  at2 : Nat
  deriving DecidableEq, Repr

/-- Axis state of the safety runtime (R401 to R404): response (0 none, 1 SS2, 2 SS1, 3 STO), torque off, cause, t0 of the
response's start in ns, last sample with its speed, SLS count, SDI reference, SS2 standstill position, the
acknowledgement bit last seen, a sample failure, and whether a pair fault holds the axis (R405). -/
structure Axis where
  resp : Nat
  off : Bool
  cause : Nat
  start : Nat
  have_ : Bool
  pos : Int
  ts : Nat
  v : Int
  slsCnt : Nat
  sdi : Option Int
  still : Option Int
  ackPrev : Bool
  bad : Bool
  pair : Bool
  deriving DecidableEq, Repr

/-- What the safety runtime keeps in the safety area (Table 17.1): connections and axes by number, and the fields of
SFU_LAST. Its byte layout there is not given (log entry 31). -/
structure Safe where
  conns : List (Nat × Conn)
  axes : List (Nat × Axis)
  lastConn : Nat
  ccause : Nat
  lastAxis : Nat
  acause : Nat
  deriving DecidableEq, Repr

/-- What the active sends a mirroring channel (R442): a module frame with its action point in ns from the round start, and
whether it comes too late for it; OUTPUT payload with its sequence number, as the position of the payload in the buffer and
the bytes; or, at a round start, Δc with page rotation, claim table, delay trims by node, QUENCH registers and mailbox. -/
inductive MirrorMsg where
  | frame (late : Bool) (bytes : List Byte)
  | output (late : Bool) (seq ofs : Nat) (data : List Byte) (bytes : List Byte)
  | round (delta : Int) (rot : Nat) (first : Bool) (claims : List Byte) (trims : List (Nat × Nat))
      (quench : List (Nat × Nat × Nat)) (busy : Bool) (mbox : List Byte)
  deriving DecidableEq, Repr

/-- A block of the full copy (R437): memory; the program with its stage bank, tables and descriptors; or the small state: core and
solver state, safety runtime, forces (space, index, value), execution mode, commissioned safety record, retained planes
of M, T, C and W, period and phase. -/
inductive CopyBlock where
  | memory (addr : Nat) (bytes : List Byte)
  | program (c : ChangeSet)
  | small (ckp : Checkpoint) (safe : Safe) (forces : List (Nat × Nat × Nat)) (mode : Nat) (record : List Byte)
      (retain : List Nat) (period phase : Nat)
  deriving DecidableEq, Repr

/-- A delta with its pair record (R127, R438): the new CKP_SEQ, the t0 stamp, receive slots by connection and path, the mode,
force changes (release, space, index, value), the tC mark, a change set during LOAD, logged lines by address, output lines by
number, core and solver state, and the state of the safety runtime. -/
structure Delta where
  seq : Nat
  t0sec : Nat
  t0ns : Nat
  slots : List (Nat × Nat × List Byte)
  mode : Nat
  forces : List (Bool × Nat × Nat × Nat)
  tc : Bool
  load : Option ChangeSet
  lines : List (Nat × List Byte)
  qlines : List (Nat × List Byte)
  ckp : Checkpoint
  safe : Safe
  deriving DecidableEq, Repr

/-- A block or island that reports BUSY_OFF (R75). Islands are counted from 0. -/
inductive OffUnit where
  | island (n : Fin 21)
  | cycle | backbone | gateway | dma | fio | safety
  | jalora (c : Fin 4)
  | dmaChannel (n : Fin 16)
  deriving DecidableEq, Repr

/-- An entry of a credential set (Table 20.2). -/
structure Credential where
  ident : Nat
  role : Nat
  readOnly : Bool
  kind : Nat
  salt : List Nat
  digest : Nat
  deriving DecidableEq, Repr

/-- A credential set: entries and trust-anchor certificates, each as its DER bytes, and its version (R475, Table 20.10). -/
structure CredSet where
  entries : List Credential
  anchors : List (List Nat)
  ver : Nat
  deriving DecidableEq, Repr

/-- A settings bank (R482): whether its CRC is correct, its FORMAT, the version of the image that wrote it, the RWL field values by
key and the DDR table bytes. -/
structure SetBank where
  crcOk : Bool
  format : Nat
  writer : Nat
  fields : List (Nat × Nat)
  cells : List Host.Cell
  deriving DecidableEq, Repr

/-- What an image slot holds (Table 20.6): whether its signature verifies, and its header bindings. -/
structure ImageInfo where
  signed : Bool
  devid : Nat
  issues : Nat
  variants : Nat
  units : List Nat
  secver : Nat
  fmtmin : Nat
  fmtout : Nat
  rtid : Nat
  pairver : Nat
  imgver : Nat
  deriving DecidableEq, Repr

/-- What a staged object turns out to hold when it is verified (R483, R485): a firmware image, a credential set or a
settings set, with whether its signature or CRC is correct. -/
inductive StagedObj where
  | image (i : ImageInfo)
  | creds (ok : Bool) (c : CredSet)
  | settings (b : SetBank)
  deriving DecidableEq, Repr

/-- What the supervisor samples at a power-on reset: the position pins POS1, POS0 (R31), and whether the contact of the reset button is
closed when the reset is released (R56). -/
structure ResetPins where
  pos : Fin 4
  button : Bool
  deriving DecidableEq, Repr

/-- What a PTP message carries beside its kind and numbers: its timestamp, its correction in 2^-16 ns, and its two-step flag (R274). -/
structure PtpTimes where
  sec : BitVec 48
  ns : BitVec 32
  corr : Int
  two : Bool
  deriving DecidableEq, Repr

/-- Where a host reads: in BAR0 (0), in the doorbell page of BAR2 (1) or in the MSI-X structure of BAR4 (2), at `offset` (R305). -/
structure BarAddr where
  bar : Fin 3
  offset : BitVec 24
  deriving DecidableEq, Repr

/-- Where a write access to a block, of the host or of another writer, goes: to register space; and for the host alone to the MSI-X
structure of BAR4, or as a poisoned transaction or an AtomicOp (R305, R313, R325). -/
inductive WriteTo where
  | space (a : BitVec 40)
  | msix (offset : BitVec 13)
  | poisoned
  | atomic
  deriving DecidableEq, Repr

/-- What the host sets in the configuration space of the endpoint: Bus Master Enable, MSI-X Enable and Function Mask, and the code of
the Max Read Request Size (Table 13.1, R306, R313). -/
structure PcieCtl where
  bme : Bool
  msixEn : Bool
  fmask : Bool
  maxRead : Fin 8
  deriving DecidableEq, Repr

/-- What a client brings to a TLS handshake (R315): the versions, cipher suites and key exchange groups it offers, whether its
certificate is signed and it signs with ECDSA P-256, whether its signatures and its Finished are right, whether it also offers 0-RTT
data or a session to resume, and whether it connects to the service address of the pair (R426) or to the unit address. -/
structure TlsHello where
  versions : List Nat
  suites : List Nat
  groups : List Nat
  p256 : Bool
  verified : Bool
  early : Bool
  resume : Bool
  service : Bool
  deriving DecidableEq, Repr

/-- A COMMAND unit after TYPE and RING: DLEN, the eight words of its descriptor, and its data (R316). -/
structure CmdUnit where
  dlen : BitVec 32
  words : List Word
  data : List Byte
  deriving DecidableEq, Repr

/-- A RINGS unit: RING and DLEN (R316). -/
structure RingsUnit where
  ring : Byte
  dlen : BitVec 32
  deriving DecidableEq, Repr

/-- A pair of time messages of the pair link (R435): the corrected stamps in ns of the active's message at the active (t1) and at the
standby (t2), and of the standby's at the standby (t3) and at the active (t4); and what the active's TIME LED shows (Table 11.1). -/
structure PairTime where
  t1 : Int
  t2 : Int
  t3 : Int
  t4 : Int
  lamp : Fin 8
  deriving DecidableEq, Repr

/-- The commands of the module: one constructor for each row of spec/opcode_table.json, in its order. -/
inductive Instr where
  /-- REGISTER_WRITE (R8): A write to a register field that has no row of its own, checked in order for size, decode,
  absence, power, lock and role, then applied by its access code. -/
  | registerWrite (w : Writer) (a : WriteTo) (size : Fin 16) (data : BitVec 64)
  /-- REGISTER_HALF_ACCESS (R6): A 4-byte access to one half of a 64-bit register: a low-half read latches the high half,
  and a low-half write is held until the high half is written. -/
  | registerHalfAccess (w : Writer) (a : BitVec 40) (data : Option Word)
  /-- POWER_ON_RESET (R53): The hold-up store is exhausted, or the rail rises from below 16.0 V without hold-up supply, and
  all 21 islands are reset. -/
  | powerOnReset (pins : ResetPins)
  /-- EXT_RESET (R53): EXT_RESET_N is held low for at least 1 µs and causes a module reset that lasts while the contact is
  low. -/
  | extReset
  /-- HOST_LINK_RESET (R54): PERST_N goes low, island 10 is reset, session 0 is closed and event 16 is raised. -/
  | hostLinkReset
  /-- BUTTON_PRESS_ACCEPTED (R56): The reset button has stayed closed for 50 ms and causes a module reset, or raises event 0
  when BTN_MODE = 1. -/
  | buttonPressAccepted (opened : Bool)
  /-- BUTTON_STUCK (R56): The button is still closed 8 s after it closed, so STUCK sets, event 1 is raised and the button is
  ignored. -/
  | buttonStuck
  /-- BUTTON_REARM (R56): The button has been seen open without interruption for 1 s, so it is re-armed, STUCK clears and
  event 2 is raised. -/
  | buttonRearm
  /-- BOOT_WATCHDOG_EXPIRY (R53): Boot has not been reported complete within 12 s of the release of reset, and a module
  reset follows. -/
  | bootWatchdogExpiry
  /-- MODULE_WITHDRAWN (R30): The module is withdrawn from a powered backplane, which counts as loss of the active in a pair. -/
  | moduleWithdrawn
  /-- FEED_LOST (R38): One feed falls below 18.0 V: its OK bit clears, event 8 or 9 is raised and FLT blinks. -/
  | feedLost (n : Fin 2)
  /-- FEED_RESTORED (R38): A feed reaches 18.5 V again: its OK bit sets, the event is logged and FLT returns to its previous
  indication. -/
  | feedRestored (n : Fin 2)
  /-- HOLDUP_READY (R45): The hold-up store is charged, so HOLDUP_RDY sets and the measured hold-up is checked against 12 ms. -/
  | holdupReady (low : Bool)
  /-- POWER_FAIL_WARNING (R46): The rail stays below 17.5 V for 200 µs, so PFW sets, event 10 is raised and the Gleaner
  persist starts. -/
  | powerFailWarning
  /-- RIDE_THROUGH_END (R46): At tPF + 4 ms with PFW still set, no new cycle starts, resign is sent, and the remaining
  power-fail steps run until the islands are off. -/
  | rideThroughEnd
  /-- POWER_FAIL_CLEARED (R47): The rail rises above 18.5 V: before tPF + 4 ms the module continues with event 11, otherwise
  it leaves reset with cause PFAIL. -/
  | powerFailCleared
  /-- RAIL_BELOW_16V (R43): The ORed rail falls below 16.0 V and PoDL is removed from every path. -/
  | railBelow16v
  /-- PLATE_WARNING (R51): The plate exceeds +75 °C: event 12 is raised, PLATE_WARN sets and FLT blinks. -/
  | plateWarning
  /-- PLATE_STOP (R51): The plate exceeds +85 °C: the controller stops with safe values and every island except island 21 is
  switched off. -/
  | plateStop
  /-- SUPPLY_REGISTER_REFRESH (R52): The PWR supply and temperature registers are refreshed every 1 ms. -/
  | supplyRegisterRefresh (f1 f2 temp : BitVec 16)
  /-- SFP_MODULE_PLUGGED (R32): An SFP+ module is plugged in, and is enabled only if it is 10GBASE-R and declares at most
  1.0 W. -/
  | sfpModulePlugged (n : Fin 2) (baseR : Bool) (mw : Nat)
  /-- CLOCK_SELECT (R57): A write of PWR_CLKSEL switches islands 1 to 20 glitch-free to the OCXO-derived reference, or is
  refused. -/
  | clockSelect (w : Writer) (src : Bool)
  /-- OCXO_VALID (R58): The OCXO has stayed within ±5 ppm for 100 ms, so OCXO_OK sets. -/
  | ocxoValid
  /-- OCXO_START_TIMEOUT (R58): OCXO_OK is still 0 at tP + 3 s, so the controller is never started and critical event 19 is
  raised. -/
  | ocxoStartTimeout
  /-- OCXO_LOST (R59): The clock checker finds the OCXO missing or off by more than 1,000 ppm, so the islands return to IOSC
  and the controller stops with cause 0x04. -/
  | ocxoLost
  /-- PLL_LOCK_LOST (R18): A slice, solver or Winnower PLL loses lock, or the slice reference fails, and the Winnower
  handles the loss by mode. -/
  | pllLockLost (k : Fin 4)
  /-- RESET_RELEASE (R60): Reset is released and the start-up sequence runs: boot ROM in Triad mode, DDR training and image
  verification. -/
  | resetRelease
  /-- PCIE_LINK_TRAINING (R63): At the later of tP + 50 ms and the release of PERST_N, island 10 starts link training and
  then answers configuration requests. -/
  | pcieLinkTraining (width speed : Fin 5)
  /-- RETAINED_RESTORE (R480): Once the journal buffer has drained, start-up step 7 loads the valid base, replays journal
  records and restores settings, Gleaner and log. -/
  | retainedRestore (imageOk ctlOk : Bool)
  /-- BOOT_COMPLETE (R60): Sheafs are loaded, the execution mode is set, the safety record is checked and boot complete is
  reported. -/
  | bootComplete (mode : Fin 3) (prog : Option ChangeSet)
  /-- AUTOSTART (R60): With AUTOSTART = 1 the cycle engine starts after hold-up is ready and boot is complete, and after
  time quality if TIMEQ = 1. -/
  | autostart
  /-- POWER (R66): A power-state request is checked by Table 3.5 and starts a transition or is stored in PWR_PENDING. -/
  | power (ref : CmdRef) (target : Fin 8)
  /-- TRANSITION_COMPLETE (R69): A power-state transition completes and the request stored in PWR_PENDING is applied. -/
  | transitionComplete
  /-- WAKE_SOURCE (R70): A wake source fires: a BAR2 doorbell, PERST_N rising or a feed returning. Its bit is set, event 3
  is raised and a wake request is made if enabled. -/
  | wakeSource (k : Fin 3) (late : Bool)
  /-- WAKE_TIMER (R70): PWR_WAKETIME milliseconds have passed since the state was reached, so the timer wake source fires. -/
  | wakeTimer
  /-- WAKE_FRAME (R71): A wake frame with the module's MAC and wake code arrives on BB2 or BB3 in Drowse. -/
  | wakeFrame (dst : BitVec 48) (ether : BitVec 16) (payload : List Byte) (late : Bool)
  /-- ISLAND_ENABLE (R76): A write of PWR_ISLEN switches a permitted island on or off, or latches a pending enable. -/
  | islandEnable (w : Writer) (n : Fin 21) (en : Bool)
  /-- SHUTDOWN_COMPLETE (R75): A block's or island's crossing FIFOs have drained, so BUSY_OFF clears and a pending enable is
  taken. -/
  | shutdownComplete (u : OffUnit)
  /-- FABRIC_READ (R82): A slice read is issued once, checked against the later slices' requests, and delivered at each
  stagger offset. -/
  | fabricRead (m : SliceAcc) (k : LoadKind) (a : BitVec 40) (size : Fin 16) (differ : Fin 8) (stalled : Bool)
  /-- SLICE_STORE (R83): A store by a slice passes the store vote unit and is issued once, staged, queued or refused. -/
  | sliceStore (m : SliceAcc) (k : StoreKind) (differ : Fin 8) (a : BitVec 40) (size : Fin 16) (data : BitVec 64) (soon : Bool)
  /-- STALLED_STORE_RELEASE (R116): A store held for an undo entry is released once the entry has been written. -/
  | stalledStoreRelease
  /-- SIGNATURE_WINDOW_END (R85): A signature window ends, and the comparators vote the slices' signatures into clean,
  minority or no majority. -/
  | signatureWindowEnd (o : WindowObs)
  /-- ECC_CORRECTED (R80): A single-bit ECC error is corrected in line, raising event 44 and counting in SLC_ECCn. -/
  | eccCorrected (k : Fin 3)
  /-- ECC_UNCORRECTABLE (R80): An uncorrectable ECC error makes the slice divergent, raises event 45 and is handled by mode. -/
  | eccUncorrectable (k : Fin 3)
  /-- MODE (R92): A mode change request is checked against Table 4.5 and takes effect at tH, at once in STOP or FAULT, or
  after a join. -/
  | mode (ref : CmdRef) (mode : Fin 4)
  /-- COPY_GUARD_REACHED (R95): At t0 − COPYGUARD the join copy and the change loader stop writing until the next idle phase. -/
  | copyGuardReached
  /-- JOIN_COPY_COMPLETE (R95): All pages are copied and none is dirty, so caches are invalidated and the joining slice is
  READY for probation. -/
  | joinCopyComplete (differ : Bool)
  /-- JOIN_TIMEOUT (R96): The copy has not reached step 4 within 64 cycles of tJ, so the join attempt fails. -/
  | joinTimeout
  /-- SLICE_FAILED_CLEAR (R96): Writing 1 to a slice's SLC_FAILED bit clears it and starts a new series of join attempts. -/
  | sliceFailedClear (w : Writer) (m : Fin 8)
  /-- WINNOWER_SELF_TEST (R98): Every 1 ms the Winnower injects a test difference on the test lane and checks that each
  comparator flags it. -/
  | winnowerSelfTest (miss rail : Fin 8)
  /-- STAGGER_PARITY_ERROR (R98): A stagger FIFO parity error makes the fed slice faulty, as Table 4.7 states. -/
  | staggerParityError (k : Fin 3)
  /-- SCRUB_BLOCK (R100): The scrub reads and compares one 4 KiB block or register group of every participating slice. -/
  | scrubBlock (kind : ScrubKind) (block : List ScrubWord) (passMs : Option Nat)
  /-- WINNOWER_INJECT (R104): A maker writes WNW_CTRL.INJ_GO to inject one genuine divergence into a slice's stream 1. -/
  | winnowerInject (w : Writer) (slice : Fin 8)
  /-- VERDICT (R118): The verdict requested at the end of solve arrives and leads to commit on clean or minority, or to
  rollback. -/
  | verdict (o : WindowObs)
  /-- RESTORE_COMPLETE (R120): The replay has ended, and the re-execution decision of R121 is taken. -/
  | restoreComplete
  /-- COMMIT_POINT (R118): Commit completes: the new bank is valid, CKP_SEQ increments, dirty bits clear, queued stores are
  issued and output publication starts. -/
  | commitPoint
  /-- DELTA_SENT (R127): The delta of a commit has been sent in full over the pair link. -/
  | deltaSent
  /-- CKP_WORST_CLEAR (R130): Writing CKP_WORST.CLR = 1 sets WORST to 0. -/
  | ckpWorstClear (w : Writer)
  /-- CYCLE_START (R132): The time unit fires the cycle-start trigger at an aligned instant, stamps t0, and a pending START,
  RESUME or STEP takes effect. -/
  | cycleStart
  /-- CYCLE_TRIGGER_FAILED (R280): The time unit can no longer deliver the cycle trigger, so it sets FAIL and raises event
  268. -/
  | cycleTriggerFailed
  /-- PERIOD_WRITE (R131): A write of CYC_PERIOD is clamped and reduces PHASE, or is refused outside STOP with CFGREF. -/
  | periodWrite (w : Writer) (v : BitVec 20)
  /-- PHASE_WRITE (R131): A write of CYC_PHASE stores the value mod P, or is refused outside STOP with CFGREF. -/
  | phaseWrite (w : Writer) (v : BitVec 30)
  /-- IN_CHAIN_TRIGGER (R357): Once every configured channel has closed its receive buffer, the cycle engine starts the IN
  chains of step 4. `late` tells that a buffer closed after the delivery, taken as within 8 ns of its instant (log entry 126). -/
  | inChainTrigger (late : Bool)
  /-- LOG_WINDOW_OPEN (R105): Step 4 is complete, forces and any migration are applied, the log window opens and solve
  starts. -/
  | logWindowOpen
  /-- STAGE_END (R135): The solver and all named cores have ended, so the next stage starts or the verdict is requested. -/
  | stageEnd
  /-- TASK_END (R137): A core writes CSR TASKST to end its task normally or with a fatal status. -/
  | taskEnd (c : Fin 4) (status : BitVec 8)
  /-- DEADLINE (R138): At t0 + P a still-running solve ends as an overrun failed commit, and a commit in progress continues
  late. -/
  | deadline
  /-- OVERRUN_WATCHDOG (R139): The engine has not regained control by tDL + 0.1 × P, so the controller enters FAULT with
  cause 0x10. -/
  | overrunWatchdog
  /-- START (R141): The START command is checked and takes effect at the first aligned instant at least 50 µs later. -/
  | start (ref : CmdRef)
  /-- STOP (R141): The STOP command takes effect at the next commit point or failed commit, at once from HALT, or cancels a
  pending START. -/
  | stop (ref : CmdRef)
  /-- HALT (R141): The HALT command moves RUN to HALT at the next commit point, unless safety functions run. -/
  | halt (ref : CmdRef)
  /-- STEP (R141): The STEP command runs one cycle from HALT and re-enters HALT at its end. -/
  | step (ref : CmdRef)
  /-- RESUME (R141): The RESUME command returns HALT to RUN at the next aligned instant. -/
  | resume (ref : CmdRef)
  /-- ACK (R141): The ACK command moves FAULT to STOP and acknowledges the critical entries. -/
  | ack (ref : CmdRef)
  /-- FORCE (R147): The FORCE command sets or replaces a force on an I, Q, M or W address. -/
  | force (ref : CmdRef) (space : Fin 8) (index : Fin 2097152) (value : BitVec 32)
  /-- UNFORCE (R147): The UNFORCE command releases a force. -/
  | unforce (ref : CmdRef) (space : Fin 8) (index : Fin 2097152)
  /-- LOAD (R150): The LOAD command checks a change set and starts writing it into free program pages in idle phases. -/
  | load (ref : CmdRef) (c : Option ChangeSet)
  /-- LOAD_COMPLETE (R150): The loader has written the whole change set, and the standby as well in a pair, so PHASE becomes
  LOADED. -/
  | loadComplete (standby : Bool)
  /-- ARM (R151): The ARM command arms a loaded change to switch at the next commit point, or at once in STOP or FAULT. -/
  | arm (ref : CmdRef) (verifies : Bool)
  /-- LD (R165): Loads the operand into ACC. -/
  | ld (o : Opnd)
  /-- LDN (R165): Loads the inverted operand into ACC. -/
  | ldn (o : Opnd)
  /-- AND (R165): ANDs the operand into ACC. -/
  | and (o : Opnd)
  /-- ANDN (R165): ANDs the inverted operand into ACC. -/
  | andn (o : Opnd)
  /-- OR (R165): ORs the operand into ACC. -/
  | or (o : Opnd)
  /-- ORN (R165): ORs the inverted operand into ACC. -/
  | orn (o : Opnd)
  /-- XOR (R165): XORs the operand into ACC. -/
  | xor (o : Opnd)
  /-- XORN (R165): XORs the inverted operand into ACC. -/
  | xorn (o : Opnd)
  /-- NOT (R165): Inverts ACC. -/
  | not (o : Opnd)
  /-- LDIM (R165): Loads the instance mask into ACC. -/
  | ldim (o : Opnd)
  /-- SHU (R166): Shifts the lanes up within the active range and fills the lowest active lane with the operand. -/
  | shu (o : Opnd)
  /-- SHD (R166): Shifts the lanes down within the active range and fills the highest active lane with the operand. -/
  | shd (o : Opnd)
  /-- ANY (R166): Broadcasts the OR of ACC over the active lanes. -/
  | any (o : Opnd)
  /-- ALL (R166): Broadcasts the AND of ACC over the active lanes. -/
  | all (o : Opnd)
  /-- OPEN (R167): Pushes ACC and loads the operand, opening a parallel branch. -/
  | open_ (o : Opnd)
  /-- ORB (R167): Pops a branch entry and ORs it with ACC. -/
  | orb (o : Opnd)
  /-- ANDB (R167): Pops a branch entry and ANDs it with ACC. -/
  | andb (o : Opnd)
  /-- XORB (R167): Pops a branch entry and XORs it with ACC. -/
  | xorb (o : Opnd)
  /-- DUP (R167): Pushes ACC and leaves it unchanged. -/
  | dup (o : Opnd)
  /-- POP (R167): Pops a branch entry into ACC. -/
  | pop (o : Opnd)
  /-- PEEK (R167): Copies the top branch entry into ACC without removing it. -/
  | peek (o : Opnd)
  /-- DROP (R167): Removes the top branch entry. -/
  | drop (o : Opnd)
  /-- ST (R168): Stores ACC to a Q, M or W destination. -/
  | st (o : Opnd)
  /-- STN (R168): Stores the inverted ACC. -/
  | stn (o : Opnd)
  /-- SET (R168): Sets the destination where ACC is 1. -/
  | set (o : Opnd)
  /-- RST (R168): Clears the destination where ACC is 1. -/
  | rst (o : Opnd)
  /-- TGL (R168): Toggles the destination where ACC is 1. -/
  | tgl (o : Opnd)
  /-- EDR (R170): Detects a rising edge against the edge memory and updates it. -/
  | edr (o : Opnd)
  /-- EDF (R170): Detects a falling edge against the edge memory and updates it. -/
  | edf (o : Opnd)
  /-- TON (R197): Executes an on-delay timer from the cycle's timebase. -/
  | ton (o : Opnd)
  /-- TOF (R197): Executes an off-delay timer from the cycle's timebase. -/
  | tof (o : Opnd)
  /-- TP (R197): Executes a pulse timer from the cycle's timebase. -/
  | tp (o : Opnd)
  /-- CTU (R172): Executes an up counter with reset from the stack. -/
  | ctu (o : Opnd)
  /-- CTD (R172): Executes a down counter with load from the stack. -/
  | ctd (o : Opnd)
  /-- CTUD (R172): Executes an up-down counter with down, reset and load inputs from the stack. -/
  | ctud (o : Opnd)
  /-- WLD (R173): Loads a word, immediate, ET or CV into WACC. -/
  | wld (o : Opnd)
  /-- WST (R173): Stores WACC to a word, a timer preset or a counter preset. -/
  | wst (o : Opnd)
  /-- WADD (R174): Saturating addition of a word and WACC. -/
  | wadd (o : Opnd)
  /-- WSUB (R174): Saturating subtraction of a word and WACC. -/
  | wsub (o : Opnd)
  /-- WMUL (R174): Saturating multiplication of a word and WACC. -/
  | wmul (o : Opnd)
  /-- WDIV (R174): Divides WACC by the operand, truncating, with defined results for zero and overflow. -/
  | wdiv (o : Opnd)
  /-- WAND (R173): Bitwise AND of a word and WACC. -/
  | wand (o : Opnd)
  /-- WOR (R173): Bitwise OR of a word and WACC. -/
  | wor (o : Opnd)
  /-- WEQ (R174): Compares WACC for equality and writes ACC. -/
  | weq (o : Opnd)
  /-- WNE (R174): Compares WACC for inequality and writes ACC. -/
  | wne (o : Opnd)
  /-- WLT (R174): Compares WACC for less than and writes ACC. -/
  | wlt (o : Opnd)
  /-- WLE (R174): Compares WACC for less or equal and writes ACC. -/
  | wle (o : Opnd)
  /-- WGT (R174): Compares WACC for greater than and writes ACC. -/
  | wgt (o : Opnd)
  /-- WGE (R174): Compares WACC for greater or equal and writes ACC. -/
  | wge (o : Opnd)
  /-- WLIM (R174): Limits WACC between W[i] and W[i + 1]. -/
  | wlim (o : Opnd)
  /-- WSEL (R173): Loads the operand into WACC if ACC[0] is 1. -/
  | wsel (o : Opnd)
  /-- TSEL (R177): Selects a template and loads its descriptor and instance mask. -/
  | tsel (o : Opnd)
  /-- TRUN (R177): Pushes a return entry and enters template context at the target. -/
  | trun (o : Opnd)
  /-- JMPC (R176): Jumps if an active lane of ACC is 1, or if none is when negated. -/
  | jmpc (o : Opnd)
  /-- JMP (R176): Jumps to the target. -/
  | jmp (o : Opnd)
  /-- CALL (R177): Pushes a return entry and jumps to the target. -/
  | call (o : Opnd)
  /-- RET (R177): Pops a return entry, leaving template context if it came from TRUN. -/
  | ret (o : Opnd)
  /-- MARK (R178): Records a tag in LSV_MARK. -/
  | mark (o : Opnd)
  /-- END (R178): Ends the solver's part of the stage and clears the template selection. -/
  | end_ (o : Opnd)
  /-- RESERVED_OPCODE (R180): The solver executes an instruction word whose opcode is reserved (0x0E, 0x0F, 0x1D to 0x1F)
  and is refused with fault ILLEGAL. -/
  | reservedOpcode (op : Nat) (o : Opnd)
  /-- IMAGE_WRITE (R189): A write to the image window by an initiator other than participating slices is made once into
  every copy, or discarded by protection. -/
  | imageWrite (i : Initiator) (a : BitVec 40) (bs : List Byte)
  /-- ROUND_START (R210): A Jalora round starts: buffers switch, the transmit buffer is chosen, SAFE is sampled, Δ and STEER
  are formed. -/
  | roundStart (c : Fin 4)
  /-- MGMT_SEND (R229): The module sends the MGMT frame of slot 1 with QUENCH TLVs and the mailbox. -/
  | mgmtSend (c : Fin 4)
  /-- BEACON_SEND (R255): The module sends the beacon of slot 2 with the page chosen by R257. -/
  | beaconSend (c : Fin 4)
  /-- OUTPUT_SEND (R225): The module sends an OUTPUT frame at the action point of an output slot. -/
  | outputSend (c : Fin 4) (k : Fin 512)
  /-- FRAME_RECEIVE (R218): A Jalora frame is received, checked in order and kept, counted as chaff or discarded. -/
  | frameReceive (c : Fin 4) (path : Fin 2) (t : Int) (fcsOk : Bool) (bytes : List Byte)
  /-- NODE_SLOT_END (R224): After a node slot the controller writes the node record and counters and applies the empty-slot
  action. -/
  | nodeSlotEnd (c : Fin 4) (n : Fin 512)
  /-- TXRDY (R226): A write of JLA_TXRDY makes a transmit buffer ready and latches its sequence number, or is refused. -/
  | txrdy (w : Writer) (c : Fin 4) (b : Fin 2)
  /-- MAILBOX_GO (R231): Writing JLA_MBOXCTL.GO submits the mailbox for the next MGMT frame with room. -/
  | mailboxGo (w : Writer) (c : Fin 4) (len : BitVec 7)
  /-- JLA_QUENCH_WRITE (R230): A write of JLA_QUENCHn changes the QUENCH set carried by the next MGMT frames. -/
  | jlaQuenchWrite (w : Writer) (c : Fin 4) (n : Fin 8) (mode : Fin 4) (last first : BitVec 11)
  /-- JLA_COUNTER_CLEAR (R232): A write of JLA_CNTCTL.CLR zeroes the counter blocks and channel totals at the next round
  start. -/
  | jlaCounterClear (w : Writer) (c : Fin 4)
  /-- PODL_ENABLE_WRITE (R233): A write of JLA_PODL enables a path's PSE into DETECT or removes power into OFF. -/
  | podlEnableWrite (w : Writer) (c : Fin 4) (path : Fin 2) (en : Bool)
  /-- PODL_DETECT (R233): A detection attempt finds a powered device or repeats after 1 s. -/
  | podlDetect (c : Fin 4) (path : Fin 2) (found : Bool)
  /-- PODL_CLASSIFY (R233): Classification completes and the path is powered or refused. -/
  | podlClassify (c : Fin 4) (path : Fin 2) (cls : Fin 32) (fits : Bool)
  /-- PODL_OVERLOAD (R44): An overload or short removes PoDL within 1 ms and enters FAULT. -/
  | podlOverload (c : Fin 4) (path : Fin 2)
  /-- PODL_FAULT_RETRY (R233): 1 s after removal a faulted path returns to DETECT. -/
  | podlFaultRetry (c : Fin 4) (path : Fin 2)
  /-- PODL_UNDERVOLT_RECOVER (R233): The rail has been at or above 16.0 V for 1 s, so the path returns to DETECT. -/
  | podlUndervoltRecover (c : Fin 4) (path : Fin 2)
  /-- JLA_ENABLE (R212): Writing EN = 1 checks the configuration and enables the channel into LISTEN, or refuses with CFGERR. -/
  | jlaEnable (w : Writer) (c : Fin 4)
  /-- JLA_DISABLE (R234): Writing EN = 0 sets DISPEND, and the channel stops at the round boundary. -/
  | jlaDisable (w : Writer) (c : Fin 4)
  /-- JALORA_LINK_CHANGE (R235): A path link is lost or comes up, raising its event. -/
  | jaloraLinkChange (c : Fin 4) (path : Fin 2) (up : Bool)
  /-- CLAIM_REVOKE (R260): A write of JLA_CLAIMREV ends a grant and queues the revocation page. -/
  | claimRevoke (w : Writer) (c : Fin 4) (slot : BitVec 11)
  /-- STATIC_SEGMENT_END (R244): At the end of the static segment the station computes offset and rate corrections and sets
  the NIT length. -/
  | staticSegmentEnd (c : Fin 4)
  /-- RESTART_COMPLETE (R250): After 8 silent rounds in RESTART the module enters LISTEN. -/
  | restartComplete (c : Fin 4)
  /-- DELAY_TRIM_UPDATE (R240): Every 16 rounds the controller adjusts each line-delay trim from the mean observed offset. -/
  | delayTrimUpdate (c : Fin 4)
  /-- LISTEN_TIMEOUT (R251): The listen timeout of 2 × LR expires and the module enters COLDSTART. -/
  | listenTimeout (c : Fin 4)
  /-- COLDSTART_COMPLETE (R251): After 8 consecutive rounds without collision the module enters NORMAL. -/
  | coldstartComplete (c : Fin 4)
  /-- BACKOFF_END (R251): LR + 2 × s macroticks after a collision the coldstart station returns to COLDSTART. -/
  | backoffEnd (c : Fin 4)
  /-- GRANT_IDLE_EXPIRY (R260): A grant has had no kept frame for IDLE rounds, so it ends and the revocation page is sent. -/
  | grantIdleExpiry (c : Fin 4) (i : Fin 64)
  /-- SLOT_RELEASE (R260): 64 rounds after a grant ends the slot becomes free again. -/
  | slotRelease (c : Fin 4) (slot : BitVec 11)
  /-- OCXO_WARM (R264): The OCXO reports its oven settled, so WARM sets, event 256 is raised and the time unit leaves WARMUP. -/
  | ocxoWarm
  /-- PPS_EDGE (R266): A rising edge on X15.1 is timestamped, accepted or rejected, and disciplines the time unit. -/
  | ppsEdge (acc : Fin 5)
  /-- PPS_SECOND_MISSING (R266): An expected second has no edge by S + k + 1 ms, and three missing or rejected seconds lead
  to HOLDOVER. -/
  | ppsSecondMissing
  /-- HOLDOVER_1H (R269): After 3,600 s in HOLDOVER, HOLD1H sets and event 259 is raised. -/
  | holdover1h
  /-- PPS_ENABLE_WRITE (R265): A write of TIM_CTRL.PPS_EN moves the time unit between FREERUN and ACQUIRE. -/
  | ppsEnableWrite (w : Writer) (en : Bool)
  /-- TIMESET (R271): The TIMESET command sets the time at once, or at the next accepted 1PPS edge while LOCKED. -/
  | timeset (ref : CmdRef) (sec : BitVec 64) (ns : BitVec 32)
  /-- TIME_SET_GO (R271): A write of TIM_SETNS.GO = 1 sets the time from TIM_SETSEC and NS, or is refused with SETREF. -/
  | timeSetGo (w : Writer) (ns : BitVec 30)
  /-- PTP_SYNC_SEND (R274): At each Sync interval the grandmaster sends Sync, and Follow_Up when two-step, on each enabled
  port. -/
  | ptpSyncSend (n : Fin 4)
  /-- PTP_ANNOUNCE_SEND (R275): At each Announce interval the grandmaster announces its clock quality. -/
  | ptpAnnounceSend (n : Fin 4)
  /-- PTP_PDELAY_SEND (R274): At each Pdelay_Req interval a peer-delay port measures its peer delay. -/
  | ptpPdelaySend (n : Fin 4)
  /-- PTP_MESSAGE_RECEIVE (R274): A PTP message received on a backbone port ends at the time unit and is answered, counted
  or dropped. -/
  | ptpMessageReceive (n : Fin 4) (kind : Fin 16) (domain : Byte) (seq : BitVec 16) (m : PtpTimes)
  /-- PTP_CONFIG_APPLY (R277): A write to TIM_PTPn takes effect at the next second of time unit time. -/
  | ptpConfigApply (n : Fin 4)
  /-- TE_ARM (R283): A write of TIM_TEn_CTRL arms or changes a time-event pin, refusing bad periods and counting missed
  events. -/
  | teArm (w : Writer) (n : Fin 4) (arm safeOff level : Bool) (mode : Fin 8) (width : BitVec 16)
  /-- TE_EVENT (R283): At the programmed instant a time-event pin pulses or changes level. -/
  | teEvent (n : Fin 4)
  /-- PPS_OUTPUT (R286): At every whole second X15.2 rises for 100 ms. -/
  | ppsOutput
  /-- LAUNCH_TIME_TRANSMIT (R287): A frame with a launch time leaves when its time has come and its gate is open. -/
  | launchTimeTransmit (port : Fin 4) (cls : Fin 8)
  /-- BACKBONE_FRAME_INGRESS (R291): A frame enters a backbone port and is classified, policed, learned, recovered and
  forwarded. -/
  | backboneFrameIngress (n : Fin 4) (f : BbFrame)
  /-- BACKBONE_FRAME_TRANSMIT (R295): A queued frame starts on an egress port when it ends before its gate closes. -/
  | backboneFrameTransmit (port : Fin 4) (cls : Fin 8)
  /-- GATE_ENTRY_CHANGE (R295): A gate control list entry's interval ends and the next entry takes effect. -/
  | gateEntryChange (n : Fin 4)
  /-- GCL_GO (R296): Writing BBS_GCLn_CTRL.GO checks the new list and sets PEND, or sets CFGERR. -/
  | gclGo (w : Writer) (n : Fin 4) (len : BitVec 9)
  /-- GCL_SWITCH (R296): At base + N × cycle the pending list takes over and OPERBANK toggles. -/
  | gclSwitch (n : Fin 4)
  /-- BBS_QUENCH_WRITE (R297): A write of BBS_QUENCHn closes egress classes and drops ingress on a port within 10 µs. -/
  | bbsQuenchWrite (w : Writer) (n : Fin 4) (indrop : Bool) (classes : BitVec 7)
  /-- TX_TAIL_WRITE (R298): A write of BBS_TXTAILc hands transmit descriptors to the switch. -/
  | txTailWrite (w : Writer) (c : Fin 8) (tail : BitVec 12)
  /-- RECOVERY_RESET (R300): After RESETMS ms without a kept frame a stream's recovery history resets. -/
  | recoveryReset (n : Fin 256)
  /-- STREAM_SILENT (R300): A stream has received on one port only for 1 s, so event 299 is raised. -/
  | streamSilent (n : Fin 256)
  /-- TABLE_READ (R301): The READ table command reads the entry at INDEX. -/
  | tableRead (w : Writer) (table : Fin 4) (i : BitVec 14)
  /-- TABLE_WRITE (R302): The WRITE table command writes the entry at INDEX, or is refused. -/
  | tableWrite (w : Writer) (table : Fin 4) (i : BitVec 14)
  /-- TABLE_FIND (R301): The FIND table command searches the filtering database for a MAC address and VID. -/
  | tableFind (w : Writer)
  /-- TABLE_DELETE (R301): The DELETE table command clears the entry at INDEX. -/
  | tableDelete (w : Writer) (table : Fin 4) (i : BitVec 14)
  /-- FDB_AGEING (R292): A learned filtering database entry reaches its age limit and is removed. -/
  | fdbAgeing (i : BitVec 14)
  /-- BACKBONE_LINK_CHANGE (R303): The link state of BB0 to BB3 changes. -/
  | backboneLinkChange (n : Fin 4) (up : Bool)
  /-- BUS_MASTER_ENABLE_CHANGE (R306): The host sets or clears Bus Master Enable, which permits or stops host memory access
  for session 0. -/
  | busMasterEnableChange (c : PcieCtl)
  /-- RING_ENABLE (R309): Writing EN = 1 on a ring pair resets HEAD and CPLNEXT and takes it into use. -/
  | ringEnable (w : Writer) (r : Fin 16)
  /-- RING_DISABLE (R309): Writing EN = 0 stops a ring pair and cancels taken commands not yet passed on. -/
  | ringDisable (w : Writer) (r : Fin 16) (slotsFree : Nat)
  /-- DOORBELL_WRITE (R310): A BAR2 doorbell write updates a command ring tail or DMA doorbell, or is discarded. -/
  | doorbellWrite (d : Fin 8192) (idx : BitVec 12) (filled : List (Option (List Word))) (late : Bool)
  /-- COMPLETION_WRITE (R312): A completed command's completion is written when its slot is free, and the ring's vector is
  raised as set. -/
  | completionWrite (sess : Fin 8) (ring : Fin 16) (slotFree ok : Bool)
  /-- INTERRUPT_MODERATION_EXPIRY (R313): The ITIME interval ends, and a deferred ring interrupt is raised. -/
  | interruptModerationExpiry (ring : Fin 16)
  /-- NOP (R321): The NOP command completes at once. -/
  | nop (ref : CmdRef)
  /-- LOGIN (R314): The LOGIN command checks a credential and raises session 0's role, with lockout after repeated failures. -/
  | login (ref : CmdRef) (buf : Option (List Byte))
  /-- LOGOUT (R314): The LOGOUT command returns session 0 to operator. -/
  | logout (ref : CmdRef)
  /-- CLAIM (R317): The CLAIM command takes ownership, is refused with OWNED, or waits. -/
  | claim (ref : CmdRef) (waits : Bool)
  /-- RELEASE (R317): The RELEASE command ends ownership and serves a waiting CLAIM. -/
  | release (ref : CmdRef)
  /-- HANDOVER (R318): The HANDOVER command offers ownership to a target session. -/
  | handover (ref : CmdRef) (target : Fin 8)
  /-- ACCEPT (R318): The ACCEPT command by the target moves ownership at once. -/
  | accept (ref : CmdRef)
  /-- TAKEOVER (R319): The TAKEOVER command takes ownership by force from an owner of equal or lower role. -/
  | takeover (ref : CmdRef)
  /-- FENCE (R331): The FENCE command completes once earlier writes are answered and reports PWFAIL. -/
  | fence (ref : CmdRef)
  /-- CLOSE (R321): The CLOSE command closes the session, orphaning ownership if it was the owner. -/
  | close (ref : CmdRef)
  /-- RDREG (R321): The RDREG command reads a register into RESULT. -/
  | rdreg (ref : CmdRef) (a : BitVec 40) (size : BitVec 32)
  /-- RDMEM (R321): The RDMEM command reads module memory into the buffer. -/
  | rdmem (ref : CmdRef) (a : BitVec 40) (n : BitVec 32) (bufOk : Bool)
  /-- SUBSCRIBE (R321): The SUBSCRIBE command sets the event sources whose entries a remote session receives as NOTICEs. -/
  | subscribe (ref : CmdRef) (mask : Option (List Byte))
  /-- RDLOG (R466): The RDLOG command returns ring entries in LOGSEQ order or critical places. -/
  | rdlog (ref : CmdRef) (arg0 n : BitVec 32) (bufOk : Bool)
  /-- RESET (R321): The RESET command causes a module reset with cause SOFT. -/
  | reset (ref : CmdRef)
  /-- QUENCH (R322): The QUENCH command sets a backbone port's or Jalora channel's QUENCH registers. -/
  | quench (ref : CmdRef) (arg0 arg1 : BitVec 32)
  /-- WRREG (R321): The WRREG command writes a register and reports fabric, lock or role errors. -/
  | wrreg (ref : CmdRef) (a : BitVec 40) (size data : BitVec 32)
  /-- WRMEM (R321): The WRMEM command writes module memory, subject to R126 and R189. -/
  | wrmem (ref : CmdRef) (a : BitVec 40) (bs : Option (List Byte))
  /-- LOGIN_LOCKOUT_END (R314): 60 s after the lockout began, LOGIN is accepted again. -/
  | loginLockoutEnd
  /-- TLS_CONNECT (R315): A TLS 1.3 connection is authenticated and opens a remote session, or is refused. -/
  | tlsConnect (hello : TlsHello) (anchor : List Nat) (fp : Nat)
  /-- TLS_CONNECTION_CLOSED (R315): A remote session's connection closes, its unstarted commands are discarded and ownership
  may become orphaned. -/
  | tlsConnectionClosed (sess : Fin 8)
  /-- UNIT_COMMAND (R316): A COMMAND unit is taken and started, or completes at once with FULL. -/
  | unitCommand (sess : Fin 8) (ty ring : Byte) (u : CmdUnit)
  /-- UNIT_KEEPALIVE (R316): A KEEPALIVE unit from the client is received. -/
  | unitKeepalive (sess : Fin 8)
  /-- UNIT_RINGS (R316): A RINGS unit sets the number of ring pairs of a remote session. -/
  | unitRings (sess : Fin 8) (u : RingsUnit)
  /-- KEEPALIVE_SEND (R316): After 2 s without sending, the module sends a KEEPALIVE. -/
  | keepaliveSend (sess : Fin 8)
  /-- SESSION_IDLE_TIMEOUT (R316): A session that has sent nothing for 10 s is closed. -/
  | sessionIdleTimeout (sess : Fin 8)
  /-- OFFER_TIMEOUT (R318): An ownership offer lapses after OFFERTO seconds, and HANDOVER completes with TIMEOUT. -/
  | offerTimeout
  /-- TAKEOVER_NOTICE (R319): At tK + 1 ms the old owner is notified of the forced takeover. -/
  | takeoverNotice
  /-- ORPHAN_HOLD_EXPIRY (R320): HOLD seconds after the owner closed, ownership ends and waiting CLAIMs are served. -/
  | orphanHoldExpiry
  /-- INBOUND_READ (R329): A host read through BAR0 completes successfully and records a non-OK fabric code in HBR_RDERR. -/
  | inboundRead (p : BarAddr) (size : Fin 16)
  /-- CROSSING_DEADLOCK_BREAK (R333): After 2 µs of mutual waiting the outbound read gets a retry response and the inbound
  read is served. -/
  | crossingDeadlockBreak (init : Fin 17) (o : BitVec 24) (size : Fin 16)
  /-- READ_REISSUE (R333): 1 µs after a retry response the read is re-issued, and after 16 retries it gives up. -/
  | readReissue (init : Fin 17)
  /-- OUTBOUND_READ_TIMEOUT (R332): No completion arrives within HBR_CPLTO, so the read returns DECODE and event 331 is
  raised. -/
  | outboundReadTimeout (init : Fin 18) (addr : BitVec 40)
  /-- OUTBOUND_READ_ERROR (R332): The host answers an outbound read with UR, CA or poison, and the initiator receives DECODE. -/
  | outboundReadError (init : Fin 18) (kind : Fin 3) (addr : BitVec 40)
  /-- HALF_LOCK_TIMEOUT (R334): The high half of a 64-bit host access does not follow within 1 µs, so the lock breaks. -/
  | halfLockTimeout
  /-- HOST_LOCK_GO (R335): Writing HBR_LOCK.GO locks a block for the host, or is refused. -/
  | hostLockGo (w : Writer) (block : BitVec 8) (time : BitVec 5)
  /-- HOST_UNLOCK (R335): Writing HBR_LOCK.UNLOCK releases the host lock. -/
  | hostUnlock (w : Writer)
  /-- HOST_LOCK_TIMEOUT (R335): TIME µs after a host lock it breaks, and event 330 is raised. -/
  | hostLockTimeout
  /-- CAN_CHANNEL_ENABLE (R337): Writing CHEN = 1 checks binding, map and timing and enables a CAN FD channel, or refuses it. -/
  | canChannelEnable (w : Writer) (n : Fin 2) (en : Bool)
  /-- DMA_GO (R356): Writing GO, or a doorbell, starts a chain-mode channel, or sets PEND or merges. -/
  | dmaGo (w : Writer) (n : Fin 16)
  /-- DMA_TAIL_WRITE (R356): A write of the ring TAIL starts a ring-mode channel. -/
  | dmaTailWrite (w : Writer) (n : Fin 16) (tail : BitVec 12)
  /-- DMA_ABORT (R363): Writing ABORT stops an active channel at the next burst boundary. -/
  | dmaAbort (w : Writer) (n : Fin 16)
  /-- DMA_ABORT_COMPLETE (R363): Issued accesses complete, and the current descriptor is written back ABORTED. -/
  | dmaAbortComplete (n : Fin 16) (moved : Nat) (ok : Bool)
  /-- DMA_CLEAR_HALT (R362): Writing CLRHALT returns a halted channel to IDLE. -/
  | dmaClearHalt (w : Writer) (n : Fin 16)
  /-- DMA_CHANNEL_ENABLE (R347): A write of a channel's EN enables it, or disables it with an abort. -/
  | dmaChannelEnable (w : Writer) (n : Fin 16) (en : Bool)
  /-- OUT_CHAIN_TRIGGER (R357): After the commit point and the gateway's done signal, the cycle engine starts the OUT chains
  of step 8. -/
  | outChainTrigger
  /-- COPY (R351): A COPY descriptor moves LEN bytes, downwards where ranges overlap. -/
  | copy (n : Fin 16)
  /-- FILL (R352): A FILL descriptor writes the 8-byte pattern, including single register writes. -/
  | fill (n : Fin 16)
  /-- TRANSPOSE (R353): A TRANSPOSE descriptor turns K record fields into bit planes. -/
  | transpose (n : Fin 16)
  /-- UNTRANSPOSE (R353): An UNTRANSPOSE descriptor turns bit planes into K record fields. -/
  | untranspose (n : Fin 16)
  /-- DEINTERLEAVE (R354): A DEINTERLEAVE descriptor moves record elements into element planes. -/
  | deinterleave (n : Fin 16)
  /-- INTERLEAVE (R354): An INTERLEAVE descriptor moves element planes into record elements. -/
  | interleave (n : Fin 16)
  /-- DESCRIPTOR_COMPLETE (R360): A descriptor's writes are all answered, its status is written back and the channel
  continues or halts. -/
  | descriptorComplete (n : Fin 16) (ok : Bool)
  /-- DMA_BUS_TIMEOUT (R364): A fabric access stays unanswered for 64 µs, and the descriptor ends with BUS_TIMEOUT. -/
  | dmaBusTimeout (n : Fin 16) (moved : Nat)
  /-- FIO_INPUT_CHANGE (R370): A channel's input level changes and reaches the latch after the filter time. -/
  | fioInputChange (n : Fin 24) (level : Bool)
  /-- OUTPUT_WATCHDOG_EXPIRY (R375): No refresh follows within T, so outputs take safe values and event 390 is raised. -/
  | outputWatchdogExpiry
  /-- OUTPUT_OVERLOAD (R376): An output is overloaded or shorted and is limited to 1.5 A. -/
  | outputOverload (n : Fin 24)
  /-- OVERLOAD_TURN_OFF (R376): 200 µs after an overload began the channel is off, OVL sets and LATCH follows on the third
  time. -/
  | overloadTurnOff (n : Fin 24)
  /-- OVERLOAD_RETRY (R376): After RETRY the channel switches on again if still commanded. -/
  | overloadRetry (n : Fin 24)
  /-- OUTPUT_LATCH_CLEAR (R376): Writing FIO_CHSTATn.CLR clears LATCH. -/
  | outputLatchClear (w : Writer) (n : Fin 24)
  /-- OPEN_WIRE_DETECT (R377): The open-wire condition holds for 100 ms, so OPEN sets or clears. -/
  | openWireDetect (n : Fin 24) (present : Bool)
  /-- EXTERNAL_VOLTAGE_DETECT (R377): An off output shows external voltage for 10 ms, so EXTV sets. -/
  | externalVoltageDetect (n : Fin 24) (present : Bool)
  /-- DRIVER_OVERTEMP (R377): An output driver exceeds +150 °C and is held off until it is below +130 °C. -/
  | driverOvertemp (n : Fin 24) (present : Bool)
  /-- FIELD_SUPPLY_CHANGE (R378): L1+ or L2+ becomes present or absent, raising event 388 or 389. -/
  | fieldSupplyChange (l2 present : Bool)
  /-- FC_EDGE (R381): An edge on a fast input is counted by its unit's mode. -/
  | fcEdge (levels : BitVec 8)
  /-- FC_LINE_FAULT (R383): A fast input's differential voltage stays below 200 mV for 10 µs, so a line fault is set. -/
  | fcLineFault (k : Fin 8) (present : Bool)
  /-- FC_COUNT_SET (R381): A write of FIO_FCSETk sets a counter unit's count. -/
  | fcCountSet (w : Writer) (k : Fin 8) (v : Word)
  /-- PAIR_TEST_PULSE (R385): Every TPP ms each channel of an on pair is pulsed off and its readback is checked. -/
  | pairTestPulse (p : Fin 4) (low : Bool)
  /-- PAIR_FAULT_DETECT (R385): A pair fault condition persists for its time, so the pair switches off and latches the code. -/
  | pairFaultDetect (p : Fin 4) (code : Fin 8)
  /-- PAIR_DEMAND_TIMEOUT (R384): The demand is not renewed within PWDT ms, so the pair goes off, latching code 5 if it was
  on. -/
  | pairDemandTimeout (p : Fin 4)
  /-- PAIR_LATCH_CLEAR (R386): Writing FIO_PAIRSTATp.CLR while the demand is 0 clears a pair's latched fault. -/
  | pairLatchClear (w : Writer) (p : Fin 4)
  /-- FIO_ENABLE (R388): Writing FIO_CTRL.EN checks map, pairs and counters and enables FIO, or switches it off. -/
  | fioEnable (w : Writer) (en : Bool)
  /-- SAFEGUARD_DATAGRAM_RECEIVE (R413): A Safeguard UDP datagram is kept as the latest per connection and path, or counted. -/
  | safeguardDatagramReceive (port : Fin 4) (udp : Nat) (bs : List Byte)
  /-- SFU_PUBLISH (R395): After step 8 SFU checks the stamp and publishes transmit PDUs and pair demands, or withholds them. -/
  | sfuPublish
  /-- SAFEGUARD_WATCHDOG_EXPIRY (R410): At the first t0 WD_M after the last restart the module watchdog of a connection
  expires. -/
  | safeguardWatchdogExpiry (c : Fin 128)
  /-- SS1_TIMEOUT (R403): TSS1 ms after an SS1 response began, EN drops to 0. -/
  | ss1Timeout (a : Fin 64)
  /-- SS2_STANDSTILL (R403): TSS2 ms after an SS2 response began, the standstill position is recorded. -/
  | ss2Standstill (a : Fin 64)
  /-- JX5_PATH_WATCHDOG (R416): A JX5 path's diagnostic watchdog expires, raising event 427. -/
  | jx5PathWatchdog (c : Fin 128) (path2 : Bool)
  /-- SAFETY_LOAD (R417): Writing SFU_CFGCTL.LOAD checks and copies a configuration record and computes its check value. -/
  | safetyLoad (w : Writer)
  /-- COMMISSION (R418): Writing COMMISSION compares SFU_CMTCV with the check value and stores the commissioned record. -/
  | commission (w : Writer)
  /-- DECOMMISSION (R418): Writing DECOMMISSION in STOP clears the commissioned value and returns to LOADED. -/
  | decommission (w : Writer)
  /-- POLL_RECEIVE (R431): A valid referee POLL is accepted or ignored and drives the module's pair state. -/
  | pollReceive (pairid : BitVec 16) (epoch : BitVec 32) (active : Fin 3)
  /-- STATUS_SEND (R429): In its own slot after a POLL the module sends its STATUS frame. -/
  | statusSend (partner : Option (List Byte))
  /-- HEARTBEAT_MISSED (R433): A heartbeat passes without a valid POLL, direct or relayed. -/
  | heartbeatMissed
  /-- RELAYED_POLL_RECEIVE (R433): A POLL relayed over the pair link is used when no direct POLL came. -/
  | relayedPollReceive (pairid : BitVec 16) (epoch : BitVec 32) (active : Fin 3)
  /-- PAIR_LINK_DOWN (R434): A pair link lane loses block lock or is silent for 500 µs, so the link is down. -/
  | pairLinkDown
  /-- PAIR_LINK_UP (R434): The pair link comes up again. -/
  | pairLinkUp
  /-- PAIR_KEEPALIVE_SEND (R434): Each module sends a frame on each pair link lane at least every 100 µs. -/
  | pairKeepaliveSend (lane : Fin 2)
  /-- PAIR_TIME_MESSAGE (R435): Every 1 ms the modules exchange time messages, and the standby steers its time unit. -/
  | pairTimeMessage (m : PairTime)
  /-- JOIN_REQUEST (R436): A joining module's copy request is checked by the active against Table 18.5. -/
  | joinRequest (ver : Byte) (issue variant : Nat) (pairid : BitVec 16) (pos : Fin 3) (same : Bool) (rtid : BitVec 32) (fault : Bool) (units : BitVec 32)
  /-- FULL_COPY_BLOCK (R437): A full copy block arrives at the standby and is applied. -/
  | fullCopyBlock (b : CopyBlock) (remain : BitVec 32)
  /-- DELTA_HEADER (R438): A delta header arrives at the standby and sets PAIR_ANNOUNCED, or breaks the stream. -/
  | deltaHeader (seq : BitVec 64)
  /-- DELTA_RECEIVE (R438): A complete delta with its pair record is applied to the standby's memory and acknowledged. -/
  | deltaReceive (d : Delta)
  /-- STANDBY_SELF_TEST (R440): Every 10 s the standby completes a self-test pass of every core and solver. -/
  | standbySelfTest (ok : Bool)
  /-- HEALTH_UPDATE (R441): Every 10 ms the module updates PAIR_HEALTH and sends it to its partner. -/
  | healthUpdate
  /-- PARTNER_HEALTH_RECEIVE (R441): The partner's health word arrives and a change raises event 466. -/
  | partnerHealthReceive (st : Fin 10) (refown : Bool) (health : BitVec 32)
  /-- MIRROR_FRAME_RECEIVE (R442): A standby channel in MIRROR receives a relayed module frame and sends it at its action
  point, or reports it late. -/
  | mirrorFrameReceive (c : Fin 4) (m : MirrorMsg)
  /-- RELAYED_FRAME_RECEIVE (R443): A frame relayed from the partner's port is treated as the copy of the other path. -/
  | relayedFrameReceive (c : Fin 4) (t : Int) (bytes : List Byte)
  /-- PLANNED_SWITCHOVER (R448): Writing PAIR_CTRL.SWITCH makes the active resign for a planned switch-over, or is refused. -/
  | plannedSwitchover (w : Writer)
  /-- REJOIN (R436): Writing PAIR_CTRL.REJOIN starts a new join. -/
  | rejoin (w : Writer)
  /-- SLICE_INTERRUPT_DELIVERY (R456): A source routed to the slices is delivered as an interrupt outside the log window. -/
  | sliceInterruptDelivery
  /-- EVENT_LATCH_REPLAY (R458): When island 8 is on again EVC replays the sources held in the always-on latch. -/
  | eventLatchReplay
  /-- LOG_ENTRY_WRITE (R462): EVC writes a waiting report from the capture FIFO into the error log. -/
  | logEntryWrite
  /-- LOG_ENTRY_CLOSE (R461): 10 ms after its first report an open entry closes and is written again. -/
  | logEntryClose
  /-- CRITICAL_ACK (R465): Writing EVC_CRITACK.ACK acknowledges every critical entry present. -/
  | criticalAck (w : Writer)
  /-- CRITICAL_CLEAR (R465): Writing EVC_CRITACK.CLR empties the critical area and clears CRITFULL. -/
  | criticalClear (w : Writer)
  /-- FIRMWARE_LOG (R460): Writing the high half of EVC_FWLOG logs a firmware report as source 511. -/
  | firmwareLog (w : Writer) (crit : Bool) (detail : BitVec 48)
  /-- GLEANER_SECOND (R467): Each second of IOSC time advances the Gleaner's time counts. -/
  | gleanerSecond
  /-- GLEANER_PERSIST (R468): Every 10 min the Gleaner persists a snapshot to the alternate Granary copy. -/
  | gleanerPersist
  /-- GLEANER_PERSIST_GO (R468): Writing GLN_PERSIST.GO persists the Gleaner now. -/
  | gleanerPersistGo (w : Writer)
  /-- GLEANER_SAMPLE (R470): Every 10 s the plate temperature and rail voltage are sampled into histograms. -/
  | gleanerSample (temp : Int) (rail : Nat)
  /-- GLEANER_USER_CLEAR (R470): Writing GLN_UCLR.GO zeroes the user counters and histograms 16 to 31. -/
  | gleanerUserClear (w : Writer)
  /-- HISTOGRAM_ADD (R470): Writing GLN_HADD adds 1 to a bin of a firmware histogram. -/
  | histogramAdd (w : Writer) (h b : Fin 32)
  /-- COMMISSIONING_LOCK_SET (R476): Writing ACC_LOCK.LOCK sets the commissioning lock. -/
  | commissioningLockSet (w : Writer)
  /-- COMMISSIONING_LOCK_RELEASE (R476): Writing ACC_LOCK.UNLOCK in STOP releases the commissioning lock. -/
  | commissioningLockRelease (w : Writer)
  /-- JOURNAL_DRAIN (R479): A journal record is complete in the ring, and GRN_SEQ advances. -/
  | journalDrain
  /-- BASE_REWRITE_COMPLETE (R480): A base rewrite completes, the new copy becomes valid and older journal records are freed. -/
  | baseRewriteComplete
  /-- STAGE_BEGIN (R485): The STAGE_BEGIN command takes the staging lock and erases the staging slot. -/
  | stageBegin (ref : CmdRef) (kind : Fin 4) (len : BitVec 32)
  /-- STAGE_DATA (R486): The STAGE_DATA command writes a block of the staged object into flash. -/
  | stageData (ref : CmdRef) (off : BitVec 32) (n : Nat) (buf : Option (List Byte))
  /-- ACTIVATE (R488): The ACTIVATE command activates a staged credential set at once, or starts warm activation of an image
  or settings. -/
  | activate (ref : CmdRef) (kind : Fin 4) (revert restart : Bool)
  /-- CONFIRM (R490): The CONFIRM command ends a trial and raises UPD_SECMIN. -/
  | confirm (ref : CmdRef)
  /-- STAGING_LOCK_TIMEOUT (R486): 600 s without staging activity releases the staging lock. -/
  | stagingLockTimeout
  /-- UPDATE_STAGE_END (R485): The STAGE_END update command (opcode 0x42) verifies the staged object's signature, CRC and
  bindings and completes OK, CHECK, BASE or LIMIT. -/
  | updateStageEnd (ref : CmdRef) (obj : StagedObj)
  /-- FETCH_OUTSIDE_PROGRAM (R176): The pc advances past the last instruction of an active page and the fetch at the new pc
  faults with RANGE, reporting the page's first index and instruction word 0. -/
  | fetchOutsideProgram
  /-- PCIE_LINK_DOWN (R326): The PCIe link goes down without PERST_N, so LINKUP clears, outbound window accesses answer
  DECODE and outbound posted writes are discarded. -/
  | pcieLinkDown
  /-- CYCLE_TRIGGER_RESTORED (R134): The time unit's cycle-start trigger returns, FABTRIG clears and the engine resumes at
  the first aligned instant at least 0.5 × P after the last counted start. -/
  | cycleTriggerRestored
  /-- PLL_RELOCK (R123): A slice or solver PLL that lost lock relocks, so the next cycle need not fail with LASTRES 7. -/
  | pllRelock (k : Fin 3)
  /-- DELTA_ACKNOWLEDGE (R438): The active receives the standby's acknowledgement of an applied delta and sets PAIR_APPLIED
  to the last acknowledged CKP_SEQ. -/
  | deltaAcknowledge (seq : BitVec 64)
  /-- COMPLETION_SLOT_RETURN (R312): The host returns a stalled completion slot with OWN = 1, so the held completion is
  written and the pair takes commands again. -/
  | completionSlotReturn (ring : Fin 16)
  deriving DecidableEq, Repr

end Sys2Proof
end

