-- ==== Sys2Proof/Decode.lean ====
section
/-! DEFINITION. The command a word spells. The rows of spec/opcode_table.json give no bits; the words that the spec does give are
those of the Sheaf instruction set (R159, Tables 7.1 and 7.3 to 7.8), of 32 bits each. Every other command comes from outside as an
operation with its operands, and no word spells it. -/

namespace Sys2Proof

/-- Bits [lo + n − 1 : lo] of a word. -/
def wordField (w lo n : Nat) : Nat := w / 2 ^ lo % 2 ^ n

/-- The operand fields of an instruction word (Table 7.1). -/
def wordOpnd (w : Nat) : Opnd := ⟨wordField w 23 3, wordField w 22 1 == 1, wordField w 21 1 == 1, wordField w 0 21⟩

/-- Bit, branch and store opcodes (Tables 7.3 to 7.5), 0x00 to 0x1F; the opcodes between are reserved. -/
def decodeBitOp (op : Nat) (o : Opnd) : Instr :=
  match op with
  | 0x00 => .ld o | 0x01 => .ldn o | 0x02 => .and o | 0x03 => .andn o | 0x04 => .or o | 0x05 => .orn o | 0x06 => .xor o
  | 0x07 => .xorn o | 0x08 => .not o | 0x09 => .ldim o | 0x0A => .shu o | 0x0B => .shd o | 0x0C => .any o | 0x0D => .all o
  | 0x10 => .open_ o | 0x11 => .orb o | 0x12 => .andb o | 0x13 => .xorb o | 0x14 => .dup o | 0x15 => .pop o | 0x16 => .peek o
  | 0x17 => .drop o | 0x18 => .st o | 0x19 => .stn o | 0x1A => .set o | 0x1B => .rst o | 0x1C => .tgl o
  | n => .reservedOpcode n o

/-- Edge, timer, counter, word and control opcodes (Tables 7.6 to 7.8), 0x20 to 0x3F. -/
def decodeWordOp (op : Nat) (o : Opnd) : Instr :=
  match op with
  | 0x20 => .edr o | 0x21 => .edf o | 0x22 => .ton o | 0x23 => .tof o | 0x24 => .tp o | 0x25 => .ctu o | 0x26 => .ctd o
  | 0x27 => .ctud o | 0x28 => .wld o | 0x29 => .wst o | 0x2A => .wadd o | 0x2B => .wsub o | 0x2C => .wmul o | 0x2D => .wdiv o
  | 0x2E => .wand o | 0x2F => .wor o | 0x30 => .weq o | 0x31 => .wne o | 0x32 => .wlt o | 0x33 => .wle o | 0x34 => .wgt o
  | 0x35 => .wge o | 0x36 => .wlim o | 0x37 => .wsel o | 0x38 => .tsel o | 0x39 => .trun o | 0x3A => .jmpc o | 0x3B => .jmp o
  | 0x3C => .call o | 0x3D => .ret o | 0x3E => .mark o | 0x3F => .end_ o
  | n => .reservedOpcode n o

/-- The Sheaf instruction that a 32-bit word spells. -/
def decodeSheaf (w : Nat) : Instr :=
  let op := wordField w 26 6
  if op < 0x20 then decodeBitOp op (wordOpnd w) else decodeWordOp op (wordOpnd w)

/-- The command that an `nbits`-bit word spells: a Sheaf instruction for 32 bits, and else none. -/
def decodeTableWord (nbits w : Nat) : Option Instr := if nbits = 32 then some (decodeSheaf w) else none

end Sys2Proof
end

