-- ==== Sys2Proof/Machine/RegTypes.lean ====
section
/-! DEFINITION. What a register field and a register are (R5 to R8, Table 0.3): the types of the register map. -/

namespace Sys2Proof.Machine

/-- The access codes of Table 0.3. -/
inductive Acc where
  | rw | ro | w1c | wo | rwl | rwo
  deriving DecidableEq, Repr

/-- One field of one register: the fabric address of its register, its lowest bit, its width, its access code and its
value after power-on reset. -/
structure Fld where
  addr : Nat
  lo : Nat
  width : Nat
  acc : Acc
  rst : Nat
  deriving DecidableEq, Repr

/-- A register, or a family of indexed copies of one: address of copy 0, whether it is 64 bits wide, the (count, stride)
pairs of its indices from the outermost, and the fields of copy 0. -/
structure RegDesc where
  base : Nat
  is64 : Bool
  dims : List (Nat × Nat)
  fields : List Fld
  deriving DecidableEq, Repr

end Sys2Proof.Machine
end

