-- ==== Sys2Proof/Machine/Internal.lean ====
section
/-! DEFINITION. Single numbers and flags that the chapters give the blocks beside their registers. They are kept like
register fields, at keys above the 40-bit fabric address space, so that no access reaches them. Each docstring names
the rule that gives the piece of state. -/

namespace Sys2Proof.Machine

/-- Internal field `id`, copy `n`, of `w` bits, with value `rst` after reset. -/
def ifld (id n w rst : Nat) : Fld := ⟨0x10000000000 + 0x100000 * id + n, 0, w, .ro, rst⟩

namespace I

/-- Entries the error log ring holds, 0 to 4,096 (R463). Retained. -/
def EVC_RINGCOUNT : Fld := ifld 1 0 13 0
/-- One more than the second in which event 506 was last raised; 0 before (R463). -/
def EVC_LAST506 : Fld := ifld 2 0 64 0
/-- Raises lost while the always-on latch was full (R458). -/
def EVC_LATCHLOST : Fld := ifld 3 0 32 0
/-- Entries the audit ring holds, 0 to 8,192 (R477). Retained. -/
def ACC_AUDCOUNT : Fld := ifld 4 0 14 0
/-- One more than the second in which event 483 was last raised; 0 before (R477). -/
def ACC_LAST483 : Fld := ifld 5 0 64 0
/-- 1: the undo log is full in this window and captures nothing further (R117). -/
def CKP_LOGFULL : Fld := ifld 6 0 1 0
/-- One more than the solver clock at which the last undo log entry was written; 0: none in this solve (R116). -/
def CKP_LASTENT : Fld := ifld 7 0 64 0
/-- Solver clocks, stall clocks and instructions of the solve in progress (R164, Table 7.16). -/
def LSV_CLKNOW : Fld := ifld 8 0 32 0
def LSV_STALLNOW : Fld := ifld 8 1 32 0
def LSV_INSTRNOW : Fld := ifld 8 2 32 0
/-- 1: pc has advanced past instruction 1,048,575, the last of the program store (R156, R176). -/
def LSV_PCOUT : Fld := ifld 32 0 1 0
/-- Timer and counter elements updated in the solve in progress (Table 8.15). -/
def TMR_TIMNOW : Fld := ifld 9 0 16 0
def TMR_CNTNOW : Fld := ifld 9 1 16 0
/-- 1: a verdict has been requested and not yet delivered (R105, R118). -/
def CKP_VREQ : Fld := ifld 10 0 1 0
/-- 1: the solve in progress has ended in a program fault (R181). -/
def CKP_PROGFAULT : Fld := ifld 11 0 1 0
/-- 1: the solver has ended its part of the stage (R135, R178). -/
def CYC_SOLVDONE : Fld := ifld 12 0 1 0
/-- Place of the cycle engine and checkpoint unit in the executing cycle (R19, Tables 5.4 and 5.5): 0 none; 1 solve (log
window open); 2 verdict requested; 3 commit in progress; 4 restore in progress. -/
def CYC_PH : Fld := ifld 13 0 3 0
/-- 1: a cycle has started and its log window has not yet opened (steps 1 to 4 of Table 1.3). -/
def CYC_IN : Fld := ifld 14 0 1 0
/-- 1: the input phase of the newest cycle ended while the cycle before was still in restore or commit (Table 6.1). -/
def CYC_WAITPREV : Fld := ifld 15 0 1 0
/-- Re-executions of the executing cycle (R121). -/
def CYC_REEX : Fld := ifld 16 0 4 0
/-- LASTRES of the failed commit that the restore in progress belongs to; 0: a rollback (Table 5.5, Table 5.6). -/
def CYC_CAUSE : Fld := ifld 17 0 4 0
/-- State change that is pending (R143): 0 none; 1 START; 2 STOP; 3 HALT; 4 STEP; 5 RESUME; 6 the start of a promoted
module (Table 18.7, step 6); 7 an automatic start (Table 3.3, Table 20.8). -/
def CYC_PENDCMD : Fld := ifld 18 0 4 0
/-- Session of the pending command, and the earliest instant at which it may take effect, in ns (Table 6.3). -/
def CYC_PENDSESS : Fld := ifld 19 0 4 0
def CYC_PENDDUE : Fld := ifld 20 0 128 0
/-- 1: START or RESUME has taken effect and its first commit point has not come (R146). -/
def CYC_FIRST : Fld := ifld 21 0 1 0
/-- 1: a STEP cycle is in progress (R141). -/
def CYC_STEPPING : Fld := ifld 22 0 1 0
/-- 1: the deadline of the executing cycle has passed while its commit was in progress (Table 6.1, step 2). -/
def CYC_LATE : Fld := ifld 23 0 1 0
/-- t0 of the executing cycle: seconds and nanoseconds (R105, R106). -/
def CYC_T0SEC : Fld := ifld 24 0 64 0
def CYC_T0NS : Fld := ifld 24 1 32 0
/-- Time unit time, in ns, at which the log window opened, the verdict was requested, the divergence was reported. -/
def CKP_TOPEN : Fld := ifld 25 0 128 0
def CKP_TV : Fld := ifld 25 1 128 0
def CKP_TD : Fld := ifld 25 2 128 0
/-- The valid bank of the checkpoint store (R106). -/
def CKP_BANK : Fld := ifld 26 0 1 0
/-- 1: core c runs a slice task (R135). -/
def CORE_TASK (c : Nat) : Fld := ifld 27 c 1 0
/-- Slices that are to be joined at the next commit point (R89, R93, R96), as a mask. -/
def SLC_REJOIN : Fld := ifld 28 0 3 0
/-- Window number of the current signature window (R85). -/
def WNW_WINDOW : Fld := ifld 29 0 64 0
/-- Slice whose signature the next self-test alters (R98). -/
def WNW_TESTSLICE : Fld := ifld 30 0 2 0
/-- 1: slice k's PLL (cores or solver) has lost lock (R18). -/
def PLL_LOST (k : Nat) : Fld := ifld 34 k 1 0
/-- 1: slice k has stopped in Solo mode (R18, R80). -/
def SLC_STOPPED (k : Nat) : Fld := ifld 35 k 1 0
/-- 1: boot complete (step 9 of Table 3.3). -/
def BOOTED : Fld := ifld 36 0 1 0
/-- 1: the module serves commands from the boot ROM of R62. -/
def ROM : Fld := ifld 37 0 1 0
/-- 1: the module is held in reset (Table 2.5 step 7, R47, R53, R73). -/
def HELD : Fld := ifld 38 0 1 1
/-- 1: a rollback (event 65) of the executing cycle ended in the re-execution that now runs (Table 5.5, step 6). -/
def CKP_WASROLLED : Fld := ifld 39 0 1 0
/-- 1: the delta of the last commit is still being sent (R127, R128). -/
def CKP_DELTABUSY : Fld := ifld 40 0 1 0
/-- 1: the copy of a join, or the loading of a change, is stopped until the next commit (Table 4.6 step 3, R150). -/
def SLC_COPYSTOP : Fld := ifld 42 0 1 0
/-- Units of 4 KiB that the first pass of the copy has moved; time in ns of the step of the join in progress (Table 4.6). -/
def SLC_COPIED : Fld := ifld 115 0 11 0
def SLC_CPT : Fld := ifld 115 1 16 0
/-- Slices that have left the participating ones and run tasks of their own, as a mask (Table 4.5, R65). -/
def SLC_FREE : Fld := ifld 116 0 3 0
/-- Slices that the port check, the store vote, ECC or a parity error has named in the signature window in progress, and the source
of the first of them; the signature that the next window end inverts: one more than its slice (R86, R104). -/
def WNW_NAMED : Fld := ifld 117 0 3 0
def WNW_NAMESRC : Fld := ifld 117 1 3 0
def WNW_INJ : Fld := ifld 117 2 3 0
/-- A divergence found while a commit was in progress, handled after the commit point (R119): slices of a minority as a
mask; 1: no majority or Duo mismatch. -/
def WNW_DEFERMIN : Fld := ifld 43 0 3 0
def WNW_DEFERDUO : Fld := ifld 43 1 1 0
/-- 1: the migration list of a switched change is to be executed (R151, R203). -/
def CHG_MIGPEND : Fld := ifld 44 0 1 0
/-- 1: ARM has been accepted in RUN and waits for the next commit point (R151). -/
def CHG_ARMED : Fld := ifld 45 0 1 0
/-- 1: this module has loaded the set and, in a pair, so must the standby (R150, R438). -/
def CHG_LOCALDONE : Fld := ifld 46 0 1 0
/-- Filtered level of input n, or terminal level above 11 V of output n (R370, Table 16.1); raw level of FC input k. -/
def FIO_LEVEL (n : Nat) : Fld := ifld 47 n 1 0
def FIO_FCLEVEL (k : Nat) : Fld := ifld 48 k 1 0
/-- Time unit time, in ns, of the last change of the count of unit k (R382). -/
def FIO_FCTIME (k : Nat) : Fld := ifld 49 k 128 0
/-- Commands read at the last refresh, and the states driven when the present safe-value condition arose (R373, R374). -/
def FIO_CMD : Fld := ifld 50 0 24 0
def FIO_HOLD : Fld := ifld 50 1 24 0
/-- 1: row 3 of Table 16.3 applies since its condition arose and until the refresh after it ended. -/
def FIO_ROW3 : Fld := ifld 51 0 1 0
/-- 1: the output watchdog expired since the previous t0 (Table 16.2). -/
def FIO_WDPREV : Fld := ifld 52 0 1 0
/-- Level of input n before its filter, and the time, in ns, at which it took it (R370). -/
def FIO_RAW (n : Nat) : Fld := ifld 129 n 1 0
def FIO_RAWT (n : Nat) : Fld := ifld 130 n 128 0
/-- Time, in ns, of the last refresh, or of the release of the safe-output signal after it (R375). -/
def FIO_REFT : Fld := ifld 131 0 128 0
/-- Time, in ns, at which the overload of channel n began, and at which it was turned off (Table 16.4). -/
def FIO_OVLT (n : Nat) : Fld := ifld 132 n 128 0
def FIO_OFFT (n : Nat) : Fld := ifld 133 n 128 0
/-- Time, in ns, of the last demand of pair p; one more than the number of the eighth of TPP in which pair p was last tested; 0: never
(R384, R385). -/
def FIO_DEMT (p : Nat) : Fld := ifld 134 p 128 0
def FIO_TPT (p : Nat) : Fld := ifld 135 p 128 0
/-- Consecutive overload turn-offs of channel n, and the time it was last switched on, in ns (R376). -/
def FIO_CONSEC (n : Nat) : Fld := ifld 53 n 8 0
def FIO_ONTIME (n : Nat) : Fld := ifld 54 n 128 0
/-- 1: channel n is overloaded and limited to 1.5 A (Table 16.4, step 1). -/
def FIO_OVLNOW (n : Nat) : Fld := ifld 55 n 1 0
/-- 1: the power-fail sequence has applied the safe values (Table 2.5, step 5). -/
def FIO_PFSAFE : Fld := ifld 56 0 1 0
/-- Channels whose next off-pulse is expected of the first (0) or second (1) member of pair p (R385). -/
def FIO_TPNEXT (p : Nat) : Fld := ifld 57 p 1 0
/-- Commits since the last CONFIG container of CAN channel n, and its CSEQ (R341, Table 14.2). -/
def CGW_COMMITS (n : Nat) : Fld := ifld 58 n 8 0
def CGW_CSEQ (n : Nat) : Fld := ifld 59 n 8 0
/-- 1: a transmit buffer of channel c has become ready since the last switch, and its number (R226). -/
def JLA_RDY (c : Nat) : Fld := ifld 60 c 1 0
def JLA_RDYBUF (c : Nat) : Fld := ifld 61 c 1 0
/-- Identifier of the safety runtime in the execution bank (R397, R417). Retained. -/
def SFU_RTID : Fld := ifld 62 0 32 0
/-- The commissioned record in the Granary: 1 if there is one, its check value and its length (R418). Retained. -/
def SFU_STORED : Fld := ifld 63 0 1 0
def SFU_STOREDCV : Fld := ifld 63 1 32 0
def SFU_STOREDLEN : Fld := ifld 63 2 16 0
/-- Length of the record in the safety area (R417). -/
def SFU_LOADLEN : Fld := ifld 114 0 16 0
/-- 1: the Gleaner is to be restored at start-up step 7, since the last reset was a power-on reset (R468). -/
def GLN_LOAD : Fld := ifld 64 0 1 1
/-- Time, one more than ns, of the last two failed LOGINs; 0: none. 1: LOGIN is locked out (R314). -/
def HBR_FAILT (n : Nat) : Fld := ifld 65 n 128 0
def HBR_LOCKOUT : Fld := ifld 66 0 1 0
/-- Time, in ns, at which the lockout ends (R314). -/
def HBR_LOCKEND : Fld := ifld 66 1 128 0
/-- TAIL of command ring r as its doorbell last gave it (R310). -/
def HBR_TAIL (r : Nat) : Fld := ifld 67 r 12 0
/-- Interrupt of ring r deferred; completions without CI since its vector was last raised; one more than the time in ns at
which it was last raised (R313). -/
def HBR_VPEND (r : Nat) : Fld := ifld 68 r 1 0
def HBR_ICNT (r : Nat) : Fld := ifld 69 r 16 0
def HBR_VLAST (r : Nat) : Fld := ifld 70 r 128 0
/-- 1: a completion of ring r waits for its slot (R312). -/
def HBR_STALLED (r : Nat) : Fld := ifld 71 r 1 0
/-- Time, in ns, at which session n last sent a unit, and at which the module last sent it one (R316). -/
def HBR_LASTRX (n : Nat) : Fld := ifld 72 n 128 0
def HBR_LASTTX (n : Nat) : Fld := ifld 73 n 128 0
/-- Time, in ns, at which a pending offer of ownership lapses (R318). -/
def HBR_OFFEREND : Fld := ifld 113 0 128 0
/-- Time, in ns, at which orphaned ownership ends (R320). -/
def HBR_HOLDEND : Fld := ifld 113 1 128 0
/-- The MSI-X table and the pending bits in BAR4 (Table 13.1, R313); a vector is masked after reset, as PCI Express has it (PRESUMED, log
entry 117). -/
def HBR_MSIXADDR (v : Nat) : Fld := ifld 124 v 64 0
def HBR_MSIXDATA (v : Nat) : Fld := ifld 125 v 32 0
def HBR_MSIXMASK (v : Nat) : Fld := ifld 126 v 1 1
def HBR_MSIXPEND (v : Nat) : Fld := ifld 127 v 1 0
/-- MSI-X Enable and Function Mask, and the code of the Max Read Request Size, in configuration space (R305, R313; PRESUMED, log entry
117). -/
def HBR_MSIXEN : Fld := ifld 144 0 1 0
def HBR_FMASK : Fld := ifld 144 1 1 0
def HBR_MRRS : Fld := ifld 144 2 3 2
/-- 1: remote session n came in on the service address of the pair (R426, R444). -/
def HBR_SVC (n : Nat) : Fld := ifld 145 n 1 0
/-- Time, in ns, at which HBR_LOCK has locked a block for the host (R335). -/
def HBR_LOCKT : Fld := ifld 128 0 128 0
/-- Sequence reserve SEQRES of the control block (R107). Retained. -/
def GRN_SEQRES : Fld := ifld 75 0 128 0x100000000
/-- 1: the journal is broken until the base rewrite completes (R481); start number of the rewrite in progress (R480). -/
def GRN_BROKEN : Fld := ifld 76 0 1 0
def GRN_SBNEXT : Fld := ifld 76 1 64 0
/-- Index of the settings bank that is not current and still must be kept for a trial, and whether the start in progress is
the first of a trial (R490). Retained. -/
def UPD_TRIALKIND : Fld := ifld 77 0 2 0
def UPD_TRIALNEW : Fld := ifld 77 1 1 0
/-- Boot watchdog expiries in succession (R62, R491). Retained. -/
def UPD_BOOTFAILS : Fld := ifld 78 0 2 0
/-- 1: START is to stamp retained running timers with the timebase of the first cycle (R201). -/
def TMR_REBASE : Fld := ifld 79 0 1 0
/-- 1: the error log registers are to be reloaded at step 7; what they held: LOGSEQ, HEAD, CRITUSED, UNACK, CRITFULL.
Retained with the log (R459, Table 3.3). -/
def EVC_RELOAD : Fld := ifld 80 0 1 0
def EVC_SAVED (n : Nat) : Fld := ifld 81 n 32 0
/-- Forces that the last reset cleared and that no audit entry has recorded yet (R149). Retained. -/
def CYC_FCLEARED : Fld := ifld 82 0 11 0
/-- 1: a warm activation waits for tS (Table 20.8, step 1); 1: it ends with START, and its kind and REVERT. -/
def UPD_WARM : Fld := ifld 83 0 1 0
def UPD_WARMRUN : Fld := ifld 83 1 1 0
def UPD_WARMKIND : Fld := ifld 83 2 2 0
def UPD_WARMREV : Fld := ifld 83 3 1 0
/-- 1: channel c runs in hold (R489). -/
def JLA_HOLD (c : Nat) : Fld := ifld 84 c 1 0
/-- Total length of the object being staged (R485). -/
def UPD_LEN : Fld := ifld 85 0 32 0
/-- 1: the power-fail sequence has passed step 3, and a module reset follows it (R47); 1: only a power-on reset ends the hold
in reset (R73). -/
def PWR_PFLATE : Fld := ifld 86 0 1 0
def PWR_PORONLY : Fld := ifld 86 1 1 0
/-- 1: the wake from Fallow ignores AUTOSTART (R67). -/
def PWR_NOAUTO : Fld := ifld 87 0 1 0
/-- 1: OCXO_OK was still 0 at tP + 3 s, and the controller is never started (R58). -/
def PWR_OCXOFAIL : Fld := ifld 88 0 1 0
/-- 1: the OCXO has been lost since the last reset, and TIME shows amber (R59). -/
def PWR_OCXOLOST : Fld := ifld 119 0 1 0
/-- Clocks of 2 ns left of the lamp test, which a power-on reset starts and which lasts 0.5 s (R49). -/
def PWR_LAMP : Fld := ifld 121 0 28 250000000
/-- 1: after a plate stop no reset has been taken below +70 °C (R51). -/
def PWR_PLATEHOLD : Fld := ifld 122 0 1 0
/-- Output channels that are to be on, whether or not their supply is there (R378). -/
def FIO_WANT : Fld := ifld 123 0 24 0
/-- What the TIME LED of the pair's active shows, as last heard (Table 11.1). -/
def TIM_PLAMP : Fld := ifld 120 0 3 0
/-- 1: the wake latch holds a source to be replayed when entry completes (R72). -/
def PWR_LATCHED : Fld := ifld 89 0 1 0
/-- Pair state of the partner as last reported (Table 18.1). -/
def PAIR_PARTNER : Fld := ifld 90 0 4 0

/-- 1: the commit in progress issues its queued register stores, whose TXRDY carries the number of the commit (R226). -/
def CKP_ISSUING : Fld := ifld 91 0 1 0
/-- 1: the active asks to be revoked (R432, R448); 1: for a planned switch-over; 1: event 459 has been raised for it. -/
def PAIR_RESIGN : Fld := ifld 92 0 1 0
def PAIR_PLANNED : Fld := ifld 92 1 1 0
def PAIR_RESIGNSENT : Fld := ifld 92 2 1 0
/-- Accepted POLLs in succession that name no active, up to 3 (R431). -/
def PAIR_ZEROS : Fld := ifld 93 0 2 0
/-- 1: the last block of the full copy has been applied (R437). -/
def PAIR_LASTBLK : Fld := ifld 94 0 1 0
/-- 1: the last delta carried the tC mark (R438). -/
def PAIR_TC : Fld := ifld 95 0 1 0
/-- Verification mismatches in succession (R440). -/
def PAIR_VERMISS : Fld := ifld 96 0 2 0
/-- 1: a join was refused and REJOIN has not been written (R436). -/
def PAIR_NOJOIN : Fld := ifld 97 0 1 0
/-- REFOWN as the partner last reported it (R433). -/
def PAIR_PARTREF : Fld := ifld 98 0 1 1
/-- One more than the time, in ns, of the last POLL received directly; 0: none (R433). -/
def PAIR_POLLT : Fld := ifld 99 0 128 0
/-- 1: a delta has been announced and not yet been received whole (R438). -/
def PAIR_INCOMPL : Fld := ifld 100 0 1 0
/-- 1: channel c runs in MIRROR (R442); 1: its output slots stay empty until the first TXRDY after promotion (Table 18.7). -/
def JLA_MIRROR (c : Nat) : Fld := ifld 101 c 1 0
def JLA_EMPTY (c : Nat) : Fld := ifld 102 c 1 0
/-- SELFPASS, SELFOK and VEROK of the health word (Table 18.6). -/
def PAIR_SELFPASS : Fld := ifld 103 0 8 0
def PAIR_SELFOK : Fld := ifld 103 1 1 0
def PAIR_VEROK : Fld := ifld 103 2 1 0
/-- Execution mode of the last pair record (R438). -/
def PAIR_MODE : Fld := ifld 104 0 2 0
/-- 1: the time unit has entered PAIR and has not yet taken the active's time (R435). -/
def TIM_PAIRSTEP : Fld := ifld 105 0 1 0
/-- 1: the standby has loaded the change set (R150, R438). -/
def CHG_STANDBYDONE : Fld := ifld 106 0 1 0
/-- 1: the register queue has overflowed, and further register stores of the window are issued directly (R111). -/
def CKP_REGDIRECT : Fld := ifld 107 0 1 0
/-- 1: the deadline of the newest cycle is still to come (R138). -/
def CYC_DLDUE : Fld := ifld 109 0 1 0
/-- 1: the IN chains of the newest cycle have been started (R357); 1: the OUT chains of the last commit are to be started. -/
def CYC_INRUN : Fld := ifld 110 0 1 0
def CYC_OUTDUE : Fld := ifld 110 1 1 0
/-- 1: step 10 of the last commit is still to come (Table 1.3). -/
def SFU_PUBDUE : Fld := ifld 118 0 1 0
/-- The earliest t0, in ns, that the engine takes next (R132, R134). -/
def CYC_TMIN : Fld := ifld 111 0 128 0
/-- t0 of the newest cycle: seconds and nanoseconds (R132). -/
def CYC_NT0SEC : Fld := ifld 112 0 64 0
def CYC_NT0NS : Fld := ifld 112 1 32 0
/-- 1: the STATUS of this module, and that of the partner, has been sent since the last POLL (R429, R433). -/
def PAIR_STSENT : Fld := ifld 137 0 1 0
def PAIR_STPART : Fld := ifld 137 1 1 0
/-- 1: step 2 of a promotion is done (Table 18.7). -/
def PAIR_PROM2 : Fld := ifld 137 2 1 0
/-- Instants in ns: of the POLL that promotes; of the last POLL taken or heartbeat missed (R429). -/
def PAIR_PROMT : Fld := ifld 138 0 128 0
def PAIR_HBT : Fld := ifld 138 1 128 0
/-- Instants in ns of the last self-test pass and of the last health word (R440, R441). -/
def PAIR_SELFT : Fld := ifld 139 0 128 0
def PAIR_HEALTHT : Fld := ifld 139 1 128 0
/-- Instant in ns of the last STAGE_BEGIN, STAGE_DATA or STAGE_END of the holder of the staging lock (R486). -/
def UPD_HOLDT : Fld := ifld 140 0 128 0
/-- Instant in ns from which EVC may write the next log entry (R462). -/
def EVC_WRT : Fld := ifld 140 1 128 0
/-- Seconds of IOSC time since the Gleaner last sampled (R470). -/
def GLN_SMPAGE : Fld := ifld 140 2 16 0
/-- CKP_SEQ at the t0 of the newest cycle, and at that of the executing one (R410). -/
def CYC_NT0SEQ : Fld := ifld 136 0 64 0
def CYC_T0SEQ : Fld := ifld 136 1 64 0
/-- Sum, in ns and signed, of the steps of the time unit's time: spans of time are measured without them (R268). -/
def TIM_SHIFT : Fld := ifld 141 0 128 0
/-- One more than the time, in ns, at which path n % 2 of channel n / 2 lost its power by an overload; 0: never (R44). -/
def JLA_PODLT (n : Nat) : Fld := ifld 142 n 128 0
/-- 1: a power-on reset has not yet been released, and waits for the plate to reach −40 °C (R51). -/
def PWR_COLD : Fld := ifld 143 0 1 1
/-- One more than the index of a doorbell of DMA channel n that came in Drowse and waits for Idle (R310); 0: none. -/
def DMA_DBKEPT (n : Nat) : Fld := ifld 108 n 13 0

end I

end Sys2Proof.Machine
end

