-- ==== Sys2Proof/Machine/RegMapA.lean ====
section
/-! DEFINITION. The register map (SYS, SLC, WNW, CKP, CYC, LSV, IMG, TMR), one definition per field, with the address, bit place, width, access code and power-on reset value that the register tables of the chapters give, and the register lists of R501. -/

namespace Sys2Proof.Machine

namespace R

/-! Block SYS: the fields of its registers, and its registers (the spec's register tables). -/

def SYS_IDENT_DEVID : Fld := ⟨0x1080000000, 16, 16, .ro, 0xa07⟩
def SYS_IDENT_VARIANT : Fld := ⟨0x1080000000, 4, 4, .ro, 1⟩
def SYS_IDENT_ISSUE : Fld := ⟨0x1080000000, 0, 4, .ro, 3⟩
def SYS_VENDOR_VID : Fld := ⟨0x1080000004, 0, 16, .ro, 0⟩
def SYS_SERIAL : Fld := ⟨0x1080000008, 0, 64, .ro, 0⟩
def SYS_MAC : Fld := ⟨0x1080000010, 0, 48, .ro, 0⟩
def SYS_EUI : Fld := ⟨0x1080000018, 0, 64, .ro, 0⟩

def regsSYS : List RegDesc := [
  ⟨0x1080000000, false, [], [SYS_IDENT_DEVID, SYS_IDENT_VARIANT, SYS_IDENT_ISSUE]⟩,
  ⟨0x1080000004, false, [], [SYS_VENDOR_VID]⟩,
  ⟨0x1080000008, true, [], [SYS_SERIAL]⟩,
  ⟨0x1080000010, true, [], [SYS_MAC]⟩,
  ⟨0x1080000018, true, [], [SYS_EUI]⟩]

/-! Block SLC: the fields of its registers, and its registers (the spec's register tables). -/

def SLC_MODE_FENCED : Fld := ⟨0x1080010000, 12, 3, .ro, 0⟩
def SLC_MODE_PART : Fld := ⟨0x1080010000, 8, 3, .ro, 7⟩
def SLC_MODE_REQPEND : Fld := ⟨0x1080010000, 6, 1, .ro, 0⟩
def SLC_MODE_REQMODE : Fld := ⟨0x1080010000, 4, 2, .ro, 0⟩
def SLC_MODE : Fld := ⟨0x1080010000, 0, 2, .ro, 0⟩
def SLC_MODEREQ_GO : Fld := ⟨0x1080010004, 31, 1, .rwo, 0⟩
def SLC_MODEREQ_MODE : Fld := ⟨0x1080010004, 0, 2, .rwo, 0⟩
def SLC_MODESTAT_SESSION : Fld := ⟨0x1080010008, 4, 4, .ro, 0⟩
def SLC_MODESTAT_RESULT : Fld := ⟨0x1080010008, 0, 4, .ro, 0⟩
def SLC_READMIT_DIRTY : Fld := ⟨0x108001000c, 20, 12, .ro, 0⟩
def SLC_READMIT_TRIES : Fld := ⟨0x108001000c, 16, 4, .ro, 0⟩
def SLC_READMIT_CYCLES : Fld := ⟨0x108001000c, 8, 8, .ro, 0⟩
def SLC_READMIT_PHASE : Fld := ⟨0x108001000c, 4, 3, .ro, 0⟩
def SLC_READMIT_SLICES : Fld := ⟨0x108001000c, 0, 3, .ro, 0⟩
def SLC_READCFG_COPYGUARD : Fld := ⟨0x1080010010, 4, 12, .rwl, 0x14⟩
def SLC_READCFG_MAXTRY : Fld := ⟨0x1080010010, 0, 3, .rwl, 3⟩
def SLC_FAILED : Fld := ⟨0x1080010014, 0, 3, .w1c, 0⟩
def SLC_CWIN_SIZE : Fld := ⟨0x1080010018, 40, 24, .rwl, 0⟩
def SLC_CWIN_BASE : Fld := ⟨0x1080010018, 16, 24, .rwl, 0⟩
def SLC_ECC_UNCORR (n : Nat) : Fld := ⟨0x1080010020 + 4 * n, 24, 8, .ro, 0⟩
def SLC_ECC_CORR (n : Nat) : Fld := ⟨0x1080010020 + 4 * n, 0, 24, .ro, 0⟩

def regsSLC : List RegDesc := [
  ⟨0x1080010000, false, [], [SLC_MODE_FENCED, SLC_MODE_PART, SLC_MODE_REQPEND, SLC_MODE_REQMODE, SLC_MODE]⟩,
  ⟨0x1080010004, false, [], [SLC_MODEREQ_GO, SLC_MODEREQ_MODE]⟩,
  ⟨0x1080010008, false, [], [SLC_MODESTAT_SESSION, SLC_MODESTAT_RESULT]⟩,
  ⟨0x108001000c, false, [], [SLC_READMIT_DIRTY, SLC_READMIT_TRIES, SLC_READMIT_CYCLES, SLC_READMIT_PHASE, SLC_READMIT_SLICES]⟩,
  ⟨0x1080010010, false, [], [SLC_READCFG_COPYGUARD, SLC_READCFG_MAXTRY]⟩,
  ⟨0x1080010014, false, [], [SLC_FAILED]⟩,
  ⟨0x1080010018, true, [], [SLC_CWIN_SIZE, SLC_CWIN_BASE]⟩,
  ⟨0x1080010020, false, [(3, 4)], [SLC_ECC_UNCORR 0, SLC_ECC_CORR 0]⟩]

/-! Block WNW: the fields of its registers, and its registers (the spec's register tables). -/

def WNW_CTRL_INJ_GO : Fld := ⟨0x1080020000, 19, 1, .rwo, 0⟩
def WNW_CTRL_INJ_SLICE : Fld := ⟨0x1080020000, 16, 3, .rwo, 0⟩
def WNW_CTRL_SCRUB_EN : Fld := ⟨0x1080020000, 0, 1, .rwl, 1⟩
def WNW_STATUS_PARITY : Fld := ⟨0x1080020004, 6, 1, .w1c, 0⟩
def WNW_STATUS_STOPPED : Fld := ⟨0x1080020004, 5, 1, .ro, 0⟩
def WNW_STATUS_MASKED : Fld := ⟨0x1080020004, 4, 1, .ro, 0⟩
def WNW_STATUS_CMP_OK : Fld := ⟨0x1080020004, 0, 3, .ro, 7⟩
def WNW_DIVINFO_WINDOW : Fld := ⟨0x1080020008, 8, 24, .ro, 0⟩
def WNW_DIVINFO_NOMAJ : Fld := ⟨0x1080020008, 7, 1, .ro, 0⟩
def WNW_DIVINFO_SOURCE : Fld := ⟨0x1080020008, 4, 3, .ro, 0⟩
def WNW_DIVINFO_SLICES : Fld := ⟨0x1080020008, 0, 3, .ro, 0⟩
def WNW_DIVTIME_SEC : Fld := ⟨0x1080020010, 32, 32, .ro, 0⟩
def WNW_DIVTIME_NSEC : Fld := ⟨0x1080020010, 0, 32, .ro, 0⟩
def WNW_DIVCNT_NOMAJ : Fld := ⟨0x1080020018, 24, 8, .ro, 0⟩
def WNW_DIVCNT_C : Fld := ⟨0x1080020018, 16, 8, .ro, 0⟩
def WNW_DIVCNT_B : Fld := ⟨0x1080020018, 8, 8, .ro, 0⟩
def WNW_DIVCNT_A : Fld := ⟨0x1080020018, 0, 8, .ro, 0⟩
def WNW_TESTCNT_CMP2 : Fld := ⟨0x108002001c, 16, 8, .ro, 0⟩
def WNW_TESTCNT_CMP1 : Fld := ⟨0x108002001c, 8, 8, .ro, 0⟩
def WNW_TESTCNT_CMP0 : Fld := ⟨0x108002001c, 0, 8, .ro, 0⟩
def WNW_SCRUB_RESYNC : Fld := ⟨0x1080020020, 16, 16, .ro, 0⟩
def WNW_SCRUB_PASS_MS : Fld := ⟨0x1080020020, 0, 10, .ro, 0⟩

def regsWNW : List RegDesc := [
  ⟨0x1080020000, false, [], [WNW_CTRL_INJ_GO, WNW_CTRL_INJ_SLICE, WNW_CTRL_SCRUB_EN]⟩,
  ⟨0x1080020004, false, [], [WNW_STATUS_PARITY, WNW_STATUS_STOPPED, WNW_STATUS_MASKED, WNW_STATUS_CMP_OK]⟩,
  ⟨0x1080020008, false, [], [WNW_DIVINFO_WINDOW, WNW_DIVINFO_NOMAJ, WNW_DIVINFO_SOURCE, WNW_DIVINFO_SLICES]⟩,
  ⟨0x1080020010, true, [], [WNW_DIVTIME_SEC, WNW_DIVTIME_NSEC]⟩,
  ⟨0x1080020018, false, [], [WNW_DIVCNT_NOMAJ, WNW_DIVCNT_C, WNW_DIVCNT_B, WNW_DIVCNT_A]⟩,
  ⟨0x108002001c, false, [], [WNW_TESTCNT_CMP2, WNW_TESTCNT_CMP1, WNW_TESTCNT_CMP0]⟩,
  ⟨0x1080020020, false, [], [WNW_SCRUB_RESYNC, WNW_SCRUB_PASS_MS]⟩]

/-! Block CKP: the fields of its registers, and its registers (the spec's register tables). -/

def CKP_CTRL_DELTA_EN : Fld := ⟨0x1080030000, 8, 1, .rwl, 0⟩
def CKP_CTRL_MAXREEXEC : Fld := ⟨0x1080030000, 4, 2, .rwl, 1⟩
def CKP_CTRL_FAILLIM : Fld := ⟨0x1080030000, 0, 3, .rwl, 2⟩
def CKP_STATUS_LASTRES : Fld := ⟨0x1080030004, 12, 4, .ro, 0⟩
def CKP_STATUS_FAILCOUNT : Fld := ⟨0x1080030004, 8, 4, .ro, 0⟩
def CKP_STATUS_DELTABRK : Fld := ⟨0x1080030004, 4, 1, .w1c, 0⟩
def CKP_STATUS_STATELOST : Fld := ⟨0x1080030004, 3, 1, .ro, 0⟩
def CKP_STATUS_REEXEC : Fld := ⟨0x1080030004, 2, 1, .ro, 0⟩
def CKP_STATUS_NONRB : Fld := ⟨0x1080030004, 1, 1, .ro, 0⟩
def CKP_STATUS_LOGOPEN : Fld := ⟨0x1080030004, 0, 1, .ro, 0⟩
def CKP_SEQ : Fld := ⟨0x1080030008, 0, 64, .ro, 0⟩
def CKP_BUDGET : Fld := ⟨0x1080030010, 0, 24, .rwl, 0⟩
def CKP_LOGUSE_PEAK : Fld := ⟨0x1080030014, 16, 16, .ro, 0⟩
def CKP_LOGUSE_ENTRIES : Fld := ⟨0x1080030014, 0, 16, .ro, 0⟩
def CKP_REGQ_PEAK : Fld := ⟨0x1080030018, 16, 9, .ro, 0⟩
def CKP_REGQ_ENTRIES : Fld := ⟨0x1080030018, 0, 9, .ro, 0⟩
def CKP_SOLVET_SOLVE : Fld := ⟨0x108003001c, 0, 24, .ro, 0⟩
def CKP_COMMITT_COMMIT : Fld := ⟨0x1080030020, 0, 24, .ro, 0⟩
def CKP_RESTT_RESTORE : Fld := ⟨0x1080030024, 0, 24, .ro, 0⟩
def CKP_WORST_CLR : Fld := ⟨0x1080030028, 31, 1, .wo, 0⟩
def CKP_WORST : Fld := ⟨0x1080030028, 0, 24, .ro, 0⟩
def CKP_COUNT_FAILED : Fld := ⟨0x108003002c, 16, 16, .ro, 0⟩
def CKP_COUNT_ROLLBACK : Fld := ⟨0x108003002c, 0, 16, .ro, 0⟩
def CKP_DELTA_BYTES : Fld := ⟨0x1080030030, 0, 24, .ro, 0⟩

def regsCKP : List RegDesc := [
  ⟨0x1080030000, false, [], [CKP_CTRL_DELTA_EN, CKP_CTRL_MAXREEXEC, CKP_CTRL_FAILLIM]⟩,
  ⟨0x1080030004, false, [], [CKP_STATUS_LASTRES, CKP_STATUS_FAILCOUNT, CKP_STATUS_DELTABRK, CKP_STATUS_STATELOST, CKP_STATUS_REEXEC, CKP_STATUS_NONRB, CKP_STATUS_LOGOPEN]⟩,
  ⟨0x1080030008, true, [], [CKP_SEQ]⟩,
  ⟨0x1080030010, false, [], [CKP_BUDGET]⟩,
  ⟨0x1080030014, false, [], [CKP_LOGUSE_PEAK, CKP_LOGUSE_ENTRIES]⟩,
  ⟨0x1080030018, false, [], [CKP_REGQ_PEAK, CKP_REGQ_ENTRIES]⟩,
  ⟨0x108003001c, false, [], [CKP_SOLVET_SOLVE]⟩,
  ⟨0x1080030020, false, [], [CKP_COMMITT_COMMIT]⟩,
  ⟨0x1080030024, false, [], [CKP_RESTT_RESTORE]⟩,
  ⟨0x1080030028, false, [], [CKP_WORST_CLR, CKP_WORST]⟩,
  ⟨0x108003002c, false, [], [CKP_COUNT_FAILED, CKP_COUNT_ROLLBACK]⟩,
  ⟨0x1080030030, false, [], [CKP_DELTA_BYTES]⟩]

/-! Block CYC: the fields of its registers, and its registers (the spec's register tables). -/

def CYC_CTRL_BUSY_OFF : Fld := ⟨0x1080040000, 7, 1, .ro, 0⟩
def CYC_CTRL_ENPEND : Fld := ⟨0x1080040000, 6, 1, .ro, 0⟩
def CYC_CTRL_HALTOUT : Fld := ⟨0x1080040000, 1, 1, .rwl, 0⟩
def CYC_CTRL_EN : Fld := ⟨0x1080040000, 0, 1, .ro, 0⟩
def CYC_PERIOD : Fld := ⟨0x1080040004, 0, 20, .rwl, 0x3e8⟩
def CYC_PHASE : Fld := ⟨0x1080040008, 0, 30, .rwl, 0⟩
def CYC_CMD_SESSION : Fld := ⟨0x108004000c, 4, 3, .wo, 0⟩
def CYC_CMD : Fld := ⟨0x108004000c, 0, 4, .wo, 0⟩
def CYC_CMDSTAT_CMD : Fld := ⟨0x1080040010, 8, 4, .ro, 0⟩
def CYC_CMDSTAT_SESSION : Fld := ⟨0x1080040010, 4, 4, .ro, 0⟩
def CYC_CMDSTAT_RESULT : Fld := ⟨0x1080040010, 0, 4, .ro, 0⟩
def CYC_STATE_FRC : Fld := ⟨0x1080040014, 18, 1, .ro, 0⟩
def CYC_STATE_SAFEOUT : Fld := ⟨0x1080040014, 17, 1, .ro, 1⟩
def CYC_STATE_RSTBLOCK : Fld := ⟨0x1080040014, 16, 1, .ro, 0⟩
def CYC_STATE_STOPCAUSE : Fld := ⟨0x1080040014, 8, 8, .ro, 0⟩
def CYC_STATE_TRANS : Fld := ⟨0x1080040014, 7, 1, .ro, 0⟩
def CYC_STATE_PREV : Fld := ⟨0x1080040014, 4, 3, .ro, 0⟩
def CYC_STATE : Fld := ⟨0x1080040014, 0, 3, .ro, 0⟩
def CYC_STATUS_TASKCODE : Fld := ⟨0x1080040018, 16, 8, .ro, 0⟩
def CYC_STATUS_STAGE : Fld := ⟨0x1080040018, 6, 5, .ro, 0⟩
def CYC_STATUS_CFGREF : Fld := ⟨0x1080040018, 5, 1, .w1c, 0⟩
def CYC_STATUS_TASKERR : Fld := ⟨0x1080040018, 4, 1, .w1c, 0⟩
def CYC_STATUS_FABTRIG : Fld := ⟨0x1080040018, 3, 1, .ro, 0⟩
def CYC_STATUS_LATESTART : Fld := ⟨0x1080040018, 2, 1, .w1c, 0⟩
def CYC_STATUS_LATE : Fld := ⟨0x1080040018, 1, 1, .w1c, 0⟩
def CYC_STATUS_OVERRUN : Fld := ⟨0x1080040018, 0, 1, .w1c, 0⟩
def CYC_T0_SEC : Fld := ⟨0x1080040020, 32, 32, .ro, 0⟩
def CYC_T0_NSEC : Fld := ⟨0x1080040020, 0, 32, .ro, 0⟩
def CYC_COUNT_STARTS : Fld := ⟨0x1080040028, 0, 64, .ro, 0⟩
def CYC_OVR_LATE : Fld := ⟨0x1080040030, 16, 16, .ro, 0⟩
def CYC_OVR_OVERRUN : Fld := ⟨0x1080040030, 0, 16, .ro, 0⟩
def CYC_FORCECNT_UNBOUND : Fld := ⟨0x1080040034, 16, 1, .ro, 0⟩
def CYC_FORCECNT_COUNT : Fld := ⟨0x1080040034, 0, 11, .ro, 0⟩
def CYC_TASKTAB_BASE (n : Nat) : Fld := ⟨0x1080040038 + 8 * n, 4, 36, .ro, 0⟩
def CYC_CHG_MIGR : Fld := ⟨0x1080040048, 16, 16, .ro, 0⟩
def CYC_CHG_BANK : Fld := ⟨0x1080040048, 8, 1, .ro, 0⟩
def CYC_CHG_RESULT : Fld := ⟨0x1080040048, 4, 4, .ro, 0⟩
def CYC_CHG_PHASE : Fld := ⟨0x1080040048, 0, 3, .ro, 0⟩
def CYC_CHGID : Fld := ⟨0x1080040050, 0, 64, .ro, 0⟩
def CYC_CHGSEQ : Fld := ⟨0x1080040058, 0, 64, .ro, 0⟩
def CYC_STAGE_VALID (m n : Nat) : Fld := ⟨0x1080040100 + 0x100 * m + 8 * n, 63, 1, .ro, 0⟩
def CYC_STAGE_SOLVER (m n : Nat) : Fld := ⟨0x1080040100 + 0x100 * m + 8 * n, 62, 1, .ro, 0⟩
def CYC_STAGE_CORES (m n : Nat) : Fld := ⟨0x1080040100 + 0x100 * m + 8 * n, 58, 4, .ro, 0⟩
def CYC_STAGE_SHEAF (m n : Nat) : Fld := ⟨0x1080040100 + 0x100 * m + 8 * n, 32, 20, .ro, 0⟩
def CYC_STAGE_TASK (m n : Nat) : Fld := ⟨0x1080040100 + 0x100 * m + 8 * n, 0, 16, .ro, 0⟩
def CYC_FORCE_VALID (n : Nat) : Fld := ⟨0x1080041000 + 8 * n, 63, 1, .ro, 0⟩
def CYC_FORCE_UNBOUND (n : Nat) : Fld := ⟨0x1080041000 + 8 * n, 62, 1, .ro, 0⟩
def CYC_FORCE_SPACE (n : Nat) : Fld := ⟨0x1080041000 + 8 * n, 58, 3, .ro, 0⟩
def CYC_FORCE_INDEX (n : Nat) : Fld := ⟨0x1080041000 + 8 * n, 32, 21, .ro, 0⟩
def CYC_FORCE_VALUE (n : Nat) : Fld := ⟨0x1080041000 + 8 * n, 0, 32, .ro, 0⟩

def regsCYC : List RegDesc := [
  ⟨0x1080040000, false, [], [CYC_CTRL_BUSY_OFF, CYC_CTRL_ENPEND, CYC_CTRL_HALTOUT, CYC_CTRL_EN]⟩,
  ⟨0x1080040004, false, [], [CYC_PERIOD]⟩,
  ⟨0x1080040008, false, [], [CYC_PHASE]⟩,
  ⟨0x108004000c, false, [], [CYC_CMD_SESSION, CYC_CMD]⟩,
  ⟨0x1080040010, false, [], [CYC_CMDSTAT_CMD, CYC_CMDSTAT_SESSION, CYC_CMDSTAT_RESULT]⟩,
  ⟨0x1080040014, false, [], [CYC_STATE_FRC, CYC_STATE_SAFEOUT, CYC_STATE_RSTBLOCK, CYC_STATE_STOPCAUSE, CYC_STATE_TRANS, CYC_STATE_PREV, CYC_STATE]⟩,
  ⟨0x1080040018, false, [], [CYC_STATUS_TASKCODE, CYC_STATUS_STAGE, CYC_STATUS_CFGREF, CYC_STATUS_TASKERR, CYC_STATUS_FABTRIG, CYC_STATUS_LATESTART, CYC_STATUS_LATE, CYC_STATUS_OVERRUN]⟩,
  ⟨0x1080040020, true, [], [CYC_T0_SEC, CYC_T0_NSEC]⟩,
  ⟨0x1080040028, true, [], [CYC_COUNT_STARTS]⟩,
  ⟨0x1080040030, false, [], [CYC_OVR_LATE, CYC_OVR_OVERRUN]⟩,
  ⟨0x1080040034, false, [], [CYC_FORCECNT_UNBOUND, CYC_FORCECNT_COUNT]⟩,
  ⟨0x1080040038, true, [(2, 8)], [CYC_TASKTAB_BASE 0]⟩,
  ⟨0x1080040048, false, [], [CYC_CHG_MIGR, CYC_CHG_BANK, CYC_CHG_RESULT, CYC_CHG_PHASE]⟩,
  ⟨0x1080040050, true, [], [CYC_CHGID]⟩,
  ⟨0x1080040058, true, [], [CYC_CHGSEQ]⟩,
  ⟨0x1080040100, true, [(2, 0x100), (32, 8)], [CYC_STAGE_VALID 0 0, CYC_STAGE_SOLVER 0 0, CYC_STAGE_CORES 0 0, CYC_STAGE_SHEAF 0 0, CYC_STAGE_TASK 0 0]⟩,
  ⟨0x1080041000, true, [(1024, 8)], [CYC_FORCE_VALID 0, CYC_FORCE_UNBOUND 0, CYC_FORCE_SPACE 0, CYC_FORCE_INDEX 0, CYC_FORCE_VALUE 0]⟩]

/-! Block LSV: the fields of its registers, and its registers (the spec's register tables). -/

def LSV_STATUS_DEPTH : Fld := ⟨0x1080050000, 22, 6, .ro, 0⟩
def LSV_STATUS_CTX : Fld := ⟨0x1080050000, 21, 1, .ro, 0⟩
def LSV_STATUS_RUNNING : Fld := ⟨0x1080050000, 20, 1, .ro, 0⟩
def LSV_STATUS_PC : Fld := ⟨0x1080050000, 0, 20, .ro, 0⟩
def LSV_TSEL_VALID : Fld := ⟨0x1080050004, 9, 1, .ro, 0⟩
def LSV_TSEL_TEMPLATE : Fld := ⟨0x1080050004, 0, 9, .ro, 0⟩
def LSV_FAULT_OPCODE : Fld := ⟨0x1080050008, 24, 6, .ro, 0⟩
def LSV_FAULT_DEPTH : Fld := ⟨0x1080050008, 18, 6, .ro, 0⟩
def LSV_FAULT_CTX : Fld := ⟨0x1080050008, 17, 1, .ro, 0⟩
def LSV_FAULT_SLICES : Fld := ⟨0x1080050008, 4, 3, .ro, 0⟩
def LSV_FAULT_CODE : Fld := ⟨0x1080050008, 0, 4, .ro, 0⟩
def LSV_FAULTPC_PC : Fld := ⟨0x108005000c, 0, 20, .ro, 0⟩
def LSV_FAULTINS_INSTR : Fld := ⟨0x1080050010, 0, 32, .ro, 0⟩
def LSV_MARK_TAG : Fld := ⟨0x1080050014, 0, 21, .ro, 0⟩
def LSV_FAULTMARK_TAG : Fld := ⟨0x1080050018, 0, 21, .ro, 0⟩
def LSV_PROGSIZE_SIZE : Fld := ⟨0x108005001c, 0, 21, .ro, 0⟩
def LSV_CLK_STALL : Fld := ⟨0x1080050020, 32, 32, .ro, 0⟩
def LSV_CLK_CLOCKS : Fld := ⟨0x1080050020, 0, 32, .ro, 0⟩
def LSV_INSTR_COUNT : Fld := ⟨0x1080050028, 0, 32, .ro, 0⟩
def LSV_PEAK_FAULTS : Fld := ⟨0x1080050030, 6, 16, .ro, 0⟩
def LSV_PEAK_DEPTH : Fld := ⟨0x1080050030, 0, 6, .ro, 0⟩

def regsLSV : List RegDesc := [
  ⟨0x1080050000, false, [], [LSV_STATUS_DEPTH, LSV_STATUS_CTX, LSV_STATUS_RUNNING, LSV_STATUS_PC]⟩,
  ⟨0x1080050004, false, [], [LSV_TSEL_VALID, LSV_TSEL_TEMPLATE]⟩,
  ⟨0x1080050008, false, [], [LSV_FAULT_OPCODE, LSV_FAULT_DEPTH, LSV_FAULT_CTX, LSV_FAULT_SLICES, LSV_FAULT_CODE]⟩,
  ⟨0x108005000c, false, [], [LSV_FAULTPC_PC]⟩,
  ⟨0x1080050010, false, [], [LSV_FAULTINS_INSTR]⟩,
  ⟨0x1080050014, false, [], [LSV_MARK_TAG]⟩,
  ⟨0x1080050018, false, [], [LSV_FAULTMARK_TAG]⟩,
  ⟨0x108005001c, false, [], [LSV_PROGSIZE_SIZE]⟩,
  ⟨0x1080050020, true, [], [LSV_CLK_STALL, LSV_CLK_CLOCKS]⟩,
  ⟨0x1080050028, false, [], [LSV_INSTR_COUNT]⟩,
  ⟨0x1080050030, false, [], [LSV_PEAK_FAULTS, LSV_PEAK_DEPTH]⟩]

/-! Block IMG: the fields of its registers, and its registers (the spec's register tables). -/

def IMG_SIZE0_QPL : Fld := ⟨0x1080060000, 16, 13, .ro, 0⟩
def IMG_SIZE0_IPL : Fld := ⟨0x1080060000, 0, 13, .ro, 0⟩
def IMG_SIZE1_EPL : Fld := ⟨0x1080060004, 16, 11, .ro, 0⟩
def IMG_SIZE1_MPL : Fld := ⟨0x1080060004, 0, 11, .ro, 0⟩
def IMG_SIZE2_WPL : Fld := ⟨0x1080060008, 20, 10, .ro, 0⟩
def IMG_SIZE2_TPL : Fld := ⟨0x1080060008, 10, 9, .ro, 0⟩
def IMG_SIZE2_CPL : Fld := ⟨0x1080060008, 0, 8, .ro, 0⟩
def IMG_STATUS_RESTFAIL : Fld := ⟨0x108006000c, 5, 1, .ro, 0⟩
def IMG_STATUS_MIGR : Fld := ⟨0x108006000c, 4, 1, .ro, 0⟩
def IMG_STATUS_PROT : Fld := ⟨0x108006000c, 3, 1, .w1c, 0⟩
def IMG_STATUS_IWIN : Fld := ⟨0x108006000c, 2, 1, .w1c, 0⟩
def IMG_RETAIN_CPL : Fld := ⟨0x1080060010, 48, 8, .rwl, 0⟩
def IMG_RETAIN_TPL : Fld := ⟨0x1080060010, 32, 9, .rwl, 0⟩
def IMG_RETAIN_WPL : Fld := ⟨0x1080060010, 16, 10, .rwl, 0⟩
def IMG_RETAIN_MPL : Fld := ⟨0x1080060010, 0, 11, .rwl, 0⟩
def IMG_BIND_ENTRIES (n : Nat) : Fld := ⟨0x1080060018 + 8 * n, 47, 17, .ro, 0⟩
def IMG_BIND_BASE (n : Nat) : Fld := ⟨0x1080060018 + 8 * n, 4, 36, .ro, 0⟩
def IMG_MIGR_ENTRIES : Fld := ⟨0x1080060028, 16, 16, .ro, 0⟩
def IMG_MIGR_TIME : Fld := ⟨0x1080060028, 0, 16, .ro, 0⟩
def IMG_PROTADDR_SOURCE : Fld := ⟨0x1080060030, 44, 4, .ro, 0⟩
def IMG_PROTADDR_ADDR : Fld := ⟨0x1080060030, 0, 40, .ro, 0⟩

def regsIMG : List RegDesc := [
  ⟨0x1080060000, false, [], [IMG_SIZE0_QPL, IMG_SIZE0_IPL]⟩,
  ⟨0x1080060004, false, [], [IMG_SIZE1_EPL, IMG_SIZE1_MPL]⟩,
  ⟨0x1080060008, false, [], [IMG_SIZE2_WPL, IMG_SIZE2_TPL, IMG_SIZE2_CPL]⟩,
  ⟨0x108006000c, false, [], [IMG_STATUS_RESTFAIL, IMG_STATUS_MIGR, IMG_STATUS_PROT, IMG_STATUS_IWIN]⟩,
  ⟨0x1080060010, true, [], [IMG_RETAIN_CPL, IMG_RETAIN_TPL, IMG_RETAIN_WPL, IMG_RETAIN_MPL]⟩,
  ⟨0x1080060018, true, [(2, 8)], [IMG_BIND_ENTRIES 0, IMG_BIND_BASE 0]⟩,
  ⟨0x1080060028, false, [], [IMG_MIGR_ENTRIES, IMG_MIGR_TIME]⟩,
  ⟨0x1080060030, true, [], [IMG_PROTADDR_SOURCE, IMG_PROTADDR_ADDR]⟩]

/-! Block TMR: the fields of its registers, and its registers (the spec's register tables). -/

def TMR_MONO_M0 : Fld := ⟨0x1080070000, 0, 48, .ro, 0⟩
def TMR_STEPOFS_OFFSET : Fld := ⟨0x1080070008, 0, 64, .ro, 0⟩
def TMR_EXEC_CNT : Fld := ⟨0x1080070010, 16, 16, .ro, 0⟩
def TMR_EXEC_TIM : Fld := ⟨0x1080070010, 0, 16, .ro, 0⟩

def regsTMR : List RegDesc := [
  ⟨0x1080070000, true, [], [TMR_MONO_M0]⟩,
  ⟨0x1080070008, true, [], [TMR_STEPOFS_OFFSET]⟩,
  ⟨0x1080070010, false, [], [TMR_EXEC_CNT, TMR_EXEC_TIM]⟩]

end R

end Sys2Proof.Machine
end

