-- ==== Sys2Proof/Machine/RegMapB.lean ====
section
/-! DEFINITION. The register map (JLA, TIM, BBS), one definition per field, with the address, bit place, width, access code and power-on reset value that the register tables of the chapters give, and the register lists of R501. -/

namespace Sys2Proof.Machine

namespace R

/-! Block JLA: the fields of its registers, and its registers (the spec's register tables). -/

def JLA_CTRL_CFGERR (c : Nat) : Fld := ⟨0x1080100000 + 0x10000 * c, 8, 4, .ro, 0⟩
def JLA_CTRL_BUSY_OFF (c : Nat) : Fld := ⟨0x1080100000 + 0x10000 * c, 7, 1, .ro, 0⟩
def JLA_CTRL_ENPEND (c : Nat) : Fld := ⟨0x1080100000 + 0x10000 * c, 6, 1, .ro, 0⟩
def JLA_CTRL_DISPEND (c : Nat) : Fld := ⟨0x1080100000 + 0x10000 * c, 5, 1, .ro, 0⟩
def JLA_CTRL_CFGREF (c : Nat) : Fld := ⟨0x1080100000 + 0x10000 * c, 4, 1, .w1c, 0⟩
def JLA_CTRL_PATHB_EN (c : Nat) : Fld := ⟨0x1080100000 + 0x10000 * c, 3, 1, .rwl, 1⟩
def JLA_CTRL_PATHA_EN (c : Nat) : Fld := ⟨0x1080100000 + 0x10000 * c, 2, 1, .rwl, 1⟩
def JLA_CTRL_EN (c : Nat) : Fld := ⟨0x1080100000 + 0x10000 * c, 0, 1, .rw, 0⟩
def JLA_STATUS_ROUND (c : Nat) : Fld := ⟨0x1080100004 + 0x10000 * c, 16, 16, .ro, 0⟩
def JLA_STATUS_TXBUF (c : Nat) : Fld := ⟨0x1080100004 + 0x10000 * c, 5, 1, .ro, 0⟩
def JLA_STATUS_RXBUF (c : Nat) : Fld := ⟨0x1080100004 + 0x10000 * c, 4, 1, .ro, 0⟩
def JLA_STATUS_QUENCH (c : Nat) : Fld := ⟨0x1080100004 + 0x10000 * c, 3, 1, .ro, 0⟩
def JLA_STATUS_SAFE (c : Nat) : Fld := ⟨0x1080100004 + 0x10000 * c, 2, 1, .ro, 1⟩
def JLA_STATUS_LINKB (c : Nat) : Fld := ⟨0x1080100004 + 0x10000 * c, 1, 1, .ro, 0⟩
def JLA_STATUS_LINKA (c : Nat) : Fld := ⟨0x1080100004 + 0x10000 * c, 0, 1, .ro, 0⟩
def JLA_ROUNDCFG_ROUNDLEN (c : Nat) : Fld := ⟨0x1080100008 + 0x10000 * c, 0, 17, .rwl, 0x2710⟩
def JLA_PHASE (c : Nat) : Fld := ⟨0x108010000c + 0x10000 * c, 0, 30, .rwl, 0⟩
def JLA_SLOTCFG_NSTATIC (c : Nat) : Fld := ⟨0x1080100010 + 0x10000 * c, 16, 11, .rwl, 0⟩
def JLA_SLOTCFG_SLOTLEN (c : Nat) : Fld := ⟨0x1080100010 + 0x10000 * c, 0, 10, .rwl, 0x10⟩
def JLA_DYNCFG_NMINI (c : Nat) : Fld := ⟨0x1080100014 + 0x10000 * c, 16, 12, .rwl, 0⟩
def JLA_DYNCFG_MINISLOT (c : Nat) : Fld := ⟨0x1080100014 + 0x10000 * c, 0, 6, .rwl, 0xa⟩
def JLA_TIMING_PREC (c : Nat) : Fld := ⟨0x1080100018 + 0x10000 * c, 16, 10, .rwl, 0x12c⟩
def JLA_TIMING_APO (c : Nat) : Fld := ⟨0x1080100018 + 0x10000 * c, 0, 4, .rwl, 3⟩
def JLA_OUTSLOT_OWD (c : Nat) : Fld := ⟨0x108010001c + 0x10000 * c, 24, 8, .rwl, 3⟩
def JLA_OUTSLOT_FIRST (c : Nat) : Fld := ⟨0x108010001c + 0x10000 * c, 13, 11, .rwl, 3⟩
def JLA_OUTSLOT_COUNT (c : Nat) : Fld := ⟨0x108010001c + 0x10000 * c, 0, 10, .rwl, 0⟩
def JLA_NODETAB_ENTRIES (c : Nat) : Fld := ⟨0x1080100020 + 0x10000 * c, 40, 10, .rwl, 0⟩
def JLA_NODETAB_BASE (c : Nat) : Fld := ⟨0x1080100020 + 0x10000 * c, 6, 34, .rwl, 0⟩
def JLA_RXBUF_BASE (c n : Nat) : Fld := ⟨0x1080100028 + 0x10000 * c + 8 * n, 6, 34, .rwl, 0⟩
def JLA_TXBUF_BASE (c n : Nat) : Fld := ⟨0x1080100038 + 0x10000 * c + 8 * n, 6, 34, .rwl, 0⟩
def JLA_CNTBASE_BASE (c : Nat) : Fld := ⟨0x1080100048 + 0x10000 * c, 6, 34, .rwl, 0⟩
def JLA_DYNRX_ENTRIES (c : Nat) : Fld := ⟨0x1080100050 + 0x10000 * c, 52, 12, .rwl, 0⟩
def JLA_DYNRX_BASE (c : Nat) : Fld := ⟨0x1080100050 + 0x10000 * c, 6, 34, .rwl, 0⟩
def JLA_RECSZ (c : Nat) : Fld := ⟨0x1080100058 + 0x10000 * c, 0, 11, .rwl, 0x50⟩
def JLA_TXRDY_BUF (c : Nat) : Fld := ⟨0x108010005c + 0x10000 * c, 0, 1, .wo, 0⟩
def JLA_TXSEQ_SEQ (c : Nat) : Fld := ⟨0x1080100060 + 0x10000 * c, 0, 64, .ro, 0⟩
def JLA_DYNIDX_DROP (c : Nat) : Fld := ⟨0x1080100068 + 0x10000 * c, 16, 16, .ro, 0⟩
def JLA_DYNIDX_NEXT (c : Nat) : Fld := ⟨0x1080100068 + 0x10000 * c, 0, 12, .ro, 0⟩
def JLA_QUENCH_MODE (c n : Nat) : Fld := ⟨0x1080100070 + 0x10000 * c + 4 * n, 30, 2, .rwo, 0⟩
def JLA_QUENCH_LAST (c n : Nat) : Fld := ⟨0x1080100070 + 0x10000 * c + 4 * n, 16, 11, .rwo, 0⟩
def JLA_QUENCH_FIRST (c n : Nat) : Fld := ⟨0x1080100070 + 0x10000 * c + 4 * n, 0, 11, .rwo, 0⟩
def JLA_MBOXCTL_GO (c : Nat) : Fld := ⟨0x1080100090 + 0x10000 * c, 31, 1, .wo, 0⟩
def JLA_MBOXCTL_BUSY (c : Nat) : Fld := ⟨0x1080100090 + 0x10000 * c, 30, 1, .ro, 0⟩
def JLA_MBOXCTL_LEN (c : Nat) : Fld := ⟨0x1080100090 + 0x10000 * c, 0, 7, .rw, 0⟩
def JLA_MBOX_DATA (c n : Nat) : Fld := ⟨0x10801000a0 + 0x10000 * c + 4 * n, 0, 32, .rw, 0⟩
def JLA_PODL_ENB (c : Nat) : Fld := ⟨0x10801000e0 + 0x10000 * c, 1, 1, .rw, 0⟩
def JLA_PODL_ENA (c : Nat) : Fld := ⟨0x10801000e0 + 0x10000 * c, 0, 1, .rw, 0⟩
def JLA_PODLSTAT_STATEB (c : Nat) : Fld := ⟨0x10801000e4 + 0x10000 * c, 29, 3, .ro, 0⟩
def JLA_PODLSTAT_STATEA (c : Nat) : Fld := ⟨0x10801000e4 + 0x10000 * c, 13, 3, .ro, 0⟩
def JLA_PODLSTAT_CLASSB (c : Nat) : Fld := ⟨0x10801000e4 + 0x10000 * c, 24, 5, .ro, 0⟩
def JLA_PODLSTAT_CLASSA (c : Nat) : Fld := ⟨0x10801000e4 + 0x10000 * c, 8, 5, .ro, 0⟩
def JLA_PODLSTAT_IB (c : Nat) : Fld := ⟨0x10801000e4 + 0x10000 * c, 16, 8, .ro, 0⟩
def JLA_PODLSTAT_IA (c : Nat) : Fld := ⟨0x10801000e4 + 0x10000 * c, 0, 8, .ro, 0⟩
def JLA_CNTCTL_CLR (c : Nat) : Fld := ⟨0x10801000e8 + 0x10000 * c, 0, 1, .wo, 0⟩
def JLA_CHAFF (c : Nat) : Fld := ⟨0x10801000ec + 0x10000 * c, 0, 32, .ro, 0⟩
def JLA_ERRCNT_BOUND (c : Nat) : Fld := ⟨0x10801000f0 + 0x10000 * c, 16, 16, .ro, 0⟩
def JLA_ERRCNT_CRC (c : Nat) : Fld := ⟨0x10801000f0 + 0x10000 * c, 0, 16, .ro, 0⟩
def JLA_MISCCNT_FOREIGN (c : Nat) : Fld := ⟨0x10801000f4 + 0x10000 * c, 16, 16, .ro, 0⟩
def JLA_MISCCNT_UNASSIGNED (c : Nat) : Fld := ⟨0x10801000f4 + 0x10000 * c, 0, 16, .ro, 0⟩
def JLA_NODECNT_LOST (c : Nat) : Fld := ⟨0x10801000f8 + 0x10000 * c, 16, 10, .ro, 0⟩
def JLA_NODECNT_PRESENT (c : Nat) : Fld := ⟨0x10801000f8 + 0x10000 * c, 0, 10, .ro, 0⟩
def JLA_NODEEV_LASTBACK (c : Nat) : Fld := ⟨0x10801000fc + 0x10000 * c, 16, 9, .ro, 0⟩
def JLA_NODEEV_LASTLOST (c : Nat) : Fld := ⟨0x10801000fc + 0x10000 * c, 0, 9, .ro, 0⟩
def JLA_SYNCCFG_STEER_EN (c : Nat) : Fld := ⟨0x1080100100 + 0x10000 * c, 31, 1, .rwl, 1⟩
def JLA_SYNCCFG_AUTORESTART (c : Nat) : Fld := ⟨0x1080100100 + 0x10000 * c, 30, 1, .rwl, 1⟩
def JLA_SYNCCFG_RATELIM (c : Nat) : Fld := ⟨0x1080100100 + 0x10000 * c, 16, 10, .rwl, 0xc8⟩
def JLA_SYNCCFG_STEERLIM (c : Nat) : Fld := ⟨0x1080100100 + 0x10000 * c, 10, 6, .rwl, 0x32⟩
def JLA_SYNCCFG_OFFLIM (c : Nat) : Fld := ⟨0x1080100100 + 0x10000 * c, 0, 10, .rwl, 0x3e8⟩
def JLA_SYNCLIST_SLOTB (c n : Nat) : Fld := ⟨0x1080100104 + 0x10000 * c + 4 * n, 16, 11, .rwl, 0⟩
def JLA_SYNCLIST_SLOTA (c n : Nat) : Fld := ⟨0x1080100104 + 0x10000 * c + 4 * n, 0, 11, .rwl, 0⟩
def JLA_SYNCSTAT_NSYNC (c : Nat) : Fld := ⟨0x1080100120 + 0x10000 * c, 24, 4, .ro, 0⟩
def JLA_SYNCSTAT_LIMIT (c : Nat) : Fld := ⟨0x1080100120 + 0x10000 * c, 8, 1, .ro, 0⟩
def JLA_SYNCSTAT_ALIGNED (c : Nat) : Fld := ⟨0x1080100120 + 0x10000 * c, 7, 1, .ro, 0⟩
def JLA_SYNCSTAT_STATE (c : Nat) : Fld := ⟨0x1080100120 + 0x10000 * c, 0, 3, .ro, 0⟩
def JLA_OFFSET_OFF (c : Nat) : Fld := ⟨0x1080100124 + 0x10000 * c, 0, 32, .ro, 0⟩
def JLA_RATE_RHO (c : Nat) : Fld := ⟨0x1080100128 + 0x10000 * c, 0, 32, .ro, 0⟩
def JLA_DELTA (c : Nat) : Fld := ⟨0x1080100130 + 0x10000 * c, 0, 64, .ro, 0⟩
def JLA_STEER (c : Nat) : Fld := ⟨0x1080100138 + 0x10000 * c, 0, 8, .ro, 0⟩
def JLA_DELAYTAB_BASE (c : Nat) : Fld := ⟨0x1080100140 + 0x10000 * c, 6, 34, .rwl, 0⟩
def JLA_CLAIMTAB_BASE (c : Nat) : Fld := ⟨0x1080100148 + 0x10000 * c, 6, 34, .rwl, 0⟩
def JLA_CLAIMCFG_CLAIM_EN (c : Nat) : Fld := ⟨0x1080100150 + 0x10000 * c, 31, 1, .rwl, 0⟩
def JLA_CLAIMCFG_IDLE (c : Nat) : Fld := ⟨0x1080100150 + 0x10000 * c, 16, 8, .rwl, 0xff⟩
def JLA_CLAIMCFG_ENTRIES (c : Nat) : Fld := ⟨0x1080100150 + 0x10000 * c, 0, 7, .rwl, 0⟩
def JLA_CLAIMREV_SLOT (c : Nat) : Fld := ⟨0x1080100154 + 0x10000 * c, 0, 11, .wo, 0⟩
def JLA_STARTCNT_COLLISION (c : Nat) : Fld := ⟨0x1080100158 + 0x10000 * c, 16, 16, .ro, 0⟩
def JLA_STARTCNT_COLDSTART (c : Nat) : Fld := ⟨0x1080100158 + 0x10000 * c, 0, 16, .ro, 0⟩
def JLA_CLAIMCNT_REFUSED (c : Nat) : Fld := ⟨0x108010015c + 0x10000 * c, 16, 16, .ro, 0⟩
def JLA_CLAIMCNT_GRANTED (c : Nat) : Fld := ⟨0x108010015c + 0x10000 * c, 0, 7, .ro, 0⟩

def regsJLA_0 : List RegDesc := [
  ⟨0x1080100000, false, [(4, 0x10000)], [JLA_CTRL_CFGERR 0, JLA_CTRL_BUSY_OFF 0, JLA_CTRL_ENPEND 0, JLA_CTRL_DISPEND 0, JLA_CTRL_CFGREF 0, JLA_CTRL_PATHB_EN 0, JLA_CTRL_PATHA_EN 0, JLA_CTRL_EN 0]⟩,
  ⟨0x1080100004, false, [(4, 0x10000)], [JLA_STATUS_ROUND 0, JLA_STATUS_TXBUF 0, JLA_STATUS_RXBUF 0, JLA_STATUS_QUENCH 0, JLA_STATUS_SAFE 0, JLA_STATUS_LINKB 0, JLA_STATUS_LINKA 0]⟩,
  ⟨0x1080100008, false, [(4, 0x10000)], [JLA_ROUNDCFG_ROUNDLEN 0]⟩,
  ⟨0x108010000c, false, [(4, 0x10000)], [JLA_PHASE 0]⟩,
  ⟨0x1080100010, false, [(4, 0x10000)], [JLA_SLOTCFG_NSTATIC 0, JLA_SLOTCFG_SLOTLEN 0]⟩,
  ⟨0x1080100014, false, [(4, 0x10000)], [JLA_DYNCFG_NMINI 0, JLA_DYNCFG_MINISLOT 0]⟩,
  ⟨0x1080100018, false, [(4, 0x10000)], [JLA_TIMING_PREC 0, JLA_TIMING_APO 0]⟩,
  ⟨0x108010001c, false, [(4, 0x10000)], [JLA_OUTSLOT_OWD 0, JLA_OUTSLOT_FIRST 0, JLA_OUTSLOT_COUNT 0]⟩,
  ⟨0x1080100020, true, [(4, 0x10000)], [JLA_NODETAB_ENTRIES 0, JLA_NODETAB_BASE 0]⟩,
  ⟨0x1080100028, true, [(4, 0x10000), (2, 8)], [JLA_RXBUF_BASE 0 0]⟩,
  ⟨0x1080100038, true, [(4, 0x10000), (2, 8)], [JLA_TXBUF_BASE 0 0]⟩,
  ⟨0x1080100048, true, [(4, 0x10000)], [JLA_CNTBASE_BASE 0]⟩,
  ⟨0x1080100050, true, [(4, 0x10000)], [JLA_DYNRX_ENTRIES 0, JLA_DYNRX_BASE 0]⟩,
  ⟨0x1080100058, false, [(4, 0x10000)], [JLA_RECSZ 0]⟩,
  ⟨0x108010005c, false, [(4, 0x10000)], [JLA_TXRDY_BUF 0]⟩,
  ⟨0x1080100060, true, [(4, 0x10000)], [JLA_TXSEQ_SEQ 0]⟩,
  ⟨0x1080100068, false, [(4, 0x10000)], [JLA_DYNIDX_DROP 0, JLA_DYNIDX_NEXT 0]⟩,
  ⟨0x1080100070, false, [(4, 0x10000), (8, 4)], [JLA_QUENCH_MODE 0 0, JLA_QUENCH_LAST 0 0, JLA_QUENCH_FIRST 0 0]⟩,
  ⟨0x1080100090, false, [(4, 0x10000)], [JLA_MBOXCTL_GO 0, JLA_MBOXCTL_BUSY 0, JLA_MBOXCTL_LEN 0]⟩,
  ⟨0x10801000a0, false, [(4, 0x10000), (16, 4)], [JLA_MBOX_DATA 0 0]⟩,
  ⟨0x10801000e0, false, [(4, 0x10000)], [JLA_PODL_ENB 0, JLA_PODL_ENA 0]⟩,
  ⟨0x10801000e4, false, [(4, 0x10000)], [JLA_PODLSTAT_STATEB 0, JLA_PODLSTAT_STATEA 0, JLA_PODLSTAT_CLASSB 0, JLA_PODLSTAT_CLASSA 0, JLA_PODLSTAT_IB 0, JLA_PODLSTAT_IA 0]⟩,
  ⟨0x10801000e8, false, [(4, 0x10000)], [JLA_CNTCTL_CLR 0]⟩,
  ⟨0x10801000ec, false, [(4, 0x10000)], [JLA_CHAFF 0]⟩,
  ⟨0x10801000f0, false, [(4, 0x10000)], [JLA_ERRCNT_BOUND 0, JLA_ERRCNT_CRC 0]⟩,
  ⟨0x10801000f4, false, [(4, 0x10000)], [JLA_MISCCNT_FOREIGN 0, JLA_MISCCNT_UNASSIGNED 0]⟩,
  ⟨0x10801000f8, false, [(4, 0x10000)], [JLA_NODECNT_LOST 0, JLA_NODECNT_PRESENT 0]⟩,
  ⟨0x10801000fc, false, [(4, 0x10000)], [JLA_NODEEV_LASTBACK 0, JLA_NODEEV_LASTLOST 0]⟩,
  ⟨0x1080100100, false, [(4, 0x10000)], [JLA_SYNCCFG_STEER_EN 0, JLA_SYNCCFG_AUTORESTART 0, JLA_SYNCCFG_RATELIM 0, JLA_SYNCCFG_STEERLIM 0, JLA_SYNCCFG_OFFLIM 0]⟩,
  ⟨0x1080100104, false, [(4, 0x10000), (7, 4)], [JLA_SYNCLIST_SLOTB 0 0, JLA_SYNCLIST_SLOTA 0 0]⟩]
def regsJLA_1 : List RegDesc := [
  ⟨0x1080100120, false, [(4, 0x10000)], [JLA_SYNCSTAT_NSYNC 0, JLA_SYNCSTAT_LIMIT 0, JLA_SYNCSTAT_ALIGNED 0, JLA_SYNCSTAT_STATE 0]⟩,
  ⟨0x1080100124, false, [(4, 0x10000)], [JLA_OFFSET_OFF 0]⟩,
  ⟨0x1080100128, false, [(4, 0x10000)], [JLA_RATE_RHO 0]⟩,
  ⟨0x1080100130, true, [(4, 0x10000)], [JLA_DELTA 0]⟩,
  ⟨0x1080100138, false, [(4, 0x10000)], [JLA_STEER 0]⟩,
  ⟨0x1080100140, true, [(4, 0x10000)], [JLA_DELAYTAB_BASE 0]⟩,
  ⟨0x1080100148, true, [(4, 0x10000)], [JLA_CLAIMTAB_BASE 0]⟩,
  ⟨0x1080100150, false, [(4, 0x10000)], [JLA_CLAIMCFG_CLAIM_EN 0, JLA_CLAIMCFG_IDLE 0, JLA_CLAIMCFG_ENTRIES 0]⟩,
  ⟨0x1080100154, false, [(4, 0x10000)], [JLA_CLAIMREV_SLOT 0]⟩,
  ⟨0x1080100158, false, [(4, 0x10000)], [JLA_STARTCNT_COLLISION 0, JLA_STARTCNT_COLDSTART 0]⟩,
  ⟨0x108010015c, false, [(4, 0x10000)], [JLA_CLAIMCNT_REFUSED 0, JLA_CLAIMCNT_GRANTED 0]⟩]
def regsJLA : List RegDesc := regsJLA_0 ++ regsJLA_1

/-! Block TIM: the fields of its registers, and its registers (the spec's register tables). -/

def TIM_CTRL_SLEWLIM : Fld := ⟨0x1080200000, 16, 8, .rwl, 0xa⟩
def TIM_CTRL_STEP_EN : Fld := ⟨0x1080200000, 3, 1, .rwl, 1⟩
def TIM_CTRL_PPSOUT_EN : Fld := ⟨0x1080200000, 2, 1, .rwl, 0⟩
def TIM_CTRL_PPS_EN : Fld := ⟨0x1080200000, 1, 1, .rwl, 0⟩
def TIM_STATUS_SETREF : Fld := ⟨0x1080200004, 10, 1, .w1c, 0⟩
def TIM_STATUS_HOLD1H : Fld := ⟨0x1080200004, 9, 1, .ro, 0⟩
def TIM_STATUS_TIMESET : Fld := ⟨0x1080200004, 8, 1, .ro, 0⟩
def TIM_STATUS_WARM : Fld := ⟨0x1080200004, 7, 1, .ro, 0⟩
def TIM_STATUS_FAIL : Fld := ⟨0x1080200004, 6, 1, .ro, 0⟩
def TIM_STATUS_STATE : Fld := ⟨0x1080200004, 0, 3, .ro, 0⟩
def TIM_SEC : Fld := ⟨0x1080200008, 0, 64, .ro, 0⟩
def TIM_NSEC : Fld := ⟨0x1080200010, 0, 32, .ro, 0⟩
def TIM_FRAC : Fld := ⟨0x1080200014, 0, 16, .ro, 0⟩
def TIM_SETSEC : Fld := ⟨0x1080200018, 0, 64, .rwo, 0⟩
def TIM_SETNS_GO : Fld := ⟨0x1080200020, 31, 1, .wo, 0⟩
def TIM_SETNS_NS : Fld := ⟨0x1080200020, 0, 30, .rwo, 0⟩
def TIM_UTC_LEAP61 : Fld := ⟨0x1080200024, 18, 1, .rwo, 0⟩
def TIM_UTC_LEAP59 : Fld := ⟨0x1080200024, 17, 1, .rwo, 0⟩
def TIM_UTC_VALID : Fld := ⟨0x1080200024, 16, 1, .rwo, 0⟩
def TIM_UTC_UTCOFS : Fld := ⟨0x1080200024, 0, 16, .rwo, 0x25⟩
def TIM_RATE : Fld := ⟨0x1080200028, 0, 32, .ro, 0⟩
def TIM_PPSERR_ERR : Fld := ⟨0x108020002c, 0, 32, .ro, 0⟩
def TIM_PPSCFG_INDELAY : Fld := ⟨0x1080200030, 16, 16, .rwl, 0⟩
def TIM_PPSCFG_TC : Fld := ⟨0x1080200030, 0, 10, .rwl, 0x40⟩
def TIM_HOLDT : Fld := ⟨0x1080200034, 0, 32, .ro, 0⟩
def TIM_TRIG_DELAY : Fld := ⟨0x1080200038, 0, 16, .rwl, 0x3e8⟩
def TIM_CLKQ_CLASS : Fld := ⟨0x108020003c, 16, 8, .ro, 0xf8⟩
def TIM_CLKQ_ACCURACY : Fld := ⟨0x108020003c, 8, 8, .ro, 0xfe⟩
def TIM_CLKQ_SOURCE : Fld := ⟨0x108020003c, 0, 8, .ro, 0xa0⟩
def TIM_LAT_EGRESS (n : Nat) : Fld := ⟨0x1080200040 + 4 * n, 16, 16, .ro, 0⟩
def TIM_LAT_INGRESS (n : Nat) : Fld := ⟨0x1080200040 + 4 * n, 0, 16, .ro, 0⟩
def TIM_ADJ (n : Nat) : Fld := ⟨0x1080200080 + 4 * n, 0, 16, .rwl, 0⟩
def TIM_PTP_EN (n : Nat) : Fld := ⟨0x10802000c0 + 4 * n, 31, 1, .rwl, 0⟩
def TIM_PTP_PROTO (n : Nat) : Fld := ⟨0x10802000c0 + 4 * n, 28, 3, .rwl, 0⟩
def TIM_PTP_TWOSTEP (n : Nat) : Fld := ⟨0x10802000c0 + 4 * n, 27, 1, .rwl, 1⟩
def TIM_PTP_DOMAIN (n : Nat) : Fld := ⟨0x10802000c0 + 4 * n, 16, 8, .rwl, 0⟩
def TIM_PTP_LOGSYNC (n : Nat) : Fld := ⟨0x10802000c0 + 4 * n, 12, 4, .rwl, 0xd⟩
def TIM_PTP_LOGANN (n : Nat) : Fld := ⟨0x10802000c0 + 4 * n, 8, 4, .rwl, 1⟩
def TIM_PTP_LOGPDLY (n : Nat) : Fld := ⟨0x10802000c0 + 4 * n, 4, 4, .rwl, 0⟩
def TIM_PTP_LOGDREQ (n : Nat) : Fld := ⟨0x10802000c0 + 4 * n, 0, 4, .rwl, 0⟩
def TIM_PTPCLK_PRIO1 : Fld := ⟨0x10802000d0, 8, 8, .rwl, 0x80⟩
def TIM_PTPCLK_PRIO2 : Fld := ⟨0x10802000d0, 0, 8, .rwl, 0x80⟩
def TIM_FOREIGN_DROP : Fld := ⟨0x10802000d4, 16, 16, .ro, 0⟩
def TIM_FOREIGN_COUNT : Fld := ⟨0x10802000d4, 0, 16, .ro, 0⟩
def TIM_CLOCKID : Fld := ⟨0x10802000d8, 0, 64, .ro, 0⟩
def TIM_TE_CTRL_ARM (n : Nat) : Fld := ⟨0x1080200100 + 0x20 * n, 31, 1, .rw, 0⟩
def TIM_TE_CTRL_SAFEOFF (n : Nat) : Fld := ⟨0x1080200100 + 0x20 * n, 30, 1, .rw, 0⟩
def TIM_TE_CTRL_LEVEL (n : Nat) : Fld := ⟨0x1080200100 + 0x20 * n, 29, 1, .rw, 0⟩
def TIM_TE_CTRL_MODE (n : Nat) : Fld := ⟨0x1080200100 + 0x20 * n, 24, 3, .rw, 0⟩
def TIM_TE_CTRL_WIDTH (n : Nat) : Fld := ⟨0x1080200100 + 0x20 * n, 0, 16, .rw, 1⟩
def TIM_TE_STAT_CFGERR (n : Nat) : Fld := ⟨0x1080200104 + 0x20 * n, 16, 1, .w1c, 0⟩
def TIM_TE_STAT_MISSED (n : Nat) : Fld := ⟨0x1080200104 + 0x20 * n, 0, 16, .ro, 0⟩
def TIM_TE_TIME_SEC (n : Nat) : Fld := ⟨0x1080200108 + 0x20 * n, 32, 32, .rw, 0⟩
def TIM_TE_TIME_NSEC (n : Nat) : Fld := ⟨0x1080200108 + 0x20 * n, 0, 32, .rw, 0⟩
def TIM_TE_PERIOD_PERIOD (n : Nat) : Fld := ⟨0x1080200110 + 0x20 * n, 0, 32, .rw, 0⟩
def TIM_TE_OFFSET_OFFSET (n : Nat) : Fld := ⟨0x1080200114 + 0x20 * n, 0, 30, .rw, 0⟩
def TIM_LAUNCH_LATEWIN : Fld := ⟨0x1080200180, 0, 16, .rwl, 0xa⟩
def TIM_LAUNCHCNT_FAR : Fld := ⟨0x1080200184, 16, 16, .ro, 0⟩
def TIM_LAUNCHCNT_LATE : Fld := ⟨0x1080200184, 0, 16, .ro, 0⟩

def regsTIM : List RegDesc := [
  ⟨0x1080200000, false, [], [TIM_CTRL_SLEWLIM, TIM_CTRL_STEP_EN, TIM_CTRL_PPSOUT_EN, TIM_CTRL_PPS_EN]⟩,
  ⟨0x1080200004, false, [], [TIM_STATUS_SETREF, TIM_STATUS_HOLD1H, TIM_STATUS_TIMESET, TIM_STATUS_WARM, TIM_STATUS_FAIL, TIM_STATUS_STATE]⟩,
  ⟨0x1080200008, true, [], [TIM_SEC]⟩,
  ⟨0x1080200010, false, [], [TIM_NSEC]⟩,
  ⟨0x1080200014, false, [], [TIM_FRAC]⟩,
  ⟨0x1080200018, true, [], [TIM_SETSEC]⟩,
  ⟨0x1080200020, false, [], [TIM_SETNS_GO, TIM_SETNS_NS]⟩,
  ⟨0x1080200024, false, [], [TIM_UTC_LEAP61, TIM_UTC_LEAP59, TIM_UTC_VALID, TIM_UTC_UTCOFS]⟩,
  ⟨0x1080200028, false, [], [TIM_RATE]⟩,
  ⟨0x108020002c, false, [], [TIM_PPSERR_ERR]⟩,
  ⟨0x1080200030, false, [], [TIM_PPSCFG_INDELAY, TIM_PPSCFG_TC]⟩,
  ⟨0x1080200034, false, [], [TIM_HOLDT]⟩,
  ⟨0x1080200038, false, [], [TIM_TRIG_DELAY]⟩,
  ⟨0x108020003c, false, [], [TIM_CLKQ_CLASS, TIM_CLKQ_ACCURACY, TIM_CLKQ_SOURCE]⟩,
  ⟨0x1080200040, false, [(12, 4)], [TIM_LAT_EGRESS 0, TIM_LAT_INGRESS 0]⟩,
  ⟨0x1080200080, false, [(12, 4)], [TIM_ADJ 0]⟩,
  ⟨0x10802000c0, false, [(4, 4)], [TIM_PTP_EN 0, TIM_PTP_PROTO 0, TIM_PTP_TWOSTEP 0, TIM_PTP_DOMAIN 0, TIM_PTP_LOGSYNC 0, TIM_PTP_LOGANN 0, TIM_PTP_LOGPDLY 0, TIM_PTP_LOGDREQ 0]⟩,
  ⟨0x10802000d0, false, [], [TIM_PTPCLK_PRIO1, TIM_PTPCLK_PRIO2]⟩,
  ⟨0x10802000d4, false, [], [TIM_FOREIGN_DROP, TIM_FOREIGN_COUNT]⟩,
  ⟨0x10802000d8, true, [], [TIM_CLOCKID]⟩,
  ⟨0x1080200100, false, [(4, 0x20)], [TIM_TE_CTRL_ARM 0, TIM_TE_CTRL_SAFEOFF 0, TIM_TE_CTRL_LEVEL 0, TIM_TE_CTRL_MODE 0, TIM_TE_CTRL_WIDTH 0]⟩,
  ⟨0x1080200104, false, [(4, 0x20)], [TIM_TE_STAT_CFGERR 0, TIM_TE_STAT_MISSED 0]⟩,
  ⟨0x1080200108, true, [(4, 0x20)], [TIM_TE_TIME_SEC 0, TIM_TE_TIME_NSEC 0]⟩,
  ⟨0x1080200110, false, [(4, 0x20)], [TIM_TE_PERIOD_PERIOD 0]⟩,
  ⟨0x1080200114, false, [(4, 0x20)], [TIM_TE_OFFSET_OFFSET 0]⟩,
  ⟨0x1080200180, false, [], [TIM_LAUNCH_LATEWIN]⟩,
  ⟨0x1080200184, false, [], [TIM_LAUNCHCNT_FAR, TIM_LAUNCHCNT_LATE]⟩]

/-! Block BBS: the fields of its registers, and its registers (the spec's register tables). -/

def BBS_CTRL_BUSY_OFF : Fld := ⟨0x1080210000, 7, 1, .ro, 0⟩
def BBS_CTRL_ENPEND : Fld := ⟨0x1080210000, 6, 1, .ro, 0⟩
def BBS_CTRL_EN : Fld := ⟨0x1080210000, 0, 1, .rw, 0⟩
def BBS_STATUS_SFPREF : Fld := ⟨0x1080210004, 16, 2, .ro, 0⟩
def BBS_STATUS_LINK : Fld := ⟨0x1080210004, 0, 4, .ro, 0⟩
def BBS_PORT_EN (n : Nat) : Fld := ⟨0x1080210010 + 4 * n, 31, 1, .rwl, 1⟩
def BBS_PORT_LEARN (n : Nat) : Fld := ⟨0x1080210010 + 4 * n, 30, 1, .rwl, 1⟩
def BBS_PORT_FRER (n : Nat) : Fld := ⟨0x1080210010 + 4 * n, 29, 1, .rwl, 0⟩
def BBS_PORT_DEFPCP (n : Nat) : Fld := ⟨0x1080210010 + 4 * n, 12, 3, .rwl, 0⟩
def BBS_PORT_PVID (n : Nat) : Fld := ⟨0x1080210010 + 4 * n, 0, 12, .rwl, 1⟩
def BBS_QUENCH_INDROP (n : Nat) : Fld := ⟨0x1080210020 + 4 * n, 31, 1, .rwo, 0⟩
def BBS_QUENCH_CLASSES (n : Nat) : Fld := ⟨0x1080210020 + 4 * n, 0, 7, .rwo, 0⟩
def BBS_MGMT_TCPPORT : Fld := ⟨0x1080210030, 16, 16, .rwl, 0x1b8f⟩
def BBS_MGMT_RATE : Fld := ⟨0x1080210030, 8, 8, .rwl, 0x32⟩
def BBS_MGMT_MGMTWIN : Fld := ⟨0x1080210030, 0, 8, .rwl, 0xa⟩
def BBS_AGE : Fld := ⟨0x1080210034, 0, 16, .rwl, 0x12c⟩
def BBS_TBLCMD_GO : Fld := ⟨0x1080210040, 31, 1, .wo, 0⟩
def BBS_TBLCMD_BUSY : Fld := ⟨0x1080210040, 30, 1, .ro, 0⟩
def BBS_TBLCMD_TABLE : Fld := ⟨0x1080210040, 28, 2, .rw, 0⟩
def BBS_TBLCMD_OP : Fld := ⟨0x1080210040, 25, 3, .rw, 0⟩
def BBS_TBLCMD_ERR : Fld := ⟨0x1080210040, 24, 1, .w1c, 0⟩
def BBS_TBLCMD_INDEX : Fld := ⟨0x1080210040, 0, 14, .rw, 0⟩
def BBS_TBLDATA_DATA (n : Nat) : Fld := ⟨0x1080210044 + 4 * n, 0, 32, .rw, 0⟩
def BBS_GCL_CTRL_GO (n : Nat) : Fld := ⟨0x1080210080 + 0x20 * n, 31, 1, .wo, 0⟩
def BBS_GCL_CTRL_PEND (n : Nat) : Fld := ⟨0x1080210080 + 0x20 * n, 30, 1, .ro, 0⟩
def BBS_GCL_CTRL_OPERBANK (n : Nat) : Fld := ⟨0x1080210080 + 0x20 * n, 29, 1, .ro, 0⟩
def BBS_GCL_CTRL_GATEEN (n : Nat) : Fld := ⟨0x1080210080 + 0x20 * n, 28, 1, .rwl, 0⟩
def BBS_GCL_CTRL_LEN (n : Nat) : Fld := ⟨0x1080210080 + 0x20 * n, 0, 9, .rw, 1⟩
def BBS_GCL_STAT_ENTRY (n : Nat) : Fld := ⟨0x1080210084 + 0x20 * n, 8, 8, .ro, 0⟩
def BBS_GCL_STAT_CFGERR (n : Nat) : Fld := ⟨0x1080210084 + 0x20 * n, 0, 1, .w1c, 0⟩
def BBS_GCL_BASE_SEC (n : Nat) : Fld := ⟨0x1080210088 + 0x20 * n, 32, 32, .rw, 0⟩
def BBS_GCL_BASE_NSEC (n : Nat) : Fld := ⟨0x1080210088 + 0x20 * n, 0, 32, .rw, 0⟩
def BBS_GCL_CYCLE_CYCLE (n : Nat) : Fld := ⟨0x1080210090 + 0x20 * n, 0, 30, .rw, 0xf4240⟩
def BBS_TXRING_ENTRIES (n : Nat) : Fld := ⟨0x1080210100 + 8 * n, 52, 12, .rwl, 0⟩
def BBS_TXRING_BASE (n : Nat) : Fld := ⟨0x1080210100 + 8 * n, 5, 35, .rwl, 0⟩
def BBS_TXTAIL_TAIL (n : Nat) : Fld := ⟨0x1080210140 + 4 * n, 0, 12, .rw, 0⟩
def BBS_RXRING_ENTRIES : Fld := ⟨0x1080210160, 52, 12, .rwl, 0⟩
def BBS_RXRING_BASE : Fld := ⟨0x1080210160, 5, 35, .rwl, 0⟩
def BBS_RXIDX_DROP : Fld := ⟨0x1080210168, 16, 16, .ro, 0⟩
def BBS_RXIDX_NEXT : Fld := ⟨0x1080210168, 0, 12, .ro, 0⟩
def BBS_DROP_INDROP (n : Nat) : Fld := ⟨0x1080210180 + 8 * n, 16, 16, .ro, 0⟩
def BBS_DROP_TAIL (n : Nat) : Fld := ⟨0x1080210180 + 8 * n, 0, 16, .ro, 0⟩
def BBS_ERR_OVERSIZE (n : Nat) : Fld := ⟨0x1080210184 + 8 * n, 16, 16, .ro, 0⟩
def BBS_ERR_MGMTPOL (n : Nat) : Fld := ⟨0x1080210184 + 8 * n, 0, 16, .ro, 0⟩
def BBS_CHAFF : Fld := ⟨0x10802101c0, 0, 32, .ro, 0⟩
def BBS_GCLE_ENTRY (l m n : Nat) : Fld := ⟨0x1080211000 + 0x1000 * l + 0x800 * m + 8 * n, 0, 64, .rwl, 0⟩

def regsBBS : List RegDesc := [
  ⟨0x1080210000, false, [], [BBS_CTRL_BUSY_OFF, BBS_CTRL_ENPEND, BBS_CTRL_EN]⟩,
  ⟨0x1080210004, false, [], [BBS_STATUS_SFPREF, BBS_STATUS_LINK]⟩,
  ⟨0x1080210010, false, [(4, 4)], [BBS_PORT_EN 0, BBS_PORT_LEARN 0, BBS_PORT_FRER 0, BBS_PORT_DEFPCP 0, BBS_PORT_PVID 0]⟩,
  ⟨0x1080210020, false, [(4, 4)], [BBS_QUENCH_INDROP 0, BBS_QUENCH_CLASSES 0]⟩,
  ⟨0x1080210030, false, [], [BBS_MGMT_TCPPORT, BBS_MGMT_RATE, BBS_MGMT_MGMTWIN]⟩,
  ⟨0x1080210034, false, [], [BBS_AGE]⟩,
  ⟨0x1080210040, false, [], [BBS_TBLCMD_GO, BBS_TBLCMD_BUSY, BBS_TBLCMD_TABLE, BBS_TBLCMD_OP, BBS_TBLCMD_ERR, BBS_TBLCMD_INDEX]⟩,
  ⟨0x1080210044, false, [(4, 4)], [BBS_TBLDATA_DATA 0]⟩,
  ⟨0x1080210080, false, [(4, 0x20)], [BBS_GCL_CTRL_GO 0, BBS_GCL_CTRL_PEND 0, BBS_GCL_CTRL_OPERBANK 0, BBS_GCL_CTRL_GATEEN 0, BBS_GCL_CTRL_LEN 0]⟩,
  ⟨0x1080210084, false, [(4, 0x20)], [BBS_GCL_STAT_ENTRY 0, BBS_GCL_STAT_CFGERR 0]⟩,
  ⟨0x1080210088, true, [(4, 0x20)], [BBS_GCL_BASE_SEC 0, BBS_GCL_BASE_NSEC 0]⟩,
  ⟨0x1080210090, false, [(4, 0x20)], [BBS_GCL_CYCLE_CYCLE 0]⟩,
  ⟨0x1080210100, true, [(8, 8)], [BBS_TXRING_ENTRIES 0, BBS_TXRING_BASE 0]⟩,
  ⟨0x1080210140, false, [(8, 4)], [BBS_TXTAIL_TAIL 0]⟩,
  ⟨0x1080210160, true, [], [BBS_RXRING_ENTRIES, BBS_RXRING_BASE]⟩,
  ⟨0x1080210168, false, [], [BBS_RXIDX_DROP, BBS_RXIDX_NEXT]⟩,
  ⟨0x1080210180, false, [(4, 8)], [BBS_DROP_INDROP 0, BBS_DROP_TAIL 0]⟩,
  ⟨0x1080210184, false, [(4, 8)], [BBS_ERR_OVERSIZE 0, BBS_ERR_MGMTPOL 0]⟩,
  ⟨0x10802101c0, false, [], [BBS_CHAFF]⟩,
  ⟨0x1080211000, true, [(4, 0x1000), (2, 0x800), (256, 8)], [BBS_GCLE_ENTRY 0 0 0]⟩]

end R

end Sys2Proof.Machine
end

