-- ==== Sys2Proof/Machine/RegMapC.lean ====
section
/-! DEFINITION. The register map (HBR, CGW, DMA, FIO, SFU, PAIR, EVC, GLN, GRN, UPD, ACC, PWR), one definition per field, with the address, bit place, width, access code and power-on reset value that the register tables of the chapters give, and the register lists of R501. -/

namespace Sys2Proof.Machine

namespace R

/-! Block HBR: the fields of its registers, and its registers (the spec's register tables). -/

def HBR_LINK_BME : Fld := ⟨0x1080220000, 31, 1, .ro, 0⟩
def HBR_LINK_LINKUP : Fld := ⟨0x1080220000, 30, 1, .ro, 0⟩
def HBR_LINK_WIDTH : Fld := ⟨0x1080220000, 16, 4, .ro, 0⟩
def HBR_LINK_SPEED : Fld := ⟨0x1080220000, 0, 4, .ro, 0⟩
def HBR_RDERR_CODE : Fld := ⟨0x1080220008, 60, 4, .ro, 0⟩
def HBR_RDERR_COUNT : Fld := ⟨0x1080220008, 40, 16, .ro, 0⟩
def HBR_RDERR_ADDR : Fld := ⟨0x1080220008, 0, 40, .ro, 0⟩
def HBR_PWERR_VALID : Fld := ⟨0x1080220010, 63, 1, .w1c, 0⟩
def HBR_PWERR_SRC : Fld := ⟨0x1080220010, 62, 1, .ro, 0⟩
def HBR_PWERR_CODE : Fld := ⟨0x1080220010, 56, 4, .ro, 0⟩
def HBR_PWERR_ADDR : Fld := ⟨0x1080220010, 0, 40, .ro, 0⟩
def HBR_PWCNT_COUNT : Fld := ⟨0x1080220018, 0, 32, .ro, 0⟩
def HBR_FENCE_FAIL : Fld := ⟨0x108022001c, 31, 1, .ro, 0⟩
def HBR_FENCE_FENCES : Fld := ⟨0x108022001c, 0, 16, .ro, 0⟩
def HBR_OBERR_STATUS : Fld := ⟨0x1080220020, 61, 3, .ro, 0⟩
def HBR_OBERR_INIT : Fld := ⟨0x1080220020, 56, 5, .ro, 0⟩
def HBR_OBERR_ADDR : Fld := ⟨0x1080220020, 0, 40, .ro, 0⟩
def HBR_CPLTO_TIMEOUT : Fld := ⟨0x1080220028, 0, 24, .rwl, 0x32⟩
def HBR_XCNT_EXHAUST : Fld := ⟨0x108022002c, 16, 16, .ro, 0⟩
def HBR_XCNT_RETRY : Fld := ⟨0x108022002c, 0, 16, .ro, 0⟩
def HBR_LOCK_GO : Fld := ⟨0x1080220030, 31, 1, .wo, 0⟩
def HBR_LOCK_UNLOCK : Fld := ⟨0x1080220030, 30, 1, .wo, 0⟩
def HBR_LOCK_TIME : Fld := ⟨0x1080220030, 16, 5, .rwo, 0xa⟩
def HBR_LOCK_BLOCK : Fld := ⟨0x1080220030, 0, 8, .rwo, 0⟩
def HBR_LOCKST_HELD : Fld := ⟨0x1080220034, 31, 1, .ro, 0⟩
def HBR_LOCKST_BROKEN : Fld := ⟨0x1080220034, 30, 1, .w1c, 0⟩
def HBR_LOCKST_RESULT : Fld := ⟨0x1080220034, 24, 4, .ro, 0⟩
def HBR_LOCKST_BLOCK : Fld := ⟨0x1080220034, 0, 8, .ro, 0⟩
def HBR_OBWIN_HBASE (n : Nat) : Fld := ⟨0x1080220040 + 8 * n, 32, 32, .rwl, 0⟩
def HBR_OBWIN_EN (n : Nat) : Fld := ⟨0x1080220040 + 8 * n, 0, 1, .rwl, 0⟩
def HBR_SESS_OPEN (n : Nat) : Fld := ⟨0x1080221000 + 4 * n, 31, 1, .ro, 0⟩
def HBR_SESS_READONLY (n : Nat) : Fld := ⟨0x1080221000 + 4 * n, 30, 1, .ro, 0⟩
def HBR_SESS_ROLE (n : Nat) : Fld := ⟨0x1080221000 + 4 * n, 24, 3, .ro, 0⟩
def HBR_SESS_RINGS (n : Nat) : Fld := ⟨0x1080221000 + 4 * n, 16, 5, .ro, 0⟩
def HBR_SESS_IDENT (n : Nat) : Fld := ⟨0x1080221000 + 4 * n, 0, 16, .ro, 0⟩
def HBR_OWNER_VALID : Fld := ⟨0x1080221020, 31, 1, .ro, 0⟩
def HBR_OWNER_ORPHAN : Fld := ⟨0x1080221020, 30, 1, .ro, 0⟩
def HBR_OWNER_SESSION : Fld := ⟨0x1080221020, 27, 3, .ro, 0⟩
def HBR_OWNER_ROLE : Fld := ⟨0x1080221020, 24, 3, .ro, 0⟩
def HBR_OWNER_IDENT : Fld := ⟨0x1080221020, 0, 16, .ro, 0⟩
def HBR_OWNCFG_OFFERTO : Fld := ⟨0x1080221024, 8, 8, .rwl, 0xa⟩
def HBR_OWNCFG_HOLD : Fld := ⟨0x1080221024, 0, 8, .rwl, 0x1e⟩
def HBR_OWNSEQ_SEQ : Fld := ⟨0x1080221028, 0, 32, .ro, 0⟩
def HBR_OFFER_VALID : Fld := ⟨0x108022102c, 31, 1, .ro, 0⟩
def HBR_OFFER_TO : Fld := ⟨0x108022102c, 27, 3, .ro, 0⟩
def HBR_OFFER_REMAIN : Fld := ⟨0x108022102c, 0, 8, .ro, 0⟩
def HBR_DBERR_COUNT : Fld := ⟨0x1080221030, 16, 16, .ro, 0⟩
def HBR_DBERR_INDEX : Fld := ⟨0x1080221030, 0, 13, .ro, 0⟩
def HBR_RP_CBASE_BASE (n : Nat) : Fld := ⟨0x1080221100 + 0x20 * n, 5, 59, .rw, 0⟩
def HBR_RP_QBASE_BASE (n : Nat) : Fld := ⟨0x1080221108 + 0x20 * n, 5, 59, .rw, 0⟩
def HBR_RP_CFG_EN (n : Nat) : Fld := ⟨0x1080221110 + 0x20 * n, 31, 1, .rw, 0⟩
def HBR_RP_CFG_VEC (n : Nat) : Fld := ⟨0x1080221110 + 0x20 * n, 24, 6, .rw, 0⟩
def HBR_RP_CFG_CPLENT (n : Nat) : Fld := ⟨0x1080221110 + 0x20 * n, 12, 12, .rw, 0⟩
def HBR_RP_CFG_CMDENT (n : Nat) : Fld := ⟨0x1080221110 + 0x20 * n, 0, 12, .rw, 0⟩
def HBR_RP_MOD_ITIME (n : Nat) : Fld := ⟨0x1080221114 + 0x20 * n, 16, 16, .rw, 0⟩
def HBR_RP_MOD_ICOUNT (n : Nat) : Fld := ⟨0x1080221114 + 0x20 * n, 0, 8, .rw, 0⟩
def HBR_RP_STAT_ERR (n : Nat) : Fld := ⟨0x1080221118 + 0x20 * n, 28, 4, .ro, 0⟩
def HBR_RP_STAT_HEAD (n : Nat) : Fld := ⟨0x1080221118 + 0x20 * n, 16, 12, .ro, 0⟩
def HBR_RP_STAT_CPLNEXT (n : Nat) : Fld := ⟨0x1080221118 + 0x20 * n, 0, 12, .ro, 0⟩
def HBR_RP_CNT_STALL (n : Nat) : Fld := ⟨0x108022111c + 0x20 * n, 16, 16, .ro, 0⟩
def HBR_RP_CNT_INFLIGHT (n : Nat) : Fld := ⟨0x108022111c + 0x20 * n, 0, 7, .ro, 0⟩

def regsHBR : List RegDesc := [
  ⟨0x1080220000, false, [], [HBR_LINK_BME, HBR_LINK_LINKUP, HBR_LINK_WIDTH, HBR_LINK_SPEED]⟩,
  ⟨0x1080220008, true, [], [HBR_RDERR_CODE, HBR_RDERR_COUNT, HBR_RDERR_ADDR]⟩,
  ⟨0x1080220010, true, [], [HBR_PWERR_VALID, HBR_PWERR_SRC, HBR_PWERR_CODE, HBR_PWERR_ADDR]⟩,
  ⟨0x1080220018, false, [], [HBR_PWCNT_COUNT]⟩,
  ⟨0x108022001c, false, [], [HBR_FENCE_FAIL, HBR_FENCE_FENCES]⟩,
  ⟨0x1080220020, true, [], [HBR_OBERR_STATUS, HBR_OBERR_INIT, HBR_OBERR_ADDR]⟩,
  ⟨0x1080220028, false, [], [HBR_CPLTO_TIMEOUT]⟩,
  ⟨0x108022002c, false, [], [HBR_XCNT_EXHAUST, HBR_XCNT_RETRY]⟩,
  ⟨0x1080220030, false, [], [HBR_LOCK_GO, HBR_LOCK_UNLOCK, HBR_LOCK_TIME, HBR_LOCK_BLOCK]⟩,
  ⟨0x1080220034, false, [], [HBR_LOCKST_HELD, HBR_LOCKST_BROKEN, HBR_LOCKST_RESULT, HBR_LOCKST_BLOCK]⟩,
  ⟨0x1080220040, true, [(4, 8)], [HBR_OBWIN_HBASE 0, HBR_OBWIN_EN 0]⟩,
  ⟨0x1080221000, false, [(8, 4)], [HBR_SESS_OPEN 0, HBR_SESS_READONLY 0, HBR_SESS_ROLE 0, HBR_SESS_RINGS 0, HBR_SESS_IDENT 0]⟩,
  ⟨0x1080221020, false, [], [HBR_OWNER_VALID, HBR_OWNER_ORPHAN, HBR_OWNER_SESSION, HBR_OWNER_ROLE, HBR_OWNER_IDENT]⟩,
  ⟨0x1080221024, false, [], [HBR_OWNCFG_OFFERTO, HBR_OWNCFG_HOLD]⟩,
  ⟨0x1080221028, false, [], [HBR_OWNSEQ_SEQ]⟩,
  ⟨0x108022102c, false, [], [HBR_OFFER_VALID, HBR_OFFER_TO, HBR_OFFER_REMAIN]⟩,
  ⟨0x1080221030, false, [], [HBR_DBERR_COUNT, HBR_DBERR_INDEX]⟩,
  ⟨0x1080221100, true, [(16, 0x20)], [HBR_RP_CBASE_BASE 0]⟩,
  ⟨0x1080221108, true, [(16, 0x20)], [HBR_RP_QBASE_BASE 0]⟩,
  ⟨0x1080221110, false, [(16, 0x20)], [HBR_RP_CFG_EN 0, HBR_RP_CFG_VEC 0, HBR_RP_CFG_CPLENT 0, HBR_RP_CFG_CMDENT 0]⟩,
  ⟨0x1080221114, false, [(16, 0x20)], [HBR_RP_MOD_ITIME 0, HBR_RP_MOD_ICOUNT 0]⟩,
  ⟨0x1080221118, false, [(16, 0x20)], [HBR_RP_STAT_ERR 0, HBR_RP_STAT_HEAD 0, HBR_RP_STAT_CPLNEXT 0]⟩,
  ⟨0x108022111c, false, [(16, 0x20)], [HBR_RP_CNT_STALL 0, HBR_RP_CNT_INFLIGHT 0]⟩]

/-! Block CGW: the fields of its registers, and its registers (the spec's register tables). -/

def CGW_CTRL_BUSY_OFF : Fld := ⟨0x1080230000, 7, 1, .ro, 0⟩
def CGW_CTRL_ENPEND : Fld := ⟨0x1080230000, 6, 1, .ro, 0⟩
def CGW_CTRL_EN : Fld := ⟨0x1080230000, 0, 1, .rw, 0⟩
def CGW_MAPBASE_ENTRIES : Fld := ⟨0x1080230008, 40, 11, .rwl, 0⟩
def CGW_MAPBASE_BASE : Fld := ⟨0x1080230008, 4, 36, .rwl, 0⟩
def CGW_CH_CFG_CHEN (n : Nat) : Fld := ⟨0x1080230100 + 0x40 * n, 31, 1, .rw, 0⟩
def CGW_CH_CFG_CFGREF (n : Nat) : Fld := ⟨0x1080230100 + 0x40 * n, 30, 1, .w1c, 0⟩
def CGW_CH_CFG_JCH (n : Nat) : Fld := ⟨0x1080230100 + 0x40 * n, 28, 2, .rwl, 0⟩
def CGW_CH_CFG_NODE (n : Nat) : Fld := ⟨0x1080230100 + 0x40 * n, 16, 9, .rwl, 0⟩
def CGW_CH_CFG_CFGERR (n : Nat) : Fld := ⟨0x1080230100 + 0x40 * n, 0, 4, .ro, 0⟩
def CGW_CH_NBT_BRPM1 (n : Nat) : Fld := ⟨0x1080230104 + 0x40 * n, 27, 5, .rwl, 0⟩
def CGW_CH_NBT_TSEG1M1 (n : Nat) : Fld := ⟨0x1080230104 + 0x40 * n, 19, 8, .rwl, 0⟩
def CGW_CH_NBT_TSEG2M1 (n : Nat) : Fld := ⟨0x1080230104 + 0x40 * n, 12, 7, .rwl, 0⟩
def CGW_CH_NBT_SJWM1 (n : Nat) : Fld := ⟨0x1080230104 + 0x40 * n, 0, 7, .rwl, 0⟩
def CGW_CH_DBT_BRPM1 (n : Nat) : Fld := ⟨0x1080230108 + 0x40 * n, 27, 5, .rwl, 0⟩
def CGW_CH_DBT_TSEG1M1 (n : Nat) : Fld := ⟨0x1080230108 + 0x40 * n, 16, 5, .rwl, 0⟩
def CGW_CH_DBT_TSEG2M1 (n : Nat) : Fld := ⟨0x1080230108 + 0x40 * n, 8, 4, .rwl, 0⟩
def CGW_CH_DBT_SJWM1 (n : Nat) : Fld := ⟨0x1080230108 + 0x40 * n, 0, 4, .rwl, 0⟩
def CGW_CH_MODE_TDCO (n : Nat) : Fld := ⟨0x108023010c + 0x40 * n, 8, 8, .rwl, 0⟩
def CGW_CH_MODE_TDC (n : Nat) : Fld := ⟨0x108023010c + 0x40 * n, 2, 1, .rwl, 0⟩
def CGW_CH_MODE_LISTEN (n : Nat) : Fld := ⟨0x108023010c + 0x40 * n, 1, 1, .rwl, 0⟩
def CGW_CH_MODE_FD (n : Nat) : Fld := ⟨0x108023010c + 0x40 * n, 0, 1, .rwl, 0⟩
def CGW_CH_STAT_TEC (n : Nat) : Fld := ⟨0x1080230110 + 0x40 * n, 8, 8, .ro, 0⟩
def CGW_CH_STAT_STATE (n : Nat) : Fld := ⟨0x1080230110 + 0x40 * n, 0, 2, .ro, 3⟩
def CGW_CH_RXCNT_UNMAPPED (n : Nat) : Fld := ⟨0x1080230114 + 0x40 * n, 16, 16, .ro, 0⟩
def CGW_CH_RXCNT_RECEIVED (n : Nat) : Fld := ⟨0x1080230114 + 0x40 * n, 0, 16, .ro, 0⟩
def CGW_CH_TXCNT_OVWR (n : Nat) : Fld := ⟨0x1080230118 + 0x40 * n, 16, 16, .ro, 0⟩
def CGW_CH_TXCNT_SENT (n : Nat) : Fld := ⟨0x1080230118 + 0x40 * n, 0, 16, .ro, 0⟩
def CGW_CH_ERRCNT_LENERR (n : Nat) : Fld := ⟨0x108023011c + 0x40 * n, 16, 16, .ro, 0⟩
def CGW_CH_ERRCNT_NODEOVF (n : Nat) : Fld := ⟨0x108023011c + 0x40 * n, 0, 16, .ro, 0⟩

def regsCGW : List RegDesc := [
  ⟨0x1080230000, false, [], [CGW_CTRL_BUSY_OFF, CGW_CTRL_ENPEND, CGW_CTRL_EN]⟩,
  ⟨0x1080230008, true, [], [CGW_MAPBASE_ENTRIES, CGW_MAPBASE_BASE]⟩,
  ⟨0x1080230100, false, [(2, 0x40)], [CGW_CH_CFG_CHEN 0, CGW_CH_CFG_CFGREF 0, CGW_CH_CFG_JCH 0, CGW_CH_CFG_NODE 0, CGW_CH_CFG_CFGERR 0]⟩,
  ⟨0x1080230104, false, [(2, 0x40)], [CGW_CH_NBT_BRPM1 0, CGW_CH_NBT_TSEG1M1 0, CGW_CH_NBT_TSEG2M1 0, CGW_CH_NBT_SJWM1 0]⟩,
  ⟨0x1080230108, false, [(2, 0x40)], [CGW_CH_DBT_BRPM1 0, CGW_CH_DBT_TSEG1M1 0, CGW_CH_DBT_TSEG2M1 0, CGW_CH_DBT_SJWM1 0]⟩,
  ⟨0x108023010c, false, [(2, 0x40)], [CGW_CH_MODE_TDCO 0, CGW_CH_MODE_TDC 0, CGW_CH_MODE_LISTEN 0, CGW_CH_MODE_FD 0]⟩,
  ⟨0x1080230110, false, [(2, 0x40)], [CGW_CH_STAT_TEC 0, CGW_CH_STAT_STATE 0]⟩,
  ⟨0x1080230114, false, [(2, 0x40)], [CGW_CH_RXCNT_UNMAPPED 0, CGW_CH_RXCNT_RECEIVED 0]⟩,
  ⟨0x1080230118, false, [(2, 0x40)], [CGW_CH_TXCNT_OVWR 0, CGW_CH_TXCNT_SENT 0]⟩,
  ⟨0x108023011c, false, [(2, 0x40)], [CGW_CH_ERRCNT_LENERR 0, CGW_CH_ERRCNT_NODEOVF 0]⟩]

/-! Block DMA: the fields of its registers, and its registers (the spec's register tables). -/

def DMA_CTRL_BUSY_OFF : Fld := ⟨0x1080240000, 7, 1, .ro, 0⟩
def DMA_CTRL_ENPEND : Fld := ⟨0x1080240000, 6, 1, .ro, 0⟩
def DMA_CTRL_EN : Fld := ⟨0x1080240000, 0, 1, .rw, 0⟩
def DMA_STATUS_HALTED : Fld := ⟨0x1080240004, 16, 16, .ro, 0⟩
def DMA_STATUS_ACTIVE : Fld := ⟨0x1080240004, 0, 16, .ro, 0⟩
def DMA_IRQSTAT_IRQ : Fld := ⟨0x1080240008, 0, 16, .w1c, 0⟩
def DMA_CYCSTAT_OUTERR : Fld := ⟨0x108024000c, 16, 16, .ro, 0⟩
def DMA_CYCSTAT_INERR : Fld := ⟨0x108024000c, 0, 16, .ro, 0⟩
def DMA_CHAINLIM_LIMIT : Fld := ⟨0x1080240010, 0, 17, .rwl, 0x10000⟩
def DMA_CH_CTRL_GO (n : Nat) : Fld := ⟨0x1080240100 + 0x40 * n, 31, 1, .wo, 0⟩
def DMA_CH_CTRL_ABORT (n : Nat) : Fld := ⟨0x1080240100 + 0x40 * n, 30, 1, .wo, 0⟩
def DMA_CH_CTRL_CLRHALT (n : Nat) : Fld := ⟨0x1080240100 + 0x40 * n, 29, 1, .wo, 0⟩
def DMA_CH_CTRL_CFGREF (n : Nat) : Fld := ⟨0x1080240100 + 0x40 * n, 9, 1, .w1c, 0⟩
def DMA_CH_CTRL_EN (n : Nat) : Fld := ⟨0x1080240100 + 0x40 * n, 8, 1, .rw, 0⟩
def DMA_CH_CTRL_BUSY_OFF (n : Nat) : Fld := ⟨0x1080240100 + 0x40 * n, 7, 1, .ro, 0⟩
def DMA_CH_CTRL_ENPEND (n : Nat) : Fld := ⟨0x1080240100 + 0x40 * n, 6, 1, .ro, 0⟩
def DMA_CH_CTRL_PEND (n : Nat) : Fld := ⟨0x1080240100 + 0x40 * n, 5, 1, .ro, 0⟩
def DMA_CH_CTRL_STATE (n : Nat) : Fld := ⟨0x1080240100 + 0x40 * n, 0, 2, .ro, 0⟩
def DMA_CH_CFG_RING (n : Nat) : Fld := ⟨0x1080240104 + 0x40 * n, 31, 1, .rw, 0⟩
def DMA_CH_CFG_REUSE (n : Nat) : Fld := ⟨0x1080240104 + 0x40 * n, 30, 1, .rw, 0⟩
def DMA_CH_CFG_PRIO (n : Nat) : Fld := ⟨0x1080240104 + 0x40 * n, 27, 3, .rw, 0⟩
def DMA_CH_CFG_TRIG (n : Nat) : Fld := ⟨0x1080240104 + 0x40 * n, 24, 2, .rw, 0⟩
def DMA_CH_CFG_BUFSEL (n : Nat) : Fld := ⟨0x1080240104 + 0x40 * n, 23, 1, .rw, 0⟩
def DMA_CH_CFG_JCH (n : Nat) : Fld := ⟨0x1080240104 + 0x40 * n, 20, 2, .rw, 0⟩
def DMA_CH_CHAIN_BASE (m n : Nat) : Fld := ⟨0x1080240108 + 0x40 * m + 8 * n, 5, 35, .rw, 0⟩
def DMA_CH_RING_ENTRIES (n : Nat) : Fld := ⟨0x1080240118 + 0x40 * n, 52, 12, .rw, 0⟩
def DMA_CH_RING_BASE (n : Nat) : Fld := ⟨0x1080240118 + 0x40 * n, 5, 35, .rw, 0⟩
def DMA_CH_IDX_HEAD (n : Nat) : Fld := ⟨0x1080240120 + 0x40 * n, 16, 12, .ro, 0⟩
def DMA_CH_IDX_TAIL (n : Nat) : Fld := ⟨0x1080240120 + 0x40 * n, 0, 12, .rw, 0⟩
def DMA_CH_CURDESC_ADDR (n : Nat) : Fld := ⟨0x1080240128 + 0x40 * n, 5, 35, .ro, 0⟩
def DMA_CH_LASTSTAT_WBFAIL (n : Nat) : Fld := ⟨0x1080240130 + 0x40 * n, 31, 1, .w1c, 0⟩
def DMA_CH_LASTSTAT_FCODE (n : Nat) : Fld := ⟨0x1080240130 + 0x40 * n, 24, 4, .ro, 0⟩
def DMA_CH_LASTSTAT_STATUS (n : Nat) : Fld := ⟨0x1080240130 + 0x40 * n, 16, 8, .ro, 0⟩
def DMA_CH_RESID_RESID (n : Nat) : Fld := ⟨0x1080240134 + 0x40 * n, 0, 32, .ro, 0⟩
def DMA_CH_CNT_MERGED (n : Nat) : Fld := ⟨0x1080240138 + 0x40 * n, 16, 16, .ro, 0⟩
def DMA_CH_CNT_ERRORS (n : Nat) : Fld := ⟨0x1080240138 + 0x40 * n, 0, 16, .ro, 0⟩
def DMA_CH_DESCS_DESCS (n : Nat) : Fld := ⟨0x108024013c + 0x40 * n, 0, 32, .ro, 0⟩

def regsDMA : List RegDesc := [
  ⟨0x1080240000, false, [], [DMA_CTRL_BUSY_OFF, DMA_CTRL_ENPEND, DMA_CTRL_EN]⟩,
  ⟨0x1080240004, false, [], [DMA_STATUS_HALTED, DMA_STATUS_ACTIVE]⟩,
  ⟨0x1080240008, false, [], [DMA_IRQSTAT_IRQ]⟩,
  ⟨0x108024000c, false, [], [DMA_CYCSTAT_OUTERR, DMA_CYCSTAT_INERR]⟩,
  ⟨0x1080240010, false, [], [DMA_CHAINLIM_LIMIT]⟩,
  ⟨0x1080240100, false, [(16, 0x40)], [DMA_CH_CTRL_GO 0, DMA_CH_CTRL_ABORT 0, DMA_CH_CTRL_CLRHALT 0, DMA_CH_CTRL_CFGREF 0, DMA_CH_CTRL_EN 0, DMA_CH_CTRL_BUSY_OFF 0, DMA_CH_CTRL_ENPEND 0, DMA_CH_CTRL_PEND 0, DMA_CH_CTRL_STATE 0]⟩,
  ⟨0x1080240104, false, [(16, 0x40)], [DMA_CH_CFG_RING 0, DMA_CH_CFG_REUSE 0, DMA_CH_CFG_PRIO 0, DMA_CH_CFG_TRIG 0, DMA_CH_CFG_BUFSEL 0, DMA_CH_CFG_JCH 0]⟩,
  ⟨0x1080240108, true, [(16, 0x40), (2, 8)], [DMA_CH_CHAIN_BASE 0 0]⟩,
  ⟨0x1080240118, true, [(16, 0x40)], [DMA_CH_RING_ENTRIES 0, DMA_CH_RING_BASE 0]⟩,
  ⟨0x1080240120, false, [(16, 0x40)], [DMA_CH_IDX_HEAD 0, DMA_CH_IDX_TAIL 0]⟩,
  ⟨0x1080240128, true, [(16, 0x40)], [DMA_CH_CURDESC_ADDR 0]⟩,
  ⟨0x1080240130, false, [(16, 0x40)], [DMA_CH_LASTSTAT_WBFAIL 0, DMA_CH_LASTSTAT_FCODE 0, DMA_CH_LASTSTAT_STATUS 0]⟩,
  ⟨0x1080240134, false, [(16, 0x40)], [DMA_CH_RESID_RESID 0]⟩,
  ⟨0x1080240138, false, [(16, 0x40)], [DMA_CH_CNT_MERGED 0, DMA_CH_CNT_ERRORS 0]⟩,
  ⟨0x108024013c, false, [(16, 0x40)], [DMA_CH_DESCS_DESCS 0]⟩]

/-! Block FIO: the fields of its registers, and its registers (the spec's register tables). -/

def FIO_CTRL_CFGERR : Fld := ⟨0x1080250000, 8, 4, .ro, 0⟩
def FIO_CTRL_BUSY_OFF : Fld := ⟨0x1080250000, 7, 1, .ro, 0⟩
def FIO_CTRL_ENPEND : Fld := ⟨0x1080250000, 6, 1, .ro, 0⟩
def FIO_CTRL_CFGREF : Fld := ⟨0x1080250000, 4, 1, .w1c, 0⟩
def FIO_CTRL_EN : Fld := ⟨0x1080250000, 0, 1, .rw, 0⟩
def FIO_STATUS_WDADJ : Fld := ⟨0x1080250004, 9, 1, .ro, 0⟩
def FIO_STATUS_MAPERR : Fld := ⟨0x1080250004, 8, 1, .ro, 0⟩
def FIO_STATUS_WDEXP : Fld := ⟨0x1080250004, 7, 1, .ro, 0⟩
def FIO_STATUS_WDSEEN : Fld := ⟨0x1080250004, 6, 1, .w1c, 0⟩
def FIO_STATUS_L2OK : Fld := ⟨0x1080250004, 5, 1, .ro, 0⟩
def FIO_STATUS_L1OK : Fld := ⟨0x1080250004, 4, 1, .ro, 0⟩
def FIO_MAP_WBASE : Fld := ⟨0x1080250008, 32, 15, .rwl, 0⟩
def FIO_MAP_QPLANE : Fld := ⟨0x1080250008, 16, 13, .rwl, 0⟩
def FIO_MAP_IPLANE : Fld := ⟨0x1080250008, 0, 13, .rwl, 0⟩
def FIO_WDT : Fld := ⟨0x1080250010, 0, 10, .rwl, 0x14⟩
def FIO_RETRY : Fld := ⟨0x1080250014, 0, 10, .rwl, 0x64⟩
def FIO_OUT : Fld := ⟨0x1080250018, 0, 24, .ro, 0⟩
def FIO_FAULT : Fld := ⟨0x108025001c, 0, 24, .ro, 0⟩
def FIO_CHCFG_ODET (n : Nat) : Fld := ⟨0x1080250100 + 8 * n, 7, 1, .rwl, 0⟩
def FIO_CHCFG_SAFE (n : Nat) : Fld := ⟨0x1080250100 + 8 * n, 5, 2, .rwl, 0⟩
def FIO_CHCFG_FILT (n : Nat) : Fld := ⟨0x1080250100 + 8 * n, 2, 3, .rwl, 0⟩
def FIO_CHCFG_MODE (n : Nat) : Fld := ⟨0x1080250100 + 8 * n, 0, 2, .rwl, 0⟩
def FIO_CHSTAT_CLR (n : Nat) : Fld := ⟨0x1080250104 + 8 * n, 31, 1, .wo, 0⟩
def FIO_CHSTAT_CURR (n : Nat) : Fld := ⟨0x1080250104 + 8 * n, 16, 8, .ro, 0⟩
def FIO_CHSTAT_OVLCNT (n : Nat) : Fld := ⟨0x1080250104 + 8 * n, 8, 8, .ro, 0⟩
def FIO_CHSTAT_SEEN (n : Nat) : Fld := ⟨0x1080250104 + 8 * n, 7, 1, .w1c, 0⟩
def FIO_CHSTAT_NOSUP (n : Nat) : Fld := ⟨0x1080250104 + 8 * n, 5, 1, .ro, 0⟩
def FIO_CHSTAT_EXTV (n : Nat) : Fld := ⟨0x1080250104 + 8 * n, 4, 1, .ro, 0⟩
def FIO_CHSTAT_OTEMP (n : Nat) : Fld := ⟨0x1080250104 + 8 * n, 3, 1, .ro, 0⟩
def FIO_CHSTAT_OPEN (n : Nat) : Fld := ⟨0x1080250104 + 8 * n, 2, 1, .ro, 0⟩
def FIO_CHSTAT_LATCH (n : Nat) : Fld := ⟨0x1080250104 + 8 * n, 1, 1, .ro, 0⟩
def FIO_CHSTAT_OVL (n : Nat) : Fld := ⟨0x1080250104 + 8 * n, 0, 1, .ro, 0⟩
def FIO_FCCFG_INV : Fld := ⟨0x1080250200, 24, 8, .rwl, 0⟩
def FIO_FCCFG_MODES : Fld := ⟨0x1080250200, 0, 24, .rwl, 0⟩
def FIO_FCCNT_COUNT (n : Nat) : Fld := ⟨0x1080250210 + 4 * n, 0, 32, .ro, 0⟩
def FIO_FCSET_VALUE (n : Nat) : Fld := ⟨0x1080250230 + 4 * n, 0, 32, .wo, 0⟩
def FIO_FCERR_LINE : Fld := ⟨0x1080250250, 24, 8, .ro, 0⟩
def FIO_FCERR_LINESEEN : Fld := ⟨0x1080250250, 16, 8, .w1c, 0⟩
def FIO_FCERR_QERR : Fld := ⟨0x1080250250, 0, 16, .ro, 0⟩
def FIO_PAIRCFG_PWDT : Fld := ⟨0x1080250300, 8, 8, .rwl, 0xa⟩
def FIO_PAIRCFG_PEN : Fld := ⟨0x1080250300, 0, 4, .rwl, 0⟩
def FIO_PAIRTP_TPP : Fld := ⟨0x1080250304, 16, 10, .rwl, 0x64⟩
def FIO_PAIRTP_TPW : Fld := ⟨0x1080250304, 0, 9, .rwl, 0x12c⟩
def FIO_PAIRSTAT_CLR (n : Nat) : Fld := ⟨0x1080250310 + 4 * n, 31, 1, .rwo, 0⟩
def FIO_PAIRSTAT_CODE (n : Nat) : Fld := ⟨0x1080250310 + 4 * n, 8, 4, .ro, 0⟩
def FIO_PAIRSTAT_LATCHED (n : Nat) : Fld := ⟨0x1080250310 + 4 * n, 2, 1, .ro, 0⟩
def FIO_PAIRSTAT_DEMAND (n : Nat) : Fld := ⟨0x1080250310 + 4 * n, 1, 1, .ro, 0⟩
def FIO_PAIRSTAT_ON (n : Nat) : Fld := ⟨0x1080250310 + 4 * n, 0, 1, .ro, 0⟩

def regsFIO : List RegDesc := [
  ⟨0x1080250000, false, [], [FIO_CTRL_CFGERR, FIO_CTRL_BUSY_OFF, FIO_CTRL_ENPEND, FIO_CTRL_CFGREF, FIO_CTRL_EN]⟩,
  ⟨0x1080250004, false, [], [FIO_STATUS_WDADJ, FIO_STATUS_MAPERR, FIO_STATUS_WDEXP, FIO_STATUS_WDSEEN, FIO_STATUS_L2OK, FIO_STATUS_L1OK]⟩,
  ⟨0x1080250008, true, [], [FIO_MAP_WBASE, FIO_MAP_QPLANE, FIO_MAP_IPLANE]⟩,
  ⟨0x1080250010, false, [], [FIO_WDT]⟩,
  ⟨0x1080250014, false, [], [FIO_RETRY]⟩,
  ⟨0x1080250018, false, [], [FIO_OUT]⟩,
  ⟨0x108025001c, false, [], [FIO_FAULT]⟩,
  ⟨0x1080250100, false, [(24, 8)], [FIO_CHCFG_ODET 0, FIO_CHCFG_SAFE 0, FIO_CHCFG_FILT 0, FIO_CHCFG_MODE 0]⟩,
  ⟨0x1080250104, false, [(24, 8)], [FIO_CHSTAT_CLR 0, FIO_CHSTAT_CURR 0, FIO_CHSTAT_OVLCNT 0, FIO_CHSTAT_SEEN 0, FIO_CHSTAT_NOSUP 0, FIO_CHSTAT_EXTV 0, FIO_CHSTAT_OTEMP 0, FIO_CHSTAT_OPEN 0, FIO_CHSTAT_LATCH 0, FIO_CHSTAT_OVL 0]⟩,
  ⟨0x1080250200, false, [], [FIO_FCCFG_INV, FIO_FCCFG_MODES]⟩,
  ⟨0x1080250210, false, [(8, 4)], [FIO_FCCNT_COUNT 0]⟩,
  ⟨0x1080250230, false, [(8, 4)], [FIO_FCSET_VALUE 0]⟩,
  ⟨0x1080250250, false, [], [FIO_FCERR_LINE, FIO_FCERR_LINESEEN, FIO_FCERR_QERR]⟩,
  ⟨0x1080250300, false, [], [FIO_PAIRCFG_PWDT, FIO_PAIRCFG_PEN]⟩,
  ⟨0x1080250304, false, [], [FIO_PAIRTP_TPP, FIO_PAIRTP_TPW]⟩,
  ⟨0x1080250310, false, [(4, 4)], [FIO_PAIRSTAT_CLR 0, FIO_PAIRSTAT_CODE 0, FIO_PAIRSTAT_LATCHED 0, FIO_PAIRSTAT_DEMAND 0, FIO_PAIRSTAT_ON 0]⟩]

/-! Block SFU: the fields of its registers, and its registers (the spec's register tables). -/

def SFU_CTRL_BUSY_OFF : Fld := ⟨0x1080260000, 7, 1, .ro, 0⟩
def SFU_CTRL_ENPEND : Fld := ⟨0x1080260000, 6, 1, .ro, 0⟩
def SFU_CTRL_CFGREF : Fld := ⟨0x1080260000, 4, 1, .w1c, 0⟩
def SFU_CTRL_EN : Fld := ⟨0x1080260000, 0, 1, .rw, 0⟩
def SFU_STATUS_PUBLISH : Fld := ⟨0x1080260004, 10, 1, .ro, 0⟩
def SFU_STATUS_STOPAX : Fld := ⟨0x1080260004, 9, 1, .ro, 0⟩
def SFU_STATUS_NOSTAGE : Fld := ⟨0x1080260004, 8, 1, .w1c, 0⟩
def SFU_STATUS_STATE : Fld := ⟨0x1080260004, 0, 3, .ro, 0⟩
def SFU_CFGBASE_LEN : Fld := ⟨0x1080260008, 48, 16, .rwo, 0⟩
def SFU_CFGBASE_BASE : Fld := ⟨0x1080260008, 4, 36, .rwo, 0⟩
def SFU_CFGCTL_LOAD : Fld := ⟨0x1080260010, 31, 1, .wo, 0⟩
def SFU_CFGCTL_COMMISSION : Fld := ⟨0x1080260010, 30, 1, .wo, 0⟩
def SFU_CFGCTL_DECOMMISSION : Fld := ⟨0x1080260010, 29, 1, .wo, 0⟩
def SFU_CFGCTL_RESULT : Fld := ⟨0x1080260010, 0, 4, .ro, 0⟩
def SFU_CFGCV_CV : Fld := ⟨0x1080260014, 0, 32, .ro, 0⟩
def SFU_CMTCV : Fld := ⟨0x1080260018, 0, 32, .rwo, 0⟩
def SFU_BBCFG_PORT : Fld := ⟨0x1080260020, 16, 16, .rwl, 0x4858⟩
def SFU_BBCFG_JX5PORT : Fld := ⟨0x1080260020, 0, 16, .rwl, 0x4859⟩
def SFU_BBSRC_SRCIP : Fld := ⟨0x1080260024, 0, 32, .rwl, 0⟩
def SFU_CONNRUN_RUN (n : Nat) : Fld := ⟨0x1080260040 + 8 * n, 0, 64, .ro, 0⟩
def SFU_CONNFAIL_FAIL (n : Nat) : Fld := ⟨0x1080260050 + 8 * n, 0, 64, .ro, 0⟩
def SFU_AXSTOP_STOP : Fld := ⟨0x1080260060, 0, 64, .ro, 0⟩
def SFU_LAST_CONN : Fld := ⟨0x1080260068, 24, 7, .ro, 0⟩
def SFU_LAST_CCAUSE : Fld := ⟨0x1080260068, 16, 4, .ro, 0⟩
def SFU_LAST_AXIS : Fld := ⟨0x1080260068, 8, 6, .ro, 0⟩
def SFU_LAST_ACAUSE : Fld := ⟨0x1080260068, 0, 4, .ro, 0⟩
def SFU_RXCNT_UNKNOWN : Fld := ⟨0x108026006c, 16, 16, .ro, 0⟩
def SFU_RXCNT_OVWR : Fld := ⟨0x108026006c, 0, 16, .ro, 0⟩
def SFU_PUBCNT_WITHHELD : Fld := ⟨0x1080260070, 0, 32, .ro, 0⟩

def regsSFU : List RegDesc := [
  ⟨0x1080260000, false, [], [SFU_CTRL_BUSY_OFF, SFU_CTRL_ENPEND, SFU_CTRL_CFGREF, SFU_CTRL_EN]⟩,
  ⟨0x1080260004, false, [], [SFU_STATUS_PUBLISH, SFU_STATUS_STOPAX, SFU_STATUS_NOSTAGE, SFU_STATUS_STATE]⟩,
  ⟨0x1080260008, true, [], [SFU_CFGBASE_LEN, SFU_CFGBASE_BASE]⟩,
  ⟨0x1080260010, false, [], [SFU_CFGCTL_LOAD, SFU_CFGCTL_COMMISSION, SFU_CFGCTL_DECOMMISSION, SFU_CFGCTL_RESULT]⟩,
  ⟨0x1080260014, false, [], [SFU_CFGCV_CV]⟩,
  ⟨0x1080260018, false, [], [SFU_CMTCV]⟩,
  ⟨0x1080260020, false, [], [SFU_BBCFG_PORT, SFU_BBCFG_JX5PORT]⟩,
  ⟨0x1080260024, false, [], [SFU_BBSRC_SRCIP]⟩,
  ⟨0x1080260040, true, [(2, 8)], [SFU_CONNRUN_RUN 0]⟩,
  ⟨0x1080260050, true, [(2, 8)], [SFU_CONNFAIL_FAIL 0]⟩,
  ⟨0x1080260060, true, [], [SFU_AXSTOP_STOP]⟩,
  ⟨0x1080260068, false, [], [SFU_LAST_CONN, SFU_LAST_CCAUSE, SFU_LAST_AXIS, SFU_LAST_ACAUSE]⟩,
  ⟨0x108026006c, false, [], [SFU_RXCNT_UNKNOWN, SFU_RXCNT_OVWR]⟩,
  ⟨0x1080260070, false, [], [SFU_PUBCNT_WITHHELD]⟩]

/-! Block PAIR: the fields of its registers, and its registers (the spec's register tables). -/

def PAIR_CTRL_SWITCH : Fld := ⟨0x1080270000, 31, 1, .rwo, 0⟩
def PAIR_CTRL_REJOIN : Fld := ⟨0x1080270000, 30, 1, .rwo, 0⟩
def PAIR_CTRL_TERM : Fld := ⟨0x1080270000, 16, 1, .rwl, 0⟩
def PAIR_CTRL_PAIRID : Fld := ⟨0x1080270000, 0, 16, .rwl, 0⟩
def PAIR_STATUS_STATE : Fld := ⟨0x1080270004, 28, 4, .ro, 1⟩
def PAIR_STATUS_CAUSE : Fld := ⟨0x1080270004, 24, 4, .ro, 0⟩
def PAIR_STATUS_JOINERR : Fld := ⟨0x1080270004, 20, 4, .ro, 0⟩
def PAIR_STATUS_SWREF : Fld := ⟨0x1080270004, 19, 1, .w1c, 0⟩
def PAIR_STATUS_RELAY : Fld := ⟨0x1080270004, 18, 1, .ro, 0⟩
def PAIR_STATUS_REFOK : Fld := ⟨0x1080270004, 17, 1, .ro, 0⟩
def PAIR_STATUS_PLINK : Fld := ⟨0x1080270004, 16, 1, .ro, 0⟩
def PAIR_STATUS_MISSED : Fld := ⟨0x1080270004, 8, 8, .ro, 0⟩
def PAIR_STATUS_POS : Fld := ⟨0x1080270004, 0, 2, .ro, 3⟩
def PAIR_EPOCH : Fld := ⟨0x1080270008, 0, 32, .ro, 0⟩
def PAIR_REFACT_ACTIVE : Fld := ⟨0x108027000c, 0, 2, .ro, 0⟩
def PAIR_APPLIED : Fld := ⟨0x1080270010, 0, 64, .ro, 0⟩
def PAIR_ANNOUNCED : Fld := ⟨0x1080270018, 0, 64, .ro, 0⟩
def PAIR_COPY_REMAIN : Fld := ⟨0x1080270020, 0, 32, .ro, 0⟩
def PAIR_HEALTH : Fld := ⟨0x1080270024, 0, 32, .ro, 0⟩
def PAIR_PHEALTH_HEALTH : Fld := ⟨0x1080270028, 0, 32, .ro, 0⟩
def PAIR_TIMEOFS_OFS : Fld := ⟨0x108027002c, 0, 32, .ro, 0⟩
def PAIR_CNT_PROMOTE : Fld := ⟨0x1080270030, 16, 16, .ro, 0⟩
def PAIR_CNT_HBMISS : Fld := ⟨0x1080270030, 0, 16, .ro, 0⟩
def PAIR_VER : Fld := ⟨0x1080270034, 0, 8, .ro, 1⟩
def PAIR_SVCMAC_MAC : Fld := ⟨0x1080270038, 0, 48, .rwl, 0⟩
def PAIR_SVCIP_IP : Fld := ⟨0x1080270040, 0, 32, .rwl, 0⟩
def PAIR_RGN_SIZE (n : Nat) : Fld := ⟨0x1080270080 + 8 * n, 40, 24, .rwl, 0⟩
def PAIR_RGN_BASE (n : Nat) : Fld := ⟨0x1080270080 + 8 * n, 16, 24, .rwl, 0⟩

def regsPAIR : List RegDesc := [
  ⟨0x1080270000, false, [], [PAIR_CTRL_SWITCH, PAIR_CTRL_REJOIN, PAIR_CTRL_TERM, PAIR_CTRL_PAIRID]⟩,
  ⟨0x1080270004, false, [], [PAIR_STATUS_STATE, PAIR_STATUS_CAUSE, PAIR_STATUS_JOINERR, PAIR_STATUS_SWREF, PAIR_STATUS_RELAY, PAIR_STATUS_REFOK, PAIR_STATUS_PLINK, PAIR_STATUS_MISSED, PAIR_STATUS_POS]⟩,
  ⟨0x1080270008, false, [], [PAIR_EPOCH]⟩,
  ⟨0x108027000c, false, [], [PAIR_REFACT_ACTIVE]⟩,
  ⟨0x1080270010, true, [], [PAIR_APPLIED]⟩,
  ⟨0x1080270018, true, [], [PAIR_ANNOUNCED]⟩,
  ⟨0x1080270020, false, [], [PAIR_COPY_REMAIN]⟩,
  ⟨0x1080270024, false, [], [PAIR_HEALTH]⟩,
  ⟨0x1080270028, false, [], [PAIR_PHEALTH_HEALTH]⟩,
  ⟨0x108027002c, false, [], [PAIR_TIMEOFS_OFS]⟩,
  ⟨0x1080270030, false, [], [PAIR_CNT_PROMOTE, PAIR_CNT_HBMISS]⟩,
  ⟨0x1080270034, false, [], [PAIR_VER]⟩,
  ⟨0x1080270038, true, [], [PAIR_SVCMAC_MAC]⟩,
  ⟨0x1080270040, false, [], [PAIR_SVCIP_IP]⟩,
  ⟨0x1080270080, true, [(8, 8)], [PAIR_RGN_SIZE 0, PAIR_RGN_BASE 0]⟩]

/-! Block EVC: the fields of its registers, and its registers (the spec's register tables). -/

def EVC_LOGSTAT_HEAD : Fld := ⟨0x1080280000, 16, 12, .ro, 0⟩
def EVC_LOGSTAT_UNACK : Fld := ⟨0x1080280000, 10, 1, .ro, 0⟩
def EVC_LOGSTAT_CRITFULL : Fld := ⟨0x1080280000, 9, 1, .ro, 0⟩
def EVC_LOGSTAT_CRITUSED : Fld := ⟨0x1080280000, 0, 9, .ro, 0⟩
def EVC_LOGSEQ : Fld := ⟨0x1080280004, 0, 32, .ro, 0⟩
def EVC_LOGCNT_OVWR : Fld := ⟨0x1080280008, 16, 16, .ro, 0⟩
def EVC_LOGCNT_DROP : Fld := ⟨0x1080280008, 0, 16, .ro, 0⟩
def EVC_CRITLOST_LOST : Fld := ⟨0x108028000c, 0, 16, .ro, 0⟩
def EVC_LOGBASE_BASE : Fld := ⟨0x1080280010, 0, 40, .ro, 0x1040020000⟩
def EVC_CRITACK_ACK : Fld := ⟨0x1080280018, 31, 1, .wo, 0⟩
def EVC_CRITACK_CLR : Fld := ⟨0x1080280018, 30, 1, .wo, 0⟩
def EVC_FWLOG_CRIT : Fld := ⟨0x1080280020, 63, 1, .wo, 0⟩
def EVC_FWLOG_DETAIL : Fld := ⟨0x1080280020, 0, 48, .wo, 0⟩
def EVC_PEND (n : Nat) : Fld := ⟨0x1080280100 + 4 * n, 0, 32, .w1c, 0⟩
def EVC_ROUTE_LOG (n : Nat) : Fld := ⟨0x1080281000 + 4 * n, 31, 1, .rw, if 352 ≤ n ∧ n ≤ 355 then 0 else 1⟩
def EVC_ROUTE_SLC (n : Nat) : Fld := ⟨0x1080281000 + 4 * n, 30, 1, .rw, 0⟩
def EVC_ROUTE_HOST (n : Nat) : Fld := ⟨0x1080281000 + 4 * n, 29, 1, .rw, 0⟩
def EVC_ROUTE_CRIT (n : Nat) : Fld := ⟨0x1080281000 + 4 * n, 28, 1, .rwl, 0⟩
def EVC_ROUTE_VEC (n : Nat) : Fld := ⟨0x1080281000 + 4 * n, 16, 6, .rw, 0⟩
def EVC_ROUTE_CORE (n : Nat) : Fld := ⟨0x1080281000 + 4 * n, 0, 2, .rw, 0⟩

def regsEVC : List RegDesc := [
  ⟨0x1080280000, false, [], [EVC_LOGSTAT_HEAD, EVC_LOGSTAT_UNACK, EVC_LOGSTAT_CRITFULL, EVC_LOGSTAT_CRITUSED]⟩,
  ⟨0x1080280004, false, [], [EVC_LOGSEQ]⟩,
  ⟨0x1080280008, false, [], [EVC_LOGCNT_OVWR, EVC_LOGCNT_DROP]⟩,
  ⟨0x108028000c, false, [], [EVC_CRITLOST_LOST]⟩,
  ⟨0x1080280010, true, [], [EVC_LOGBASE_BASE]⟩,
  ⟨0x1080280018, false, [], [EVC_CRITACK_ACK, EVC_CRITACK_CLR]⟩,
  ⟨0x1080280020, true, [], [EVC_FWLOG_CRIT, EVC_FWLOG_DETAIL]⟩,
  ⟨0x1080280100, false, [(16, 4)], [EVC_PEND 0]⟩,
  ⟨0x1080281000, false, [(352, 4)], [EVC_ROUTE_LOG 0, EVC_ROUTE_SLC 0, EVC_ROUTE_HOST 0, EVC_ROUTE_CRIT 0, EVC_ROUTE_VEC 0, EVC_ROUTE_CORE 0]⟩,
  ⟨0x1080281580, false, [(4, 4)], [EVC_ROUTE_LOG 352, EVC_ROUTE_SLC 352, EVC_ROUTE_HOST 352, EVC_ROUTE_CRIT 352, EVC_ROUTE_VEC 352, EVC_ROUTE_CORE 352]⟩,
  ⟨0x1080281590, false, [(156, 4)], [EVC_ROUTE_LOG 356, EVC_ROUTE_SLC 356, EVC_ROUTE_HOST 356, EVC_ROUTE_CRIT 356, EVC_ROUTE_VEC 356, EVC_ROUTE_CORE 356]⟩]

/-! Block GLN: the fields of its registers, and its registers (the spec's register tables). -/

def GLN_STATUS_RESTFAIL : Fld := ⟨0x1080290000, 1, 1, .ro, 0⟩
def GLN_STATUS_BUSY : Fld := ⟨0x1080290000, 0, 1, .ro, 0⟩
def GLN_PERSIST_GO : Fld := ⟨0x1080290004, 31, 1, .wo, 0⟩
def GLN_PERSIST_AGE : Fld := ⟨0x1080290004, 0, 16, .ro, 0⟩
def GLN_GEN : Fld := ⟨0x1080290008, 0, 32, .ro, 0⟩
def GLN_UCFG_EN (n : Nat) : Fld := ⟨0x1080290100 + 4 * n, 31, 1, .rwl, 0⟩
def GLN_UCFG_SOURCE (n : Nat) : Fld := ⟨0x1080290100 + 4 * n, 0, 9, .rwl, 0⟩
def GLN_UCLR_GO : Fld := ⟨0x1080290300, 31, 1, .wo, 0⟩
def GLN_HADD_HIST : Fld := ⟨0x1080290304, 16, 5, .wo, 0⟩
def GLN_HADD_BIN : Fld := ⟨0x1080290304, 0, 5, .wo, 0⟩
def GLN_CNT_COUNT (n : Nat) : Fld := ⟨0x1080291000 + 8 * n, 0, 64, .ro, 0⟩
def GLN_HIST_BIN (m n : Nat) : Fld := ⟨0x1080292000 + 0x100 * m + 8 * n, 0, 64, .ro, 0⟩

def regsGLN : List RegDesc := [
  ⟨0x1080290000, false, [], [GLN_STATUS_RESTFAIL, GLN_STATUS_BUSY]⟩,
  ⟨0x1080290004, false, [], [GLN_PERSIST_GO, GLN_PERSIST_AGE]⟩,
  ⟨0x1080290008, false, [], [GLN_GEN]⟩,
  ⟨0x1080290100, false, [(128, 4)], [GLN_UCFG_EN 0, GLN_UCFG_SOURCE 0]⟩,
  ⟨0x1080290300, false, [], [GLN_UCLR_GO]⟩,
  ⟨0x1080290304, false, [], [GLN_HADD_HIST, GLN_HADD_BIN]⟩,
  ⟨0x1080291000, true, [(256, 8)], [GLN_CNT_COUNT 0]⟩,
  ⟨0x1080292000, true, [(32, 0x100), (32, 8)], [GLN_HIST_BIN 0 0]⟩]

/-! Block GRN: the fields of its registers, and its registers (the spec's register tables). -/

def GRN_STATUS_BRK : Fld := ⟨0x10802a0000, 4, 1, .w1c, 0⟩
def GRN_STATUS_REWRITE : Fld := ⟨0x10802a0000, 3, 1, .ro, 0⟩
def GRN_STATUS_SETFALL : Fld := ⟨0x10802a0000, 2, 1, .ro, 0⟩
def GRN_STATUS_DEFAULTS : Fld := ⟨0x10802a0000, 1, 1, .ro, 0⟩
def GRN_STATUS_READY : Fld := ⟨0x10802a0000, 0, 1, .ro, 0⟩
def GRN_JRNL_RECORDS : Fld := ⟨0x10802a0004, 20, 12, .ro, 0⟩
def GRN_JRNL_QUEUED : Fld := ⟨0x10802a0004, 0, 15, .ro, 0⟩
def GRN_SEQ : Fld := ⟨0x10802a0008, 0, 64, .ro, 0⟩
def GRN_BASESEQ_SB : Fld := ⟨0x10802a0010, 0, 64, .ro, 0⟩
def GRN_SETBANK_FORMAT : Fld := ⟨0x10802a0018, 16, 16, .ro, 0⟩
def GRN_SETBANK_CURRENT : Fld := ⟨0x10802a0018, 8, 1, .ro, 0⟩
def GRN_SETBANK_PREVVALID : Fld := ⟨0x10802a0018, 0, 1, .ro, 0⟩

def regsGRN : List RegDesc := [
  ⟨0x10802a0000, false, [], [GRN_STATUS_BRK, GRN_STATUS_REWRITE, GRN_STATUS_SETFALL, GRN_STATUS_DEFAULTS, GRN_STATUS_READY]⟩,
  ⟨0x10802a0004, false, [], [GRN_JRNL_RECORDS, GRN_JRNL_QUEUED]⟩,
  ⟨0x10802a0008, true, [], [GRN_SEQ]⟩,
  ⟨0x10802a0010, true, [], [GRN_BASESEQ_SB]⟩,
  ⟨0x10802a0018, false, [], [GRN_SETBANK_FORMAT, GRN_SETBANK_CURRENT, GRN_SETBANK_PREVVALID]⟩]

/-! Block UPD: the fields of its registers, and its registers (the spec's register tables). -/

def UPD_STATUS_STAGE : Fld := ⟨0x10802b0000, 28, 4, .ro, 0⟩
def UPD_STATUS_KIND : Fld := ⟨0x10802b0000, 26, 2, .ro, 0⟩
def UPD_STATUS_LOCKED : Fld := ⟨0x10802b0000, 23, 1, .ro, 0⟩
def UPD_STATUS_LOCKSESS : Fld := ⟨0x10802b0000, 20, 3, .ro, 0⟩
def UPD_STATUS_REVERTED : Fld := ⟨0x10802b0000, 3, 1, .w1c, 0⟩
def UPD_STATUS_TRIAL : Fld := ⟨0x10802b0000, 2, 1, .ro, 0⟩
def UPD_STATUS_ACTIVATING : Fld := ⟨0x10802b0000, 1, 1, .ro, 0⟩
def UPD_SLOTS_EXEC : Fld := ⟨0x10802b0004, 4, 2, .ro, 0⟩
def UPD_SLOTS_FALL : Fld := ⟨0x10802b0004, 2, 2, .ro, 1⟩
def UPD_SLOTS_STAGE : Fld := ⟨0x10802b0004, 0, 2, .ro, 2⟩
def UPD_EXECVER_IMGVER : Fld := ⟨0x10802b0008, 0, 64, .ro, 1⟩
def UPD_FALLVER_IMGVER : Fld := ⟨0x10802b0010, 0, 64, .ro, 0⟩
def UPD_SECMIN : Fld := ⟨0x10802b0018, 0, 16, .ro, 0⟩
def UPD_STAGED_BYTES : Fld := ⟨0x10802b001c, 0, 32, .ro, 0⟩
def UPD_ERR_CMD : Fld := ⟨0x10802b0020, 8, 8, .ro, 0⟩
def UPD_ERR_STATUS : Fld := ⟨0x10802b0020, 0, 8, .ro, 0⟩

def regsUPD : List RegDesc := [
  ⟨0x10802b0000, false, [], [UPD_STATUS_STAGE, UPD_STATUS_KIND, UPD_STATUS_LOCKED, UPD_STATUS_LOCKSESS, UPD_STATUS_REVERTED, UPD_STATUS_TRIAL, UPD_STATUS_ACTIVATING]⟩,
  ⟨0x10802b0004, false, [], [UPD_SLOTS_EXEC, UPD_SLOTS_FALL, UPD_SLOTS_STAGE]⟩,
  ⟨0x10802b0008, true, [], [UPD_EXECVER_IMGVER]⟩,
  ⟨0x10802b0010, true, [], [UPD_FALLVER_IMGVER]⟩,
  ⟨0x10802b0018, false, [], [UPD_SECMIN]⟩,
  ⟨0x10802b001c, false, [], [UPD_STAGED_BYTES]⟩,
  ⟨0x10802b0020, false, [], [UPD_ERR_CMD, UPD_ERR_STATUS]⟩]

/-! Block ACC: the fields of its registers, and its registers (the spec's register tables). -/

def ACC_LOCK : Fld := ⟨0x10802c0000, 31, 1, .wo, 0⟩
def ACC_LOCK_UNLOCK : Fld := ⟨0x10802c0000, 30, 1, .wo, 0⟩
def ACC_LOCK_ENGAGED : Fld := ⟨0x10802c0000, 1, 1, .ro, 0⟩
def ACC_LOCK_LOCKED : Fld := ⟨0x10802c0000, 0, 1, .ro, 0⟩
def ACC_CRED_SETVER : Fld := ⟨0x10802c0004, 16, 16, .ro, 0⟩
def ACC_CRED_ENTRIES : Fld := ⟨0x10802c0004, 0, 7, .ro, 1⟩
def ACC_AUDHEAD_HEAD : Fld := ⟨0x10802c0008, 0, 13, .ro, 0⟩
def ACC_AUDSEQ_SEQ : Fld := ⟨0x10802c000c, 0, 32, .ro, 0⟩
def ACC_AUDCNT_OVWR : Fld := ⟨0x10802c0010, 16, 16, .ro, 0⟩

def regsACC : List RegDesc := [
  ⟨0x10802c0000, false, [], [ACC_LOCK, ACC_LOCK_UNLOCK, ACC_LOCK_ENGAGED, ACC_LOCK_LOCKED]⟩,
  ⟨0x10802c0004, false, [], [ACC_CRED_SETVER, ACC_CRED_ENTRIES]⟩,
  ⟨0x10802c0008, false, [], [ACC_AUDHEAD_HEAD]⟩,
  ⟨0x10802c000c, false, [], [ACC_AUDSEQ_SEQ]⟩,
  ⟨0x10802c0010, false, [], [ACC_AUDCNT_OVWR]⟩]

/-! Block PWR: the fields of its registers, and its registers (the spec's register tables). -/

def PWR_STATE_PREV : Fld := ⟨0x10802d0000, 8, 4, .ro, 0⟩
def PWR_STATE_TARGET : Fld := ⟨0x10802d0000, 4, 3, .ro, 0⟩
def PWR_STATE_TRANS : Fld := ⟨0x10802d0000, 3, 1, .ro, 0⟩
def PWR_STATE : Fld := ⟨0x10802d0000, 0, 3, .ro, 0⟩
def PWR_REQ_SESSION : Fld := ⟨0x10802d0004, 4, 3, .wo, 0⟩
def PWR_REQ_TARGET : Fld := ⟨0x10802d0004, 0, 3, .wo, 0⟩
def PWR_PENDING_WAKE : Fld := ⟨0x10802d0008, 7, 1, .ro, 0⟩
def PWR_PENDING_SESSION : Fld := ⟨0x10802d0008, 4, 3, .ro, 0⟩
def PWR_PENDING_TARGET : Fld := ⟨0x10802d0008, 1, 3, .ro, 0⟩
def PWR_PENDING_VALID : Fld := ⟨0x10802d0008, 0, 1, .ro, 0⟩
def PWR_CTRL_TIMEQ : Fld := ⟨0x10802d000c, 3, 1, .rwl, 0⟩
def PWR_CTRL_AUTOSTART : Fld := ⟨0x10802d000c, 2, 1, .rwl, 0⟩
def PWR_CTRL_BTN_MODE : Fld := ⟨0x10802d000c, 1, 1, .rwl, 0⟩
def PWR_CTRL_AUTO_IDLE : Fld := ⟨0x10802d000c, 0, 1, .rwl, 0⟩
def PWR_RSTCAUSE_PLATE : Fld := ⟨0x10802d0010, 6, 1, .w1c, 0⟩
def PWR_RSTCAUSE_PFAIL : Fld := ⟨0x10802d0010, 5, 1, .w1c, 0⟩
def PWR_RSTCAUSE_BOOTWDT : Fld := ⟨0x10802d0010, 4, 1, .w1c, 0⟩
def PWR_RSTCAUSE_SOFT : Fld := ⟨0x10802d0010, 3, 1, .w1c, 0⟩
def PWR_RSTCAUSE_BTN : Fld := ⟨0x10802d0010, 2, 1, .w1c, 0⟩
def PWR_RSTCAUSE_EXT : Fld := ⟨0x10802d0010, 1, 1, .w1c, 0⟩
def PWR_RSTCAUSE_POR : Fld := ⟨0x10802d0010, 0, 1, .w1c, 1⟩
def PWR_BTN_ARMED : Fld := ⟨0x10802d0014, 2, 1, .ro, 1⟩
def PWR_BTN_STUCK : Fld := ⟨0x10802d0014, 1, 1, .ro, 0⟩
def PWR_BTN_CLOSED : Fld := ⟨0x10802d0014, 0, 1, .ro, 0⟩
def PWR_WAKEEN_SRC : Fld := ⟨0x10802d0018, 0, 5, .rw, 0⟩
def PWR_WAKESRC_LATE : Fld := ⟨0x10802d001c, 15, 1, .w1c, 0⟩
def PWR_WAKESRC_SRC : Fld := ⟨0x10802d001c, 0, 5, .w1c, 0⟩
def PWR_WAKETIME : Fld := ⟨0x10802d0020, 0, 32, .rw, 0⟩
def PWR_WAKECODE : Fld := ⟨0x10802d0024, 0, 32, .rwl, 0⟩
def PWR_CLKSEL_REFUSED : Fld := ⟨0x10802d0028, 2, 1, .w1c, 0⟩
def PWR_CLKSEL_OCXO_OK : Fld := ⟨0x10802d0028, 1, 1, .ro, 0⟩
def PWR_CLKSEL_SRC : Fld := ⟨0x10802d0028, 0, 1, .rw, 0⟩
def PWR_ISLEN : Fld := ⟨0x10802d002c, 0, 21, .rw, 0x100000⟩
def PWR_ISLSTAT : Fld := ⟨0x10802d0030, 0, 21, .ro, 0x100000⟩
def PWR_ISLBUSY_BUSY_OFF : Fld := ⟨0x10802d0034, 0, 21, .ro, 0⟩
def PWR_ISLPEND_ENPEND : Fld := ⟨0x10802d0038, 0, 21, .ro, 0⟩
def PWR_SUPPLY_PLATE_STOP : Fld := ⟨0x10802d0040, 7, 1, .ro, 0⟩
def PWR_SUPPLY_PLATE_WARN : Fld := ⟨0x10802d0040, 6, 1, .ro, 0⟩
def PWR_SUPPLY_HOLDUP_LOW : Fld := ⟨0x10802d0040, 5, 1, .ro, 0⟩
def PWR_SUPPLY_HOLDUP_RDY : Fld := ⟨0x10802d0040, 4, 1, .ro, 0⟩
def PWR_SUPPLY_PFW : Fld := ⟨0x10802d0040, 3, 1, .ro, 0⟩
def PWR_SUPPLY_PFW_SEEN : Fld := ⟨0x10802d0040, 2, 1, .w1c, 0⟩
def PWR_SUPPLY_FEED2_OK : Fld := ⟨0x10802d0040, 1, 1, .ro, 0⟩
def PWR_SUPPLY_FEED1_OK : Fld := ⟨0x10802d0040, 0, 1, .ro, 0⟩
def PWR_FEEDV_FEED2_V : Fld := ⟨0x10802d0044, 16, 16, .ro, 0⟩
def PWR_FEEDV_FEED1_V : Fld := ⟨0x10802d0044, 0, 16, .ro, 0⟩
def PWR_PLATET_TEMP : Fld := ⟨0x10802d0048, 0, 16, .ro, 0⟩

def regsPWR : List RegDesc := [
  ⟨0x10802d0000, false, [], [PWR_STATE_PREV, PWR_STATE_TARGET, PWR_STATE_TRANS, PWR_STATE]⟩,
  ⟨0x10802d0004, false, [], [PWR_REQ_SESSION, PWR_REQ_TARGET]⟩,
  ⟨0x10802d0008, false, [], [PWR_PENDING_WAKE, PWR_PENDING_SESSION, PWR_PENDING_TARGET, PWR_PENDING_VALID]⟩,
  ⟨0x10802d000c, false, [], [PWR_CTRL_TIMEQ, PWR_CTRL_AUTOSTART, PWR_CTRL_BTN_MODE, PWR_CTRL_AUTO_IDLE]⟩,
  ⟨0x10802d0010, false, [], [PWR_RSTCAUSE_PLATE, PWR_RSTCAUSE_PFAIL, PWR_RSTCAUSE_BOOTWDT, PWR_RSTCAUSE_SOFT, PWR_RSTCAUSE_BTN, PWR_RSTCAUSE_EXT, PWR_RSTCAUSE_POR]⟩,
  ⟨0x10802d0014, false, [], [PWR_BTN_ARMED, PWR_BTN_STUCK, PWR_BTN_CLOSED]⟩,
  ⟨0x10802d0018, false, [], [PWR_WAKEEN_SRC]⟩,
  ⟨0x10802d001c, false, [], [PWR_WAKESRC_LATE, PWR_WAKESRC_SRC]⟩,
  ⟨0x10802d0020, false, [], [PWR_WAKETIME]⟩,
  ⟨0x10802d0024, false, [], [PWR_WAKECODE]⟩,
  ⟨0x10802d0028, false, [], [PWR_CLKSEL_REFUSED, PWR_CLKSEL_OCXO_OK, PWR_CLKSEL_SRC]⟩,
  ⟨0x10802d002c, false, [], [PWR_ISLEN]⟩,
  ⟨0x10802d0030, false, [], [PWR_ISLSTAT]⟩,
  ⟨0x10802d0034, false, [], [PWR_ISLBUSY_BUSY_OFF]⟩,
  ⟨0x10802d0038, false, [], [PWR_ISLPEND_ENPEND]⟩,
  ⟨0x10802d0040, false, [], [PWR_SUPPLY_PLATE_STOP, PWR_SUPPLY_PLATE_WARN, PWR_SUPPLY_HOLDUP_LOW, PWR_SUPPLY_HOLDUP_RDY, PWR_SUPPLY_PFW, PWR_SUPPLY_PFW_SEEN, PWR_SUPPLY_FEED2_OK, PWR_SUPPLY_FEED1_OK]⟩,
  ⟨0x10802d0044, false, [], [PWR_FEEDV_FEED2_V, PWR_FEEDV_FEED1_V]⟩,
  ⟨0x10802d0048, false, [], [PWR_PLATET_TEMP]⟩]

end R

end Sys2Proof.Machine
end

