-- ==== Sys2Proof/Config.lean ====
section
/-! DEFINITION. What the spec leaves free: constants without a body, so that no proof can see a value of them. A claim
about a free value holds for every value. Each is named in the assumption log (entry 3). -/

namespace Sys2Proof.Config

/-- A value that the spec calls undefined or does not state. The step applies it to State.freeCtr, which it then
advances, so that two uses are unrelated. -/
opaque freeValue : Nat → Nat
/-- The same, a truth value. -/
opaque freeBool : Nat → Bool
/-- The 64 data bits of the record of a timer or counter element, by the halves of its new 128-bit state word: Table 4.3 has 64
bits for it, and R179 does not say which (log entry 94). -/
opaque stateRecord : Nat → Nat → BitVec 64
/-- A byte of the Granary in a region whose layout the spec does not give (R478), by the register fields and the address. -/
opaque granaryByte : List (Nat × Nat) → Nat → BitVec 8
/-- SHA-256 of a byte string (R475): a standard the spec names and does not define. -/
opaque sha256 : List Nat → Nat
/-- The digest of the passphrase printed on the unit label (R475). -/
opaque labelDigest : Nat

end Sys2Proof.Config
end

