-- ==== Sys2Proof/Machine/Bits.lean ====
section
/-! DEFINITION. Bit fields, sign extension, byte order and saturation: the small arithmetic that the meanings share.
All multi-byte values of the fabric are little-endian (Tables 13.2, 19.2, 20.3); Jalora frames and containers are most
significant byte first (R215, R338). -/

namespace Sys2Proof.Machine

/-- Bits [lo + w − 1 : lo] of `v`. -/
def bits (v lo w : Nat) : Nat := (v / 2 ^ lo) % 2 ^ w

/-- Bit `k` of `v` as a truth value. -/
def bit (v k : Nat) : Bool := bits v k 1 == 1

/-- `v` with bits [lo + w − 1 : lo] replaced by `x`. -/
def setBits (v lo w x : Nat) : Nat :=
  v % 2 ^ lo + (x % 2 ^ w) * 2 ^ lo + (v / 2 ^ (lo + w)) * 2 ^ (lo + w)

/-- A truth value as a bit. -/
def b2n (b : Bool) : Nat := if b then 1 else 0

/-- The w-bit number `v` read as two's complement. -/
def toSigned (w v : Nat) : Int := if v % 2 ^ w < 2 ^ (w - 1) then (v % 2 ^ w : Nat) else (v % 2 ^ w : Nat) - (2 ^ w : Nat)

/-- An integer as a w-bit two's complement number. -/
def ofSigned (w : Nat) (x : Int) : Nat := (x % (2 ^ w : Nat)).toNat

/-- An integer brought into the range of a w-bit two's complement number. -/
def satSigned (w : Nat) (x : Int) : Int :=
  max (-((2 ^ (w - 1) : Nat) : Int)) (min x ((2 ^ (w - 1) : Nat) - 1))

/-- Addition that saturates at the largest w-bit number. -/
def satAdd (w v k : Nat) : Nat := min (v + k) (2 ^ w - 1)

/-- An integer brought into [lo, hi]. -/
def clampInt (lo hi x : Int) : Int := max lo (min x hi)

/-- A number brought to the nearer limit of [lo, hi]. -/
def clampNat (lo hi x : Nat) : Nat := max lo (min x hi)

/-- The `n` bytes of `v`, least significant first. -/
def bytesLE : Nat → Nat → List Byte
  | 0, _ => []
  | n + 1, v => BitVec.ofNat 8 v :: bytesLE n (v / 256)

/-- The number whose bytes, least significant first, are given. -/
def leBytes : List Byte → Nat
  | [] => 0
  | b :: bs => b.toNat + 256 * leBytes bs

/-- The `n` bytes of `v`, most significant first. -/
def bytesBE (n v : Nat) : List Byte := (bytesLE n v).reverse

/-- The number whose bytes, most significant first, are given. -/
def beBytes (bs : List Byte) : Nat := leBytes bs.reverse

/-- Magnitude of an integer. -/
def absInt (x : Int) : Nat := x.natAbs

/-- Whether an index of a list satisfies a test, and the first such index. -/
def firstIdx (p : Nat → Bool) (n : Nat) : Option Nat := (List.range n).find? p

end Sys2Proof.Machine
end

