-- ==== Sys2Proof/Machine/Store.lean ====
section
/-! DEFINITION. Sparse storage by key: the register fields and the bytes of memory. Both are lists of (key, value) pairs
with strictly rising keys. A register field that has not been written reads its reset value; a byte of memory that is
not listed reads what `memDefault` says, and no listed byte equals it. -/

namespace Sys2Proof.Machine

/-- Where the value of a field is kept: the bit address of its lowest bit in the fabric address space. -/
def Fld.key (f : Fld) : Nat := f.addr * 64 + f.lo

/-- The register `d` bytes further on in the same family of copies. -/
def Fld.shift (f : Fld) (d : Nat) : Fld := ⟨f.addr + d, f.lo, f.width, f.acc, f.rst⟩

/-- The value listed for a key. -/
def Assoc.find {β : Type} (k : Nat) : List (Nat × β) → Option β
  | [] => none
  | (k', v) :: l => if k = k' then some v else Assoc.find k l

/-- The list with `v` at key `k`; the keys keep rising. -/
def Assoc.put {β : Type} (k : Nat) (v : β) : List (Nat × β) → List (Nat × β)
  | [] => [(k, v)]
  | (k', v') :: l =>
    if k < k' then (k, v) :: (k', v') :: l
    else if k = k' then (k, v) :: l
    else (k', v') :: Assoc.put k v l

/-- The list without key `k`. -/
def Assoc.drop {β : Type} (k : Nat) : List (Nat × β) → List (Nat × β)
  | [] => []
  | (k', v') :: l => if k = k' then l else (k', v') :: Assoc.drop k l

/-- Strictly rising keys. -/
def Assoc.sorted {β : Type} : List (Nat × β) → Bool
  | [] => true
  | [_] => true
  | (k, _) :: (k', v') :: l => decide (k < k') && Assoc.sorted ((k', v') :: l)

/-- What a byte of memory reads when nothing is listed for it. The enable table and the E marks of the image window read
1 in every bit after reset (R193, R199); DDR reads 0 after the hardware zero-fill of step 4 of Table 3.3; every other
byte reads 0 (DESIGN CHOICE, log entry 4: shared SRAM and an unwritten Granary). -/
def memDefault (a : Nat) : Byte :=
  if 0x1020014000 ≤ a ∧ a < 0x1020016000 then 0xFF
  else if 0x10200B0000 ≤ a ∧ a < 0x10200B1000 then 0xFF
  else 0

/-- One byte of memory. -/
def Memory.read (m : List Host.Cell) (a : Nat) : Byte := (Assoc.find a m).getD (memDefault a)

/-- Memory with one byte written; a byte equal to the default is not listed. -/
def Memory.write (m : List Host.Cell) (a : Nat) (b : Byte) : List Host.Cell :=
  if b = memDefault a then Assoc.drop a m else Assoc.put a b m

/-- The `n` bytes from address `a`. -/
def Memory.readN (m : List Host.Cell) (a : Nat) : Nat → List Byte
  | 0 => []
  | n + 1 => Memory.read m a :: Memory.readN m (a + 1) n

/-- Memory with the bytes `bs` written from address `a` up. -/
def Memory.writeN (m : List Host.Cell) (a : Nat) : List Byte → List Host.Cell
  | [] => m
  | b :: bs => Memory.writeN (Memory.write m a b) (a + 1) bs

/-- No listed byte equals what an unlisted byte reads. -/
def Memory.noDefaults (m : List Host.Cell) : Bool := m.all (fun c => c.2 != memDefault c.1)

/-- The canonical form of memory. -/
def Memory.wf (m : List Host.Cell) : Bool := Assoc.sorted m && Memory.noDefaults m

/-- Memory with every byte of [lo, hi) back at its default. -/
def Memory.clear (m : List Host.Cell) (lo hi : Nat) : List Host.Cell :=
  m.filter (fun c => decide (c.1 < lo ∨ hi ≤ c.1))

end Sys2Proof.Machine
end

