-- ==== Sys2Proof/Machine/State.lean ====
section
/-! DEFINITION. The state of the module, the reasons a step can stop, and the state after power-on reset. Every register
field, and every single number or flag that a chapter gives a block beside its registers (Machine/Internal.lean), is
kept in `regs` under the key of its field; the fabric memories are `mem`; queues, stacks, logs and tables that the
chapters give the blocks are fields of their own. -/

namespace Sys2Proof.Machine

/-- A report on its way to the error log (R460 to R462): source, DETAIL, whether critical, its time and CKP_SEQ. -/
structure Report where
  source : Nat
  detail : Nat
  crit : Bool
  sec : Nat
  ns : Nat
  ckpSeq : Nat
  deriving DecidableEq, Repr

/-- An open entry of the error log (R461): its first report, its place (in the critical area or in the ring), its
LOGSEQ, and REPEAT and LASTDT so far. -/
structure OpenEntry where
  rep : Report
  inCrit : Bool
  place : Nat
  logseq : Nat
  rpt : Nat
  lastDt : Nat
  deriving DecidableEq, Repr

/-- A persisted copy of the Gleaner (R468): validity, generation, and the counters and histogram bins by field key. -/
structure GlnCopy where
  valid : Bool
  gen : Nat
  image : List (Nat × Nat)
  deriving DecidableEq, Repr

/-- A journal record: CKP_SEQ and its lines with tag address and contents (R479). -/
structure JRec where
  seq : Nat
  lines : List (Nat × List Byte)
  deriving DecidableEq, Repr

/-- A base copy: whether it is valid, its start number SB, and the retained image bytes it holds (R480). -/
structure BaseCopy where
  valid : Bool
  sb : Nat
  cells : List Host.Cell
  deriving DecidableEq, Repr

/-- A register access of another initiator that waits for a lock of the host (R334, R335): writer, address, size, and the
data of a write. -/
structure HeldAccess where
  writer : Writer
  addr : Nat
  size : Nat
  data : Option Nat
  deriving DecidableEq, Repr

/-- A 64-bit register of which one half has been accessed (R6): initiator, register address, whether it was written, the low
half held or the high half latched, and the time of the access in ns (R334). -/
structure HalfAccess where
  writer : Writer
  addr : Nat
  write : Bool
  data : Nat
  since : Nat
  deriving DecidableEq, Repr

/-- A line of a cache (R80): the slice (3: the participating slices, which hold the same lines), the cache (0 to 3 the L1
instruction caches of its cores, 4 to 7 their L1 data caches, 8 the L2), the address of the line, and whether it is dirty. -/
structure CacheLine where
  slice : Nat
  unit : Nat
  line : Nat
  dirty : Bool
  deriving DecidableEq, Repr

/-- An outbound read that has not been answered (R332, R333): initiator code, for a load of the slices whose it is (slice and
core), address, size, retry responses so far, whether it waits to be issued again, and the time in ns at which it was issued or had
its last retry response. -/
structure OutRead where
  init : Nat
  own : Option (Fin 3)
  core : Nat
  addr : Nat
  size : Nat
  retries : Nat
  reissue : Bool
  since : Nat
  deriving DecidableEq, Repr

/-- A command in progress (R312): its reference, its descriptor, whether it has been passed to its target, and the data of its unit
where it came in one (R316). -/
structure InCmd where
  ref : CmdRef
  desc : Desc
  passed : Bool
  data : List Byte
  deriving DecidableEq, Repr

/-- A completion that waits to be written (Table 13.3), with the data that it returns to a remote session (R316). -/
structure Completion where
  ref : CmdRef
  opcode : Nat
  status : Nat
  fcode : Nat
  pwfail : Bool
  result : Nat
  len : Nat
  sec : Nat
  ns : Nat
  data : List Byte
  deriving DecidableEq, Repr

/-- A template selection (R156, R177): the template, its instance mask, and base and count of its planes by space code,
as TSEL read them. -/
structure Selection where
  template : Nat
  mask : Plane
  planes : List (Nat × Nat)
  deriving DecidableEq, Repr

/-- What the solver holds beside the LSV registers (R156): ACC, WACC, the branch stack (top first) and the selection. -/
structure Solver where
  acc : Plane
  wacc : Word
  stack : List StackEntry
  sel : Option Selection
  deriving DecidableEq, Repr

/-- What a slice holds of its own while it does not follow the participating slices (R13, R24, R78 to R80, R91): its cores, its
solver, its program store with the active pages, and its image SRAM. -/
structure OwnSlice where
  cores : List Core
  sol : Solver
  prog : List (Nat × Nat)
  progPages : List Nat
  img : List Host.Cell
  deriving DecidableEq, Repr

/-- An entry of the undo log (Tables 5.2 and 5.3): SEQLO and VALID of its tag, the fabric address of its line, and the old
contents of the line. -/
structure LogEntry where
  seqlo : Nat
  addr : Nat
  valid : Bool
  data : List Byte
  deriving DecidableEq, Repr

/-- A queued register store (R110): address, size, data and the writer it is attributed to (R9). -/
structure RegStore where
  writer : Writer
  addr : Nat
  size : Nat
  data : Nat
  deriving DecidableEq, Repr

/-- A force or release that has been accepted and waits for the next cycle start (R148); its command, unless the session or
ring that sent it is gone. -/
structure ForceReq where
  ref : Option CmdRef
  release : Bool
  space : Nat
  index : Nat
  value : Nat
  deriving DecidableEq, Repr

/-- A mapping entry of the CAN FD gateway as read at the enable of its channel (Table 14.3), with its latest value, its new
flag, the time in ns of its last match or last queuing, whether it has been queued, and its trigger bit at the previous
commit (R340, R341). -/
structure CanEntry where
  no : Nat
  ch : Nat
  tx : Bool
  ide : Bool
  fdf : Bool
  brs : Bool
  len : Nat
  id : Nat
  period : Nat
  widx : Nat
  trig : Bool
  bidx : Nat
  latest : List Byte
  fresh : Bool
  last : Nat
  queued : Bool
  prevQ : Bool
  deriving DecidableEq, Repr

/-- A frame in a transmit queue of the gateway: channel, entry and record (R338, R341). -/
structure CanFrame where
  ch : Nat
  entry : Nat
  bytes : List Byte
  deriving DecidableEq, Repr

/-- A Safeguard datagram not yet taken: connection, path, arrival time in ns and payload (R413). -/
structure Datagram where
  conn : Nat
  path : Nat
  at_ : Nat
  bytes : List Byte
  deriving DecidableEq, Repr

/-- The copy of a Jalora slot that is kept in the current round (R220): whether it came in the dynamic segment, its slot or
frame identifier, node entry (none for a granted slot or a dynamic frame), header fields, sender, path kept, payload, the
paths on which a valid copy was seen, whether the copies differ, its deviation in ns (R243), and its start in ns from the
round start. -/
structure JKept where
  dyn : Bool
  slot : Nat
  typ : Nat
  sync : Bool
  startup : Bool
  claim : Bool
  safe : Bool
  round : Nat
  info : Nat
  len : Nat
  mac : Nat
  path : Nat
  payload : List Byte
  seenA : Bool
  seenB : Bool
  differ : Bool
  dev : Int
  start : Nat
  deriving DecidableEq, Repr

/-- A GRANT page that waits (R257): slot, MAC address, LEN, and how often it has been sent. A revocation has both 0. -/
structure GrantPage where
  slot : Nat
  mac : Nat
  len : Nat
  sent : Nat
  deriving DecidableEq, Repr

/-- What a Jalora controller holds beside its registers and its tables in DDR (R210 to R260): network time of the current
round's start in ns, whether a round is in progress, the rounds since the enable, ρ in force and to come (in units of
1 / (10^8 × LR)), STEER of the round, the amount by which its NIT is lengthened in ns, whether LISTEN has heard a valid
frame, rounds without collision, silent rounds, whether the last odd round exceeded a limit; whether a TXRDY has come since
the enable, the sequence number of each buffer, the round starts since the last switch of transmit buffer; whether counters are to be cleared; LEN of the mailbox submitted; the
QUENCH set last sent; the next minislot and dynamic counter of each path; copies kept, error flags by node (bit 2 BOUND, 1
CRC, 0 MISMATCH), counts by node not yet added to its block (CRC, BOUND, MISMATCH, CHAFF, PATHDIFF), nodes whose record is
written, empty rounds by node, lost nodes; deviations of the even and the odd round
by slot; delay samples by 2 × node + path as sum and number, whether a trim update is due; slots in release with the rounds
since; GRANT pages; DELAY pages as last sent by slot; the rotation index and whether it is the first rotation; the SYNC frames received of
slots outside the sync set (R242). -/
structure JlaCh where
  nt : Nat
  live : Bool
  rounds : Nat
  rho : Int
  rhoNext : Int
  steer : Int
  nit : Int
  heard : Bool
  clean : Nat
  silent : Nat
  limitPrev : Bool
  txok : Bool
  seq0 : Nat
  seq1 : Nat
  rep : Nat
  clrPend : Bool
  mboxLen : Nat
  qsent : List (Nat × Nat × Nat)
  miniA : Nat
  dcA : Nat
  miniB : Nat
  dcB : Nat
  kept : List JKept
  flags : List (Nat × Nat)
  cnts : List (Nat × List Nat)
  done : List Nat
  miss : List (Nat × Nat)
  lost : List Nat
  devE : List (Nat × Int)
  devO : List (Nat × Int)
  samples : List (Nat × (Int × Nat))
  trimDue : Bool
  releasing : List (Nat × Nat)
  pages : List GrantPage
  delaySent : List (Nat × Nat)
  rot : Nat
  firstRot : Bool
  syncOther : Nat
  deriving DecidableEq, Repr

/-- A Jalora controller that is off. -/
def JlaCh.off : JlaCh :=
  ⟨0, false, 0, 0, 0, 0, 0, false, 0, 0, false, false, 0, 0, 0, false, 0, [], 1, 1, 1, 1, [], [], [], [], [], [], [], [], [], false,
   [], [], [], 0, true, 0⟩

/-- A PTP port of the time unit (R274 to R277): the configuration in force, the sequence numbers of Sync, Announce and
Pdelay_Req, one more than the second in which event 264 was last raised, the second and number of Delay_Req served in it,
the egress stamp of the last Pdelay_Req, the ingress stamp of its two-step Pdelay_Resp with the time it carries, and the peer delay
measured, all in units of 2^-16 ns, and the Pdelay_Req sent since one was answered. -/
structure PtpPort where
  en : Bool
  proto : Nat
  twostep : Bool
  domain : Nat
  logSync : Nat
  logAnn : Nat
  logPdly : Nat
  logDreq : Nat
  seqSync : Nat
  seqAnn : Nat
  seqPdly : Nat
  foreignSec : Nat
  reqSec : Nat
  reqCnt : Nat
  t1 : Option Int
  resp : Option (Int × Int)
  peer : Option Int
  lost : Nat
  deriving DecidableEq, Repr

/-- A time-event pin (R283, R284): the instant of its next event in ns; the events that act as programmed before a write (instant,
and whether it sets the level, which level and which width), the earliest first; and the level it keeps. -/
structure TePin where
  next : Option Nat
  old : List (Nat × Bool × Bool × Nat)
  level : Bool
  deriving DecidableEq, Repr

/-- What the time unit holds beside its registers (R264 to R289): the fraction of a nanosecond in units of 2^-48; freq and
slew in units of 10^-18; edges accepted since ACQUIRE was entered; stamp less INDELAY of the last accepted and of the last
received edge; the next expected second, the expected seconds missing or rejected in succession, and a second in which an
early edge was rejected; edges accepted in succession in HOLDOVER; freq of the last 1,024 accepted edges in LOCKED, newest
first; the instant HOLDOVER was entered; whether ACQUIRE was entered from HOLDOVER; a set that waits for an edge; the PTP
ports; the pins; TIM_SEC, TIM_NSEC and TIM_FRAC as last latched. -/
structure TimUnit where
  frac : Nat
  freq : Int
  slew : Int
  n : Nat
  lastAcc : Option Int
  lastEdge : Option Int
  expNext : Nat
  missCnt : Nat
  rejSec : Option Nat
  holdCnt : Nat
  freqs : List Int
  holdStart : Int
  fromHold : Bool
  setPend : Option Nat
  ports : List PtpPort
  te : List TePin
  latSec : Nat
  latNsec : Nat
  latFrac : Nat
  deriving DecidableEq, Repr

/-- The time unit after a reset; the PTP ports have their registers' reset values in force. -/
def TimUnit.reset : TimUnit :=
  ⟨0, 0, 0, 0, none, none, 0, 0, none, 0, [], 0, false, none,
   List.replicate 4 ⟨false, 0, true, 0, 0xD, 1, 0, 0, 0, 0, 0, 0, 0, 0, none, none, none, 0⟩,
   List.replicate 4 ⟨none, [], false⟩, 0, 0, 0⟩

/-- An entry of the VLAN table: members and untagged ports (Table 12.5). -/
structure VlanEntry where
  valid : Bool
  untag : Nat
  member : Nat
  deriving DecidableEq, Repr

/-- An entry of the filtering database: address, VID, whether static, ports, and when it was learned in ns. -/
structure FdbEntry where
  mac : Nat
  vid : Nat
  static : Bool
  mask : Nat
  at_ : Nat
  deriving DecidableEq, Repr

/-- An entry of the stream table with its counts, and what it keeps for R299 and R300: the next sequence number sent; the
recovery's last number and history (newest first), none after a reset; the time of the last frame kept; the port that
alone has delivered and since when; whether event 299 has been raised. -/
structure StreamEntry where
  valid : Bool
  gen : Bool
  rec_ : Bool
  idSrc : Bool
  vid : Nat
  mac : Nat
  hist : Nat
  resetMs : Nat
  chaff : Nat
  rogue : Nat
  txSeq : Nat
  last : Option Nat
  seen : List Bool
  kept : Nat
  runPort : Option Nat
  runSince : Nat
  silent : Bool
  deriving DecidableEq, Repr

/-- A PTP message of the time unit on its way out of a port (R274): PTP profile, group address, message type, domain, sequence number,
the fields named where it is made, and whether it is a one-step Sync, which takes its stamp as it leaves. -/
structure PtpMsg where
  proto : Nat
  dst : Nat
  kind : Nat
  domain : Nat
  seq : Nat
  fields : List Nat
  oneStep : Bool
  deriving DecidableEq, Repr

/-- A copy queued at an egress port: port, class, frame, launch time in ns, the transmit ring and descriptor to write
back when it leaves, and the message in a frame of the TIM port. -/
structure BbQueued where
  port : Nat
  cls : Nat
  frame : BbFrame
  launch : Option Nat
  back : Option (Nat × Nat)
  msg : Option PtpMsg
  deriving DecidableEq, Repr

/-- A gate control list in force or pending: base in ns, cycle in ns, entries, and the instant from which it is in force (R295,
R296). -/
structure GateList where
  base : Nat
  cycle : Nat
  len : Nat
  start : Nat
  deriving DecidableEq, Repr

/-- What the switch holds beside its registers (R290 to R302): VLAN table by VID, filtering database and stream table by index,
the egress queues oldest first, per port the list in force, the pending list, the instant until which entry 0 is held after
a step, the level of the class 7 bucket in 1/1000 bit with the time of its last change and one more than the second of the
last event 296, and the next descriptor of each transmit ring. -/
structure Bbs where
  vlan : List (Nat × VlanEntry)
  fdb : List (Nat × FdbEntry)
  streams : List (Nat × StreamEntry)
  queue : List BbQueued
  oper : List GateList
  pend : List (Option GateList)
  hold : List Nat
  bucket : List (Nat × Nat × Nat)
  txHead : List Nat
  deriving DecidableEq, Repr

/-- The switch after a reset. -/
def Bbs.reset : Bbs :=
  ⟨[], [], [], [], List.replicate 4 ⟨0, 1000000, 1, 0⟩, List.replicate 4 none, List.replicate 4 0,
   List.replicate 4 (131072000, 0, 0), List.replicate 8 0⟩

/-- What a DMA channel holds beside its registers (R347 to R365): the words of the descriptor in progress, none between runs;
how it has ended (status, fabric code, residue), none while its data are to be moved; descriptors fetched in this run; the
cycle trigger of the run and of the pending start (0 none, 1 IN, 2 OUT); whether an abort is in progress. -/
structure DmaCh where
  words : Option (List Nat)
  ended : Option (Nat × Nat × Nat)
  count : Nat
  run : Nat
  pendRun : Nat
  abort : Bool
  deriving DecidableEq, Repr

/-- A DMA channel without a run. -/
def DmaCh.idle : DmaCh := ⟨none, none, 0, 0, 0, false⟩

/-- What the module sends to the outside, and what it hands to units whose inside the spec does not describe. -/
inductive Emit where
  /-- an MSI-X message of a vector: its data written to its address (R313, R457) -/
  | msix (vec : Nat)
  /-- the alert with which a TLS connection is refused (R315) -/
  | tlsAlert
  /-- Unsupported Request as the completion of an AtomicOp, and the report of a poisoned transaction by advanced error reporting (R325) -/
  | unsupportedRequest
  | poisonedReport
  /-- a completion descriptor written to its slot: host address and words, words 1 to 7 first and then word 0 (R312) -/
  | completion (addr : Nat) (words : List Nat)
  /-- data written to the buffer of a command of session 0: host address and bytes (R307) -/
  | buffer (ref : CmdRef) (addr : Nat) (bytes : List Byte)
  /-- a unit sent to a remote session: COMPLETION, NOTICE, KEEPALIVE (R316) -/
  | unit (session : Nat) (bytes : List Byte)
  /-- a close notice (Table 3.7) -/
  | closeNotice (session : Nat)
  /-- the answer to a read of an initiator: data, fabric code (R10, R82, R329) -/
  | readData (init : Nat) (addr : Nat) (code : Nat) (data : Nat)
  /-- an access-fault exception of the slices, at an address; load or store (R82, R91, R326) -/
  | accessFault (store : Bool) (addr : Nat)
  /-- the error response to a write: initiator code, address, fabric code (R5, R10) -/
  | writeError (init : Nat) (addr : Nat) (code : Nat)
  /-- what a store-conditional or an AMO answers its core: the address, and 0 or 1, or the old value (Table 4.1) -/
  | atomicResult (addr : Nat) (value : Nat)
  /-- what a core reads from a CSR: its number and its value (R78, R281) -/
  | csrData (num : Nat) (value : Nat)
  /-- a posted write to host memory (R326) -/
  | hostWrite (addr : Nat) (bytes : List Byte)
  /-- a frame on a port of a unit: unit and port, bytes -/
  | frame (unit : Nat) (port : Nat) (bytes : List Byte)
  /-- a PTP message that leaves a port, with its stamp where it carries one -/
  | ptp (port : Nat) (msg : PtpMsg)
  /-- the right LED of the jack of BB2 or BB3 flickers (R33) -/
  | flicker (port : Nat)
  /-- a pin: TE0 to TE3 as 0 to 3, X15.2 as 4; a high pulse of a width in ns, or a level -/
  | pulse (pin : Nat) (width : Nat)
  | level (pin : Nat) (high : Bool)
  /-- a message on the pair link (R433 to R442): 1 keepalive of a lane, 2 time, 3 relayed POLL, 4 state, REFOWN and health,
  5 delta header, 6 acknowledgement, 7 join answer, 8 delta: size in bytes, CKP_SEQ, t0, mode, transition, then the lines, 9 block of
  the full copy, 10 STATUS for the partner to relay, 11 what a mirroring channel takes over at a round start, 12 join request -/
  | pair (kind : Nat) (data : List Nat)
  deriving DecidableEq, Repr

/-- Why a step stops with a fault. No meaning of this model faults: every command has an effect or leaves the state as
it is. -/
inductive Fault where
  /-- raised by nobody; a step that answered it would be safe, since no claim about a next state would apply -/
  | none
  deriving DecidableEq, Repr

/-- Why a step is refused. -/
inductive Refusal where
  /-- raised by the arm of a command that has no meaning yet; safe, since no claim about a next state applies -/
  | notModelled (mnemonic : String)
  deriving DecidableEq, Repr

/-- The state of the module. -/
structure State where
  /-- commands that wait, first in, first out -/
  pending : List Instr
  /-- register fields and internal fields that have been written, by field key, keys rising -/
  regs : List (Nat × Nat)
  /-- DDR, shared SRAM, image window and Granary, by fabric address, in canonical form -/
  mem : List Host.Cell
  /-- the model's own counter for free values (log entry 3); no chapter names it -/
  freeCtr : Nat
  /-- what the module has sent, oldest first -/
  out : List Emit
  /-- capture FIFO of the error log, oldest first (R462) -/
  evFifo : List Report
  /-- open entries of the error log, oldest first (R461) -/
  evOpen : List OpenEntry
  /-- always-on latch of raised sources, oldest first (R458) -/
  evLatch : List Report
  /-- slice deliveries held while the log window is open (R456): core and source -/
  evHeld : List (Nat × Nat)
  /-- machine external interrupts delivered to the slices (R456): core and source -/
  extIrq : List (Nat × Nat)
  /-- the two persisted copies of the Gleaner (R468) -/
  glnCopies : List GlnCopy
  /-- current, previous and staged credential set (R475, R488) -/
  creds : CredSet
  prevCreds : CredSet
  /-- journal write buffer, and records in the journal ring, oldest first (R479) -/
  journalBuf : List JRec
  journal : List JRec
  /-- base copies 0 and 1 (R480); settings banks 0 and 1 (R482); image slots S0 to S2 (R484) -/
  bases : List BaseCopy
  setBanks : List SetBank
  slots : List ImageInfo
  /-- the staged object, once verified, and the byte ranges received for it, as (start, end) rising (R485, R486) -/
  staged : Option StagedObj
  stagedRanges : List (Nat × Nat)
  /-- bytes of the object being staged, by offset (R486) -/
  stagedData : List (Nat × Byte)
  /-- command descriptors announced by doorbells and not yet taken: ring and descriptor, none where its read fails (R311) -/
  ringq : List (Nat × Option Desc)
  /-- accesses that wait for a host lock, and halves of 64-bit accesses (R334, R335, R6) -/
  heldAcc : List HeldAccess
  halves : List HalfAccess
  /-- outbound reads not yet answered (R332, R333) -/
  outReads : List OutRead
  /-- commands in progress, oldest first (R312) -/
  cmds : List InCmd
  /-- completions that wait to be written, oldest first (R312) -/
  cpls : List Completion
  /-- commands passed to a target that has not yet decided them: opcode and reference (R312) -/
  waiting : List (Nat × CmdRef)
  /-- forces and releases accepted during a cycle (R148) -/
  forcePend : List ForceReq
  /-- the change set that is loading, loaded or armed, or whose migration is to come (R150 to R152) -/
  chg : Option ChangeSet
  /-- waiting CLAIMs, oldest first (R317) -/
  claims : List CmdRef
  /-- old owners that have been displaced and not yet told, oldest first: session, and the time of the TAKEOVER in ns (R319) -/
  notices : List (Nat × Nat)
  /-- subscribed sources of each session: session and source (R316, R466) -/
  subs : List (Nat × Nat)
  /-- the solver of the participating slices (R156) -/
  sol : Solver
  /-- program store, by instruction index, and its active 4 KiB pages (R150, R176); the master image of it in DDR, whose place
  the spec does not give (R101, R150) -/
  prog : List (Nat × Nat)
  progPages : List Nat
  master : List (Nat × Nat)
  /-- the four cores' architectural state in the participating slices (Table 5.1) -/
  cores : List Core
  /-- what slices A, B and C hold while they are free, fenced or stopped (R78, R91) -/
  own : List OwnSlice
  /-- lines of the L1 and L2 caches (R80) -/
  caches : List CacheLine
  /-- after scrub mismatches: the lines to be invalidated at the next cycle start, and the pages of the program store to be reloaded
  in the idle phase (R101) -/
  inval : List Nat
  reload : List Nat
  /-- records that the solver has delivered to stream 3 in the signature window (R179) -/
  recs : List CtlRec
  /-- the two banks of the checkpoint store (R106) -/
  banks : List Checkpoint
  /-- undo log entries in use, oldest first, and the entries the log memory still shows (R113) -/
  undo : List LogEntry
  undoOld : List LogEntry
  /-- line addresses the undo filter holds, by slot (R115) -/
  undoFilter : List (Nat × Nat)
  /-- dirty lines of the Q working copy (R109) -/
  qDirty : List Nat
  /-- pages of program store and image SRAM written during the copy of a join (Table 4.6, step 3) -/
  joinDirty : List Nat
  /-- register queue, oldest first (R110), and what the checkpoint unit has logged of queued stores that failed: the store and its
  code (R112) -/
  regq : List RegStore
  regErrs : List (RegStore × Nat)
  /-- stores of the slices held for an undo log entry, oldest first (R116) -/
  stalled : List RegStore
  /-- mapping entries of the CAN channels that are enabled, and their transmit queues, oldest first (R337, R341) -/
  canMap : List CanEntry
  canQ : List CanFrame
  /-- connection and axis state of the safety runtime, as it stands and as last committed; datagrams not yet taken -/
  safe : Safe
  safeC : Safe
  dgrams : List Datagram
  /-- the four Jalora controllers -/
  jla : List JlaCh
  /-- the time unit -/
  tim : TimUnit
  /-- the backbone switch -/
  bbs : Bbs
  /-- the sixteen DMA channels -/
  dma : List DmaCh
  deriving DecidableEq, Repr

/-- No connection and no axis state. -/
def Safe.empty : Safe := ⟨[], [], 0, 0, 0, 0⟩

/-- A core after reset: in machine mode (Table 4.1), without a reservation. For its registers the spec states no values: zeros
(DESIGN CHOICE, log entry 2). -/
def Core.reset : Core := ⟨List.replicate 32 0, List.replicate 32 0, 0, [], false, none⟩

/-- The solver after reset. -/
def Solver.reset : Solver := ⟨0, 0, [], none⟩

/-- A slice after reset. -/
def OwnSlice.reset : OwnSlice := ⟨List.replicate 4 Core.reset, Solver.reset, [], [], []⟩

/-- An empty checkpoint bank. -/
def Checkpoint.empty : Checkpoint := ⟨List.replicate 4 Core.reset, 0, 0, [], 0, 0⟩

/-- The credential set as delivered: one passphrase entry of role maker (R475). Identity, salt and digest are printed on
the unit label or kept with it: identity 1 and opaque numbers stand for them (DESIGN CHOICE, log entry 32). -/
def CredSet.delivered : CredSet := ⟨[⟨1, 3, false, 0, List.replicate 16 0, Config.labelDigest⟩], [], 0⟩

/-- An empty image slot. -/
def ImageInfo.blank : ImageInfo := ⟨false, 0, 0, 0, [], 0, 0, 0, 0, 0, 0⟩

/-- The image as delivered in slot 0 (DESIGN CHOICE, log entry 33): signed, for every issue, variant and unit. -/
def ImageInfo.delivered : ImageInfo := ⟨true, 0x0A07, 0xFFFF, 0xFFFF, [], 0, 0, 0, 0, 1, 1⟩

/-- The module right after power-on reset: every register field at its reset value, nothing listed in memory, every
queue empty. -/
def State.reset : State :=
  { pending := [], regs := [], mem := [], freeCtr := 0, out := [], evFifo := [], evOpen := [], evLatch := [],
    evHeld := [], extIrq := [], glnCopies := [⟨false, 0, []⟩, ⟨false, 0, []⟩], creds := CredSet.delivered,
    prevCreds := ⟨[], [], 0⟩, journalBuf := [], journal := [], bases := [⟨true, 0, []⟩, ⟨false, 0, []⟩],
    setBanks := [⟨false, 0, 0, [], []⟩, ⟨false, 0, 0, [], []⟩],
    slots := [ImageInfo.delivered, ImageInfo.blank, ImageInfo.blank], staged := none, stagedRanges := [], stagedData := [], ringq := [],
    heldAcc := [], halves := [], outReads := [], cmds := [], cpls := [], waiting := [], forcePend := [], chg := none, claims := [], notices := [], subs := [], sol := Solver.reset, prog := [],
    progPages := [], master := [], cores := List.replicate 4 Core.reset, own := List.replicate 3 OwnSlice.reset,
    caches := [], inval := [], reload := [], recs := [], banks := [Checkpoint.empty, Checkpoint.empty], undo := [],
    undoOld := [], undoFilter := [], qDirty := [], regq := [], regErrs := [], stalled := [], joinDirty := [], canMap := [], canQ := [],
    safe := Safe.empty, safeC := Safe.empty, dgrams := [], jla := List.replicate 4 JlaCh.off,
    tim := TimUnit.reset, bbs := Bbs.reset, dma := List.replicate 16 DmaCh.idle }

end Sys2Proof.Machine
end

