-- ==== Sys2Proof/Machine/Ops.lean ====
section
/-! DEFINITION. The operations that the meanings share: register fields, memory, time, islands, events with the error log
and the Gleaner (R453 to R469), the audit log (R477), and what identifies a session (R474, R317). -/

namespace Sys2Proof.Machine

open R

/-- The answer of a command. -/
abbrev Out := Host.Outcome State Fault Refusal

/-! Register fields and memory -/

/-- The value of a register field or internal field. -/
def rd (s : State) (f : Fld) : Nat := (Assoc.find f.key s.regs).getD f.rst

/-- A field set to a value, cut to the field's width. -/
def wr (f : Fld) (v : Nat) (s : State) : State :=
  { s with regs := Assoc.put f.key (v % 2 ^ f.width) s.regs }

/-- A one-bit field as a truth value. -/
def on (s : State) (f : Fld) : Bool := rd s f != 0

/-- A one-bit field set. -/
def set1 (f : Fld) (s : State) : State := wr f 1 s

/-- A field cleared. -/
def clr (f : Fld) (s : State) : State := wr f 0 s

/-- Apply `g` where `c` holds. -/
def when (c : Bool) (g : State → State) (s : State) : State := if c then g s else s

/-- A field that counts up and wraps at its width. -/
def inc (f : Fld) (s : State) : State := wr f (rd s f + 1) s

/-- A counter field that saturates. -/
def incSat (f : Fld) (k : Nat) (s : State) : State := wr f (satAdd f.width (rd s f) k) s

/-- A signed field. -/
def rdS (s : State) (f : Fld) : Int := toSigned f.width (rd s f)

/-- A signed field set. -/
def wrS (f : Fld) (x : Int) (s : State) : State := wr f (ofSigned f.width x) s

/-- `n` bytes of memory. -/
def memRead (s : State) (a n : Nat) : List Byte := Memory.readN s.mem a n

/-- The little-endian number in `n` bytes of memory. -/
def memNat (s : State) (a n : Nat) : Nat := leBytes (memRead s a n)

/-- Bytes written to memory. -/
def memWrite (a : Nat) (bs : List Byte) (s : State) : State := { s with mem := Memory.writeN s.mem a bs }

/-- A little-endian number written to `n` bytes of memory. -/
def memPut (a n v : Nat) (s : State) : State := memWrite a (bytesLE n v) s

/-- Memory from `lo` up to `hi` back at its default. -/
def memClear (lo hi : Nat) (s : State) : State := { s with mem := Memory.clear s.mem lo hi }

/-- Something sent to the outside. -/
def emit (e : Emit) (s : State) : State := { s with out := s.out ++ [e] }

/-- The index of the next free value (log entry 3), which the step then uses up. -/
def useFree (s : State) : State := { s with freeCtr := s.freeCtr + 1 }

/-! Time -/

/-- Nanoseconds in a second. -/
def nsPerS : Nat := 1000000000

/-- Time unit time in nanoseconds. -/
def now (s : State) : Nat := rd s TIM_SEC * nsPerS + rd s TIM_NSEC

/-- An instant of time unit time on a count that no step of the time moves (R268): spans of time are measured on it. -/
def upAt (s : State) (t : Nat) : Nat := ((t : Int) - rdS s I.TIM_SHIFT).toNat

/-- The present instant on that count. -/
def upNow (s : State) : Nat := upAt s (now s)

/-! Islands (Table 1.2) -/

/-- Island `n` is on and not shutting down: it takes new requests (R15). -/
def islandOn (s : State) (n : Nat) : Bool :=
  bit (rd s PWR_ISLSTAT) (n - 1) && !bit (rd s PWR_ISLBUSY_BUSY_OFF) (n - 1)

/-- Island `n` has clock and power. -/
def islandPowered (s : State) (n : Nat) : Bool := bit (rd s PWR_ISLSTAT) (n - 1)

/-! Sessions (R474, R317) -/

/-- The role of a session: 0 none, 1 operator, 2 installer, 3 maker. -/
def sessRole (s : State) (n : Nat) : Nat := rd s (HBR_SESS_ROLE n)

/-- The identity of a session. -/
def sessIdent (s : State) (n : Nat) : Nat := rd s (HBR_SESS_IDENT n)

/-- Session `n` is the owner. -/
def isOwner (s : State) (n : Nat) : Bool := on s HBR_OWNER_VALID && rd s HBR_OWNER_SESSION == n

/-! The Gleaner (R467, R469) -/

/-- Add `k` to Gleaner counter `i`, saturating. -/
def glnAdd (i k : Nat) (s : State) : State := incSat (GLN_CNT_COUNT i) k s

/-- Add 1 to bin `b` of histogram `h`; values beyond the last bin go to bin 31 (Table 19.4). -/
def glnHist (h b : Nat) (s : State) : State := incSat (GLN_HIST_BIN h (min b 31)) 1 s

/-- The fixed counter that counts the raises of a source (Table 19.3). -/
def glnOfSource (src : Nat) : Option Nat :=
  match src with
  | 8 => some 4 | 9 => some 5 | 10 => some 6 | 12 => some 7
  | 65 => some 9 | 66 => some 10 | 64 => some 11 | 81 => some 12 | 82 => some 13
  | 96 => some 14 | 67 => some 15 | 68 => some 15
  | 32 => some 16 | 33 => some 17 | 34 => some 18 | 35 => some 19 | 36 => some 20
  | 37 => some 21 | 38 => some 22 | 43 => some 23 | 44 => some 24 | 45 => some 25
  | 40 => some 26 | 41 => some 26 | 42 => some 27
  | 132 => some 40 | 164 => some 41 | 196 => some 42 | 228 => some 43
  | 258 => some 49 | 260 => some 50 | 261 => some 51
  | 357 => some 56 | 358 => some 57
  | 384 => some 58 | 386 => some 59 | 390 => some 60 | 393 => some 61
  | 421 => some 62 | 423 => some 63
  | 462 => some 67 | 458 => some 68 | 460 => some 68
  | 324 => some 69 | 331 => some 70 | 86 => some 74 | 90 => some 75
  | _ => none

/-- User counter 128 + n counts the source of GLN_UCFGn while EN = 1 (R470). -/
def glnUser (src : Nat) (s : State) : State :=
  (List.range 128).foldl (fun t n =>
    when (on s (GLN_UCFG_EN n) && rd s (GLN_UCFG_SOURCE n) == src) (glnAdd (128 + n) 1) t) s

/-- The counts that a raise of a source adds. -/
def glnRaise (src : Nat) (s : State) : State :=
  glnUser src (match glnOfSource src with | some i => glnAdd i 1 s | none => s)

/-! Sending to the host (R306, R326, R332) -/

/-- Host memory can be reached: Bus Master Enable 1, the link up. -/
def obLink (s : State) : Bool := on s HBR_LINK_BME && on s HBR_LINK_LINKUP && islandOn s 10

/-- HBR_OBERR records a failure. -/
def obError (status init addr : Nat) (s : State) : State :=
  s |> wr HBR_OBERR_STATUS status |> wr HBR_OBERR_INIT init |> wr HBR_OBERR_ADDR addr

/-! Events (R454 to R458, R462) -/

/-- A source that is never logged, whatever LOG says (R471). -/
def neverLogged (src : Nat) : Bool := src == 504 || src == 506 || src == 507

/-- The report of a raise made now. -/
def reportNow (src detail : Nat) (crit : Bool) (s : State) : Report :=
  ⟨src, detail % 2 ^ 48, crit, rd s TIM_SEC % 2 ^ 32, rd s TIM_NSEC, rd s CKP_SEQ⟩

/-- Pending bit and slice delivery of a raise (R454 to R456). -/
def eventPend (src : Nat) (s : State) : State :=
  let pf := EVC_PEND (src / 32)
  s |> wr pf (setBits (rd s pf) (src % 32) 1 1)
    |> when (on s (EVC_ROUTE_SLC src)) (fun t =>
        let d := (rd s (EVC_ROUTE_CORE src), src)
        if on s CKP_STATUS_LOGOPEN then { t with evHeld := t.evHeld ++ [d] }
        else { t with extIrq := t.extIrq ++ [d] })

/-- The report with what makes it critical beside the rule that raises it: CRIT of its source, and source 505 (R460). -/
def critReport (r : Report) (s : State) : Report := { r with crit := r.crit || on s (EVC_ROUTE_CRIT r.source) || r.source == 505 }

/-- A report takes a place of the capture FIFO, the last 8 of which are for critical ones, or is dropped and counted; `full` says what
else that brings (R462). -/
def captureOr (full : State → State) (r : Report) (s : State) : State :=
  if s.evFifo.length < 56 ∨ (r.crit ∧ s.evFifo.length < 64) then { s with evFifo := s.evFifo ++ [r] }
  else s |> incSat EVC_LOGCNT_DROP 1 |> glnAdd 73 1 |> full

/-- A report of a source that LOG = 1 or its being critical records, by `put` (R454, R460). -/
def recordBy (put : Report → State → State) (r : Report) (s : State) : State :=
  let c := critReport r s
  if (on s (EVC_ROUTE_LOG r.source) || c.crit) && !neverLogged r.source then put c s else s

/-- An MSI-X message that the bridge cannot send is a posted write discarded: event 332, whose own message cannot be sent either, and
so none of 507 (R332). -/
def msixLost (v : Nat) (s : State) : State :=
  s |> obError 5 17 (rd s (I.HBR_MSIXADDR v)) |> glnRaise 332 |> eventPend 332 |> recordBy (captureOr id) (reportNow 332 0 false s)

/-- A vector is masked: by its own mask bit, by Function Mask, or because MSI-X is not enabled (R313). -/
def msixMasked (s : State) (v : Nat) : Bool := !on s I.HBR_MSIXEN || on s I.HBR_FMASK || on s (I.HBR_MSIXMASK v)

/-- A vector of the 64 is raised (R313): its message, or its pending bit while it is masked. -/
def msixRaise (n : Nat) (s : State) : State :=
  let v := n % 64
  if msixMasked s v then set1 (I.HBR_MSIXPEND v) s else if obLink s then emit (.msix v) s else msixLost v s

/-- Pending bit, MSI-X message and slice delivery of a raise (R454 to R457). -/
def eventDeliver (src : Nat) (s : State) : State :=
  s |> eventPend src |> when (on s (EVC_ROUTE_HOST src) && !bit (rd s (EVC_PEND (src / 32))) (src % 32)) (msixRaise (rd s (EVC_ROUTE_VEC src)))

/-- A raise of a source that is never logged. -/
def raiseQuiet (src : Nat) (s : State) : State :=
  let s1 := glnRaise src s
  if islandPowered s 8 then eventDeliver src s1 else s1

/-- A report takes a place of the capture FIFO, or is dropped with event 507 (R462). -/
def capture (r : Report) (s : State) : State := captureOr (raiseQuiet 507) r s

/-- EVC takes a raise: pending bit, delivery, and a report if LOG = 1 or the report is critical (R454, R460). -/
def evcTake (r : Report) (s : State) : State :=
  s |> eventDeliver r.source |> recordBy capture r

/-- Raise a source with a DETAIL. While island 8 is off the always-on latch holds it (R458). -/
def raiseWith (src detail : Nat) (crit : Bool) (s : State) : State :=
  let r := reportNow src detail crit s
  let s1 := glnRaise src s
  if islandPowered s 8 then evcTake r s1
  else if s1.evLatch.length < 16 then { s1 with evLatch := s1.evLatch ++ [r] }
  else incSat I.EVC_LATCHLOST 1 s1

/-- Raise a source; DETAIL is 0 unless its chapter states otherwise (Table 19.2). -/
def raise (src : Nat) (s : State) : State := raiseWith src 0 false s

/-- Raise a source whose rule calls for a critical entry. -/
def raiseCrit (src : Nat) (s : State) : State := raiseWith src 0 true s

/-- DETAIL of a report of a fabric access (R460): address, code and initiator. -/
def accessDetail (addr code init : Nat) : Nat := addr % 2 ^ 40 + code * 2 ^ 40 + init * 2 ^ 44

/-! The audit log (R477) -/

/-- Offset of the audit log in the Granary (Table 20.4). -/
def auditBase : Nat := 0x1040050000

/-- The 32 bytes of an audit entry (Table 20.3). -/
def auditEntry (s : State) (action : Nat) (refused : Bool) (sess object old new : Nat) : List Byte :=
  bytesLE 8 ((rd s TIM_SEC % 2 ^ 32) * 2 ^ 32 + rd s TIM_NSEC)
    ++ bytesLE 8 (rd s CKP_SEQ)
    ++ bytesLE 8 (object % 2 ^ 32 + sessIdent s sess * 2 ^ 32 + sessRole s sess % 4 * 2 ^ 50 + sess % 8 * 2 ^ 52
        + b2n refused * 2 ^ 55 + action % 256 * 2 ^ 56)
    ++ bytesLE 8 (new % 2 ^ 32 + old % 2 ^ 32 * 2 ^ 32)

/-- ACC writes an audit entry at HEAD; a full ring loses its oldest entry (R477). -/
def audit (action : Nat) (refused : Bool) (sess object old new : Nat) (s : State) : State :=
  let h := rd s ACC_AUDHEAD_HEAD
  let full := rd s I.ACC_AUDCOUNT ≥ 8192
  s |> memWrite (auditBase + 32 * h) (auditEntry s action refused sess object old new)
    |> wr ACC_AUDHEAD_HEAD ((h + 1) % 8192)
    |> inc ACC_AUDSEQ_SEQ
    |> when (!full) (inc I.ACC_AUDCOUNT)
    |> when full (fun t =>
        t |> incSat ACC_AUDCNT_OVWR 1
          |> when (rd s I.ACC_LAST483 != rd s TIM_SEC + 1)
              (fun u => raise 483 (wr I.ACC_LAST483 (rd s TIM_SEC + 1) u)))

/-! Stamps at the connector (R279) -/

/-- Now, in units of 2^-16 ns, as the MAC of port n stamps it. -/
def macStamp (s : State) : Int := (now s * 65536 + rd s TIM_FRAC : Nat)

/-- Correction of a stamp at port n, 0 to 3 for BB0 to BB3, then J0A to J3B, in units of 2^-16 ns. -/
def ingressCorr (s : State) (n : Nat) : Int := rd s (TIM_LAT_INGRESS n) * 1024 + rdS s (TIM_ADJ n) * 1024
def egressCorr (s : State) (n : Nat) : Int := rd s (TIM_LAT_EGRESS n) * 1024 + rdS s (TIM_ADJ n) * 1024

/-- A frame that is received, or that leaves, now. -/
def ingressStamp (s : State) (n : Nat) : Int := macStamp s - ingressCorr s n
def egressStamp (s : State) (n : Nat) : Int := macStamp s + egressCorr s n

/-- The stamp t0 of the newest cycle in ns. -/
def newT0 (s : State) : Nat := rd s I.CYC_NT0SEC * nsPerS + rd s I.CYC_NT0NS

end Sys2Proof.Machine
end

