-- ==== Sys2Proof/Machine/Gates.lean ====
section
/-! DEFINITION. Gate control lists of the backbone ports (R295 to R297): which entry is in force at an instant, and for how
long the gate of a class stays open. -/

namespace Sys2Proof.Machine

open R

/-- The switch changed. -/
def bbsSet (f : Bbs → Bbs) (s : State) : State := { s with bbs := f s.bbs }

/-- The list in force on port n. -/
def gateList (s : State) (n : Nat) : GateList := s.bbs.oper.getD n ⟨0, 1000000, 1, 0⟩

/-- Entry e of bank b of port n: its GATES and its INTERVAL. -/
def gateEntry (s : State) (n b e : Nat) : Nat × Nat :=
  let v := rd s (BBS_GCLE_ENTRY n b e)
  (bits v 56 8, bits v 0 32)

/-- The entry in force `off` ns into a cycle, and when it ends; the last entry holds to the end of the cycle. -/
def entryWalk (s : State) (n b len off cycle : Nat) : Nat → Nat → Nat → Nat × Nat
  | 0, e, _ => (e, cycle)
  | fuel + 1, e, start =>
    let stop := min cycle (start + (gateEntry s n b e).2)
    if e + 1 ≥ len then (e, cycle)
    else if off < stop then (e, stop)
    else entryWalk s n b len off cycle fuel (e + 1) stop

/-- Offset of now in the cycle of port n's list. -/
def gateOffset (s : State) (n : Nat) : Nat :=
  let g := gateList s n
  ((((now s : Int) - g.base) % ((max 1 g.cycle : Nat) : Int))).toNat

/-- The entry of port n's list that is in force now, and the offset at which it ends. -/
def gateNow (s : State) (n : Nat) : Nat × Nat :=
  let g := gateList s n
  if now s < s.bbs.hold.getD n 0 then (0, g.cycle)
  else entryWalk s n (rd s (BBS_GCL_CTRL_OPERBANK n)) g.len (gateOffset s n) g.cycle 256 0 0

/-- The class is quenched on port n (R297). -/
def classQuenched (s : State) (n k : Nat) : Bool := bit (rd s (BBS_QUENCH_CLASSES n)) k

/-- Entry e of bank b opens the gate of class k at an offset of the cycle: by its GATES, and for class 7 in the first MGMTWIN µs. -/
def gateBit (s : State) (n k b e off : Nat) : Bool :=
  bit (gateEntry s n b e).1 k || (k == 7 && decide (off < 1000 * rd s BBS_MGMT_MGMTWIN))

/-- Where list g of bank b closes the gate of class k, in ns from the start of a cycle, if it is open at `pos`: the gate stays open from
entry to entry and from cycle to cycle as long as each opens it; `lim` ends the search. -/
def gateRun (s : State) (n k b : Nat) (g : GateList) (lim : Nat) : Nat → Nat → Nat
  | 0, pos => pos
  | fuel + 1, pos =>
    if lim ≤ pos then pos else
    let off := pos % max 1 g.cycle
    let (e, stop) := entryWalk s n b g.len off g.cycle 256 0 0
    let win := 1000 * rd s BBS_MGMT_MGMTWIN
    let till := if k = 7 ∧ off < win then min stop win else stop
    if gateBit s n k b e off && decide (off < till) then gateRun s n k b g lim fuel (pos + (till - off)) else pos

/-- For how long list g of bank b keeps the gate of class k open from an offset of its cycle on; none: without end. -/
def gateSpan (s : State) (n k b : Nat) (g : GateList) (off : Nat) : Option Nat :=
  let r := gateRun s n k b g (off + g.cycle) 600 off - off
  if g.cycle ≤ r then none else some r

/-- For how long the list in force on port n keeps the gate of class k open from now on. While a port holds the gate states of entry 0
after a step, the entry alone decides (DEDUCED, log entry 108). -/
def gateOpenNow (s : State) (n k : Nat) : Option Nat :=
  let g := gateList s n
  let b := rd s (BBS_GCL_CTRL_OPERBANK n)
  let held := s.bbs.hold.getD n 0 - now s
  if 0 < held then
    if bit (gateEntry s n b 0).1 k then (gateSpan s n k b g 0).map (· + held) else some 0
  else gateSpan s n k b g (gateOffset s n)

/-- For how long, in ns, the gate of class k on port n stays open from now on; none: without end; 0: closed. A pending list decides from
the instant on at which it takes over (R296). -/
def gateOpen (s : State) (n k : Nat) : Option Nat :=
  if classQuenched s n k then some 0
  else if !on s (BBS_GCL_CTRL_GATEEN n) then none
  else
    let r := gateOpenNow s n k
    match s.bbs.pend.getD n none with
    | none => r
    | some g =>
      let d := g.start - now s
      if r.any (fun x => decide (x < d)) then r
      else (gateSpan s n k (1 - rd s (BBS_GCL_CTRL_OPERBANK n)) g 0).map (· + d)

/-- After a step of the time unit each port holds entry 0 until the first cycle start that follows (R296). -/
def gatesStepped (s : State) : State :=
  bbsSet (fun u => { u with hold := (List.range 4).map (fun n =>
    let g := gateList s n
    if g.cycle = 0 then 0 else now s + (g.cycle - gateOffset s n)) }) s

end Sys2Proof.Machine
end

