-- ==== Sys2Proof/Machine/Cores.lean ====
section
/-! DEFINITION. The cores of the slices: their control and status registers (R78, R79, R281), the exceptions that an access
raises (R78, R91, R186, R189), atomic accesses (Table 4.1), the records of the compared streams (R84, R179) and the caches
(R80). What a core's instructions compute is not described by the spec: their register writes arrive as records. -/

namespace Sys2Proof.Machine

open R

/-! One core -/

/-- Core `c` changed: of the participating slices, or of slice k by itself. -/
def coreSet (own : Option (Fin 3)) (c : Nat) (f : Core → Core) (s : State) : State :=
  match own with
  | none => { s with cores := s.cores.set c (f (s.cores.getD c Core.reset)) }
  | some k =>
    let o := s.own.getD k OwnSlice.reset
    { s with own := s.own.set k { o with cores := o.cores.set c (f (o.cores.getD c Core.reset)) } }

/-- Core `c` of the participating slices, or of slice k by itself. -/
def coreOf (s : State) (own : Option (Fin 3)) (c : Nat) : Core :=
  match own with
  | none => s.cores.getD c Core.reset
  | some k => (s.own.getD k OwnSlice.reset).cores.getD c Core.reset

/-! Control and status registers (Table 4.1, R79) -/

/-- misa (Table 4.1). -/
def misa : Nat := 0x800000000010112D

/-- mhartid of core `c` in slice `k`: the number of the core, in Solo mode 4 × k + c. -/
def mhartid (s : State) (k c : Nat) : Nat := if rd s SLC_MODE = 2 then 4 * k + c else c

/-- SLCID of slice `k`: 0, in Solo mode k. -/
def slcid (s : State) (k : Nat) : Nat := if rd s SLC_MODE = 2 then k else 0

/-- The CSRs that hold what was written: fflags, frm and fcsr, the machine-mode registers of privileged architecture 1.12
without the supervisor, TASKST, and the 16 PMP entries. -/
def heldCsr (n : Nat) : Bool :=
  decide (1 ≤ n ∧ n ≤ 3) || [0x300, 0x304, 0x305, 0x306, 0x30A, 0x320, 0x340, 0x341, 0x342, 0x343, 0x344, 0x7C0].contains n
    || n == 0x3A0 || n == 0x3A2 || decide (0x3B0 ≤ n ∧ n < 0x3C0)

/-! Physical memory protection (Table 4.1), with the entries as privileged architecture 1.12 has them (PRESUMED, log entry 129) -/

/-- A CSR of a core as it was written. -/
def csrHeld (c : Core) (n : Nat) : Nat := (Assoc.find n c.csr).getD 0

/-- Configuration byte of entry i: R, W, X, the matching mode in bits [4:3], the lock in bit 7. -/
def pmpCfg (c : Core) (i : Nat) : Nat := bits (csrHeld c (if i < 8 then 0x3A0 else 0x3A2)) (8 * (i % 8)) 8

/-- Address register of entry i as it reads: for the granularity of 4 KiB its low bits are all 1 in a naturally aligned range, and
else 0. -/
def pmpAddr (c : Core) (i : Nat) : Nat :=
  let v := csrHeld c (0x3B0 + i) % 2 ^ 54
  if bits (pmpCfg c i) 3 2 = 3 then Nat.lor v 0x1FF else v / 1024 * 1024

/-- Ones at the low end of a number. -/
def lowOnes : Nat → Nat → Nat
  | 0, _ => 0
  | n + 1, v => if v % 2 = 1 then lowOnes n (v / 2) + 1 else 0

/-- First byte and end of the range of entry i: from the entry before, or naturally aligned; empty while it is off. -/
def pmpRange (c : Core) (i : Nat) : Nat × Nat :=
  let v := pmpAddr c i
  match bits (pmpCfg c i) 3 2 with
  | 1 => (if i = 0 then 0 else 4 * (csrHeld c (0x3B0 + (i - 1)) % 2 ^ 54 / 1024 * 1024), 4 * v)
  | 3 => let n := 2 ^ (lowOnes 54 v + 3); (4 * v / n * n, 4 * v / n * n + n)
  | _ => (0, 0)

/-- The first of the entries from i on that matches a byte of the access. -/
def pmpEntry (c : Core) (a size : Nat) : Option Nat :=
  (List.range 16).find? (fun i => let r := pmpRange c i; decide (r.1 < a + size ∧ a < r.2))

/-- The access works as one of user mode: in user mode, or where mstatus has machine mode load and store as user mode. -/
def asUser (c : Core) : Bool := c.user || (bit (csrHeld c 0x300) 17 && bits (csrHeld c 0x300) 11 2 == 0)

/-- Memory protection lets core `c` load or store `size` bytes: in user mode an entry must permit it, in machine mode a locked one must
not refuse it. -/
def pmpAllows (c : Core) (a size : Nat) (store : Bool) : Bool :=
  match pmpEntry c a size with
  | none => !asUser c
  | some i =>
    let r := pmpRange c i
    decide (r.1 ≤ a ∧ a + size ≤ r.2) && (bit (pmpCfg c i) (b2n store) || (!asUser c && !bit (pmpCfg c i) 7))

/-- What core `c` of slice `k` reads from CSR `n`, in user or machine mode; none: an illegal-instruction exception. satp and every
supervisor CSR are absent (bits [9:8] of the number are 1), and a user-mode access to a machine-mode CSR is illegal. `time` is
the time unit's time in ns, the same in every slice (R78, R281). Identity and performance counters have no stated value: free
values (log entry 3). -/
def csrRead (s : State) (own : Option (Fin 3)) (k c n : Nat) (user : Bool) : Option Nat :=
  let v := csrHeld (coreOf s own c) n
  if bits n 8 2 = 1 ∨ bits n 8 2 = 2 then none
  else if user = true ∧ bits n 8 2 ≠ 0 then none
  else if n = 0x301 then some misa
  else if n = 0xF14 then some (mhartid s k c)
  else if n = 0xFC0 then some (slcid s k)
  else if n = 0xC01 then some (now s)
  else if [0xC00, 0xC02, 0xB00, 0xB02, 0xF11, 0xF12, 0xF13, 0xF15].contains n then some (Config.freeValue s.freeCtr)
  else if 0x3B0 ≤ n ∧ n < 0x3C0 then some (pmpAddr (coreOf s own c) (n - 0x3B0))
  else if heldCsr n then some v
  else none

/-- A CSR write of a core, as a record of it reaches the state: registers that only read keep what they are. -/
def csrWrite (n v : Nat) (c : Core) : Core := if heldCsr n then { c with csr := Assoc.put n (v % 2 ^ 64) c.csr } else c

/-! Exceptions -/

/-- A trap enters machine mode at the address that mtvec gives; mepc, mcause, mtval and mstatus as RISC-V has them (PRESUMED, log
entry 70). -/
def trapEnter (cause tval : Nat) (vectored : Bool) (c : Core) : Core :=
  let ms := (Assoc.find 0x300 c.csr).getD 0
  let ms1 := setBits (setBits (setBits ms 7 1 (bits ms 3 1)) 3 1 0) 11 2 (if c.user then 0 else 3)
  let tv := (Assoc.find 0x305 c.csr).getD 0
  let pc := tv / 4 * 4 + (if vectored && tv % 4 == 1 then 4 * (cause % 64) else 0)
  { c with pc := pc, user := false,
           csr := Assoc.put 0x300 ms1 (Assoc.put 0x341 c.pc (Assoc.put 0x342 cause (Assoc.put 0x343 tval c.csr))) }

/-- Causes: load and store or AMO, misaligned and access fault. -/
def exMisaligned (store : Bool) : Nat := if store then 6 else 4
def exAccess (store : Bool) : Nat := if store then 7 else 5

/-- A core takes an exception of an access at an address. -/
def coreFault (own : Option (Fin 3)) (c cause a : Nat) (s : State) : State := coreSet own c (trapEnter cause a false) s

/-- A core takes an access-fault exception, which is shown to the outside too. -/
def accessFault (own : Option (Fin 3)) (c : Nat) (store : Bool) (a : Nat) (s : State) : State :=
  s |> emit (.accessFault store a) |> coreFault own c (exAccess store) a

/-- Cause of an illegal instruction. -/
def exIllegal : Nat := 2

/-- A core reads a CSR: its value, or the illegal-instruction exception (R78). In Solo mode a slice with tasks of its own reads its own
identity (R79). -/
def csrLoad (own : Option (Fin 3)) (c n : Nat) (s : State) : State :=
  match csrRead s own (own.elim 0 (·.val)) c n (coreOf s own c).user with
  | some v => s |> useFree |> emit (.csrData n v)
  | none => coreSet own c (trapEnter exIllegal 0 false) s

/-! Atomic accesses (Table 4.1) -/

/-- Reservation granule of an address. -/
def granule (a : Nat) : Nat := a / 64 * 64

/-- A load-reserved holds the granule. -/
def reserve (own : Option (Fin 3)) (c a : Nat) (s : State) : State :=
  coreSet own c (fun k => { k with resv := some (granule a) }) s

/-- The core holds the granule of an address. -/
def reserved (s : State) (own : Option (Fin 3)) (c a : Nat) : Bool := (coreOf s own c).resv == some (granule a)

/-- A store to a granule ends every other core's reservation of it, and its own core's where it is a store-conditional. -/
def unreserve (own : Option (Fin 3)) (c a : Nat) (sc : Bool) (s : State) : State :=
  let drop := fun (mine : Bool) (k : Core) =>
    if (mine && sc) || (!mine && k.resv == some (granule a)) then { k with resv := none } else k
  { s with
    cores := s.cores.mapIdx (fun i k => drop (own.isNone && i == c) k)
    own := s.own.mapIdx (fun j o => { o with cores := o.cores.mapIdx (fun i k => drop (own.any (·.val == j) && i == c) k) }) }

/-- A write of another initiator ends the reservations of the granules it reaches. -/
def unreserveAll (a n : Nat) (s : State) : State :=
  let drop := fun (k : Core) => if k.resv.any (fun g => decide (g < a + n ∧ a < g + 64)) then { k with resv := none } else k
  { s with cores := s.cores.map drop, own := s.own.map (fun o => { o with cores := o.cores.map drop }) }

/-- The result of an AMO of `size` bytes on the old value and the operand (RISC-V A extension). -/
def amoValue (op : AmoOp) (size old v : Nat) : Nat :=
  let w := 8 * size
  let x := v % 2 ^ w
  match op with
  | .swap => x
  | .add => (old + x) % 2 ^ w
  | .xor => Nat.xor old x
  | .and => Nat.land old x
  | .or => Nat.lor old x
  | .min => if toSigned w old ≤ toSigned w x then old else x
  | .max => if toSigned w old ≤ toSigned w x then x else old
  | .minu => min old x
  | .maxu => max old x

/-! Records of the compared streams (Tables 4.2, 4.3) -/

/-- A record of stream 1 as its 96 bits. -/
def archWord (r : ArchRec) : Nat :=
  r.core.val * 2 ^ 86 + b2n r.fp * 2 ^ 85 + r.reg.val * 2 ^ 80 + r.seq.toNat * 2 ^ 64 + r.data.toNat

/-- A record of stream 2 as its 128 bits. -/
def storeWord (r : StoreRec) : Nat :=
  r.source.val * 2 ^ 112 + r.be.toNat * 2 ^ 104 + r.addr.toNat * 2 ^ 64 + r.data.toNat

/-- Kind, core or 0b11 for the solver, tag and data of a record of stream 3. -/
def ctlParts (r : CtlRec) : Nat × Nat × Nat × Nat :=
  match r with
  | .csr c n v => (0, c.val, n.toNat, v.toNat)
  | .branch c t v => (1, c.val, b2n t, v.toNat)
  | .jump c k v => (2, c.val, k.val, v.toNat)
  | .acc v => (4, 3, 0, v.toNat)
  | .wacc v => (5, 3, 0, v.toNat)
  | .image sp i v => (6, 3, sp.val * 2 ^ 21 + i.toNat, v.toNat)

/-- A record of stream 3 as its 128 bits. -/
def ctlWord (r : CtlRec) : Nat :=
  let p := ctlParts r
  p.1 * 2 ^ 125 + p.2.1 * 2 ^ 123 + p.2.2.1 * 2 ^ 96 + p.2.2.2

/-- The solver delivers a record (R179). -/
def record (r : CtlRec) (s : State) : State := { s with recs := s.recs ++ [r] }

/-- A register write that a record of stream 1 tells; x0 stays 0. -/
def archApply (own : Option (Fin 3)) (r : ArchRec) (s : State) : State :=
  coreSet own r.core (fun c =>
    if r.fp then { c with f := c.f.set r.reg r.data.toNat }
    else if r.reg = 0 then c
    else { c with x := c.x.set r.reg r.data.toNat }) s

/-- A CSR write, branch or jump that a record of stream 3 tells. A record with a cause is a trap entry, in machine mode. -/
def ctlApply (own : Option (Fin 3)) (r : CtlRec) (s : State) : State :=
  match r with
  | .csr c n v => coreSet own c (csrWrite n.toNat v.toNat) s
  | .branch c _ v => coreSet own c (fun k => { k with pc := v.toNat }) s
  | .jump c cause v => coreSet own c (fun k => { k with pc := v.toNat, user := k.user && cause.val == 0 }) s
  | _ => s

/-- What the records of a slice in a window leave in its cores. -/
def actApply (own : Option (Fin 3)) (a : SliceAct) (s : State) : State :=
  a.control.foldl (fun t r => ctlApply own r t) (a.arch.foldl (fun t r => archApply own r t) s)

/-- A slice in a window in which it does nothing. -/
def SliceAct.still : SliceAct := ⟨[], [], [], [], none⟩

/-! Caches (R80) -/

/-- Lines a cache holds: 32 KiB for each L1, 2 MiB for the L2. -/
def cacheLines (unit : Nat) : Nat := if unit < 8 then 512 else 32768

/-- The slice under which the lines of an access are kept. -/
def cacheSlice (own : Option (Fin 3)) : Nat := own.elim 3 (·.val)

/-- A line enters a cache; a full cache loses one of its lines. Which, the spec does not say: a free value (log entry 3). -/
def cacheEnter (g unit line : Nat) (dirty : Bool) (s : State) : State :=
  let here := fun x : CacheLine => x.slice == g && x.unit == unit
  if s.caches.any (fun x => here x && x.line == line) then
    { s with caches := s.caches.map (fun x => if here x && x.line == line then { x with dirty := x.dirty || dirty } else x) }
  else
    let n := s.caches.countP here
    let s1 := if n < cacheLines unit then s
      else match (s.caches.filter here)[Config.freeValue s.freeCtr % n]? with
        | some x => { useFree s with caches := s.caches.erase x }
        | none => s
    { s1 with caches := ⟨g, unit, line, dirty⟩ :: s1.caches }

/-- An access of core `c` to memory that caches hold may bring its line into the L1 data cache and the L2. Whether it does, the
spec does not say: a free value (log entry 3). -/
def cacheTouch (own : Option (Fin 3)) (c a : Nat) (store : Bool) (s : State) : State :=
  let g := cacheSlice own
  let s1 := useFree s
  if Config.freeBool s.freeCtr then s1 |> cacheEnter g (4 + c) (granule a) store |> cacheEnter g 8 (granule a) store else s1

/-- The caches of the participating slices are invalidated (Tables 4.6 and 5.5, R90). -/
def cacheInval (s : State) : State := { s with caches := s.caches.filter (fun x => x.slice != 3) }

/-- Dirty lines of the participating slices are written back (Table 4.6, step 2). The memory of this model holds every store as soon
as it leaves its slice, so only the mark changes (log entry 5). -/
def cacheClean (s : State) : State :=
  { s with caches := s.caches.map (fun x => if x.slice = 3 then { x with dirty := false } else x) }

/-- No cache of the participating slices holds one of the lines dirty. -/
def linesClean (s : State) (lines : List Nat) : Bool :=
  s.caches.all (fun x => x.slice != 3 || !x.dirty || !lines.contains x.line)

/-- The lines named are invalidated in the participating slices where they are clean (R101). -/
def cacheLinesDrop (lines : List Nat) (s : State) : State :=
  { s with caches := s.caches.filter (fun x => x.slice != 3 || x.dirty || !lines.contains x.line) }

/-! Slices by themselves -/

/-- Slice k goes on by itself, with what the participating slices hold: when it leaves them or is fenced (R89, Table 4.5). -/
def sliceLeaves (k : Nat) (s : State) : State :=
  { s with own := s.own.set k ⟨s.cores, s.sol, s.prog, s.progPages, s.mem.filter (fun c => decide (0x1020000000 ≤ c.1 ∧ c.1 < 0x1020400000))⟩ }

/-- Slice k is reset: cores, solver and caches (Table 4.6, step 1). -/
def sliceReset (k : Nat) (s : State) : State :=
  { s with own := s.own.set k OwnSlice.reset, caches := s.caches.filter (fun x => x.slice != k) }

/-- Each slice of a mask in turn. -/
def eachSlice (m : Nat) (f : Nat → State → State) (s : State) : State :=
  (List.range 3).foldl (fun t k => when (bit m k) (f k) t) s

end Sys2Proof.Machine
end

