-- ==== Sys2Proof/Machine/Image.lean ====
section
/-! DEFINITION. The process image in the image window (R185, R188), the staging of Q (R109, R191), the undo log (R113 to
R117), and element access by the solver. The participating slices hold identical copies of the image, so the model
holds one (log entry 5). -/

namespace Sys2Proof.Machine

open R

/-- Base of the image window. -/
def imgBase : Nat := 0x1020000000
/-- Region addresses of Table 8.1. -/
def imgI : Nat := 0x1020000000
def imgQ : Nat := 0x1020008000
def imgM : Nat := 0x1020010000
def imgE : Nat := 0x1020012000
def imgMark : Nat := 0x1020014000
def imgW : Nat := 0x1020020000
def imgT : Nat := 0x1020040000
def imgC : Nat := 0x1020080000
def imgTpl : Nat := 0x10200A0000
def imgEn : Nat := 0x10200B0000
def imgQC : Nat := 0x1020300000

/-- Operand space codes (Table 7.2). -/
def spI : Nat := 0
def spQ : Nat := 1
def spM : Nat := 2
def spT : Nat := 3
def spC : Nat := 4
def spE : Nat := 5
def spW : Nat := 6
def spK : Nat := 7

/-- Address of a bit space's region (E: the memories). -/
def bitRegion (space : Nat) : Nat :=
  if space = 0 then imgI else if space = 1 then imgQ else if space = 2 then imgM else imgE

/-- Configured planes of a space (R187). -/
def sizePlanes (s : State) (space : Nat) : Nat :=
  match space with
  | 0 => rd s IMG_SIZE0_IPL
  | 1 => rd s IMG_SIZE0_QPL
  | 2 => rd s IMG_SIZE1_MPL
  | 3 => rd s IMG_SIZE2_TPL
  | 4 => rd s IMG_SIZE2_CPL
  | 5 => rd s IMG_SIZE1_EPL
  | 6 => rd s IMG_SIZE2_WPL
  | _ => 0

/-! The undo log -/

/-- Entries the undo log holds (R113). -/
def undoCapacity : Nat := 57344

/-- Slot of the direct-mapped filter for a line: the low 13 bits of the line number (DESIGN CHOICE, log entry 6). -/
def undoSlot (line : Nat) : Nat := (line / 64) % 8192

/-- The filter still holds this line (R115). -/
def undoHit (s : State) (line : Nat) : Bool := Assoc.find (undoSlot line) s.undoFilter == some line

/-- Solver clocks a new entry waits for: at most one entry per 16 fabric clocks (R116). -/
def undoWait (s : State) : Nat :=
  if rd s I.CKP_LASTENT = 0 then 0 else (rd s I.CKP_LASTENT - 1 + 16) - rd s I.LSV_CLKNOW

/-- A new undo log entry with the old contents of the line (R113, R114). -/
def undoAppend (line : Nat) (s : State) : State :=
  let e : LogEntry := ⟨(rd s CKP_SEQ + 1) % 65536, line, true, memRead s line 64⟩
  let n := s.undo.length + 1
  { s with undo := s.undo ++ [e], undoFilter := Assoc.put (undoSlot line) line s.undoFilter }
    |> wr CKP_LOGUSE_ENTRIES n
    |> wr CKP_LOGUSE_PEAK (max n (rd s CKP_LOGUSE_PEAK))

/-- The log is full: the cycle becomes non-rollbackable and the log captures nothing further in this window (R117). -/
def undoFull (s : State) : State :=
  s |> set1 CKP_STATUS_NONRB |> set1 I.CKP_LOGFULL |> raise 67

/-- The first store of the log window to the line at `line` writes an undo log entry (R113, R115, R117). A solver store
that needs an entry too soon after the last one, of whichever store, stalls the solver (R116). -/
def undoLine (bySolver : Bool) (line : Nat) (s : State) : State :=
  if !on s CKP_STATUS_LOGOPEN || on s I.CKP_LOGFULL || undoHit s line then s
  else if s.undo.length ≥ undoCapacity then undoFull s
  else
    let w := undoWait s
    if bySolver then
      s |> undoAppend line |> wr I.LSV_CLKNOW (rd s I.LSV_CLKNOW + w) |> wr I.LSV_STALLNOW (rd s I.LSV_STALLNOW + w)
        |> wr I.CKP_LASTENT (rd s I.LSV_CLKNOW + w + 1)
    else s |> undoAppend line |> wr I.CKP_LASTENT (rd s I.LSV_CLKNOW + 1)

/-- The log is emptied: no entry is in use, and its memory shows the tags with VALID = 0. -/
def undoEmpty (s : State) : State :=
  { s with undo := [], undoFilter := [],
           undoOld := (s.undo ++ s.undoOld.drop s.undo.length).map (fun e => ⟨e.seqlo, e.addr, false, e.data⟩) }
    |> clr I.CKP_LOGFULL |> clr I.CKP_LASTENT

/-- What the log memory shows as entry i (Table 5.2). -/
def undoShown (s : State) (i : Nat) : Option LogEntry := (s.undo ++ s.undoOld.drop s.undo.length)[i]?

/-- REGION of a line (Table 5.3): DDR, shared SRAM, image SRAM. -/
def undoRegion (a : Nat) : Nat := if a < 0x800000000 then 0 else if a < imgBase then 1 else 2

/-- The tag of an entry (Table 5.3). For the image SRAM, LINE is the offset in the image. -/
def undoTag (e : LogEntry) : Nat :=
  b2n e.valid + (if undoRegion e.addr = 2 then e.addr - imgBase else e.addr) / 64 * 64
    + undoRegion e.addr * 2 ^ 44 + e.seqlo % 65536 * 2 ^ 48

/-! Q staging (R109, R191) -/

/-- Line number of an offset in the Q space. -/
def qLine (off : Nat) : Nat := off / 64

/-- The Q byte at offset `off` as a read by the cycle sees it: the working copy of a dirty line, else the committed
copy. -/
def qByte (s : State) (off : Nat) : Byte :=
  if s.qDirty.contains (qLine off) then Memory.read s.mem (imgQ + off) else Memory.read s.mem (imgQC + off)

/-- `n` Q bytes as the cycle sees them. -/
def qBytes (s : State) (off : Nat) : Nat → List Byte
  | 0 => []
  | n + 1 => qByte s off :: qBytes s (off + 1) n

/-- A list of line numbers with one more, rising and without repeats. -/
def insertLine (n : Nat) : List Nat → List Nat
  | [] => [n]
  | m :: l => if n < m then n :: m :: l else if n = m then m :: l else m :: insertLine n l

/-! The copy of a join (R95, Table 4.6) -/

/-- 4 KiB pages that a join copies: 1,024 of the program store, then 768 of the image SRAM. -/
def joinPages : Nat := 1792

/-- Every page has been copied, then the core and solver state, and no page is dirty. -/
def copyDone (s : State) : Bool := decide (rd s I.SLC_COPIED > joinPages) && s.joinDirty.isEmpty

/-- Pages that wait to be copied again. -/
def setDirty (l : List Nat) (s : State) : State := { s with joinDirty := l } |> wr SLC_READMIT_DIRTY (min l.length 0xFFF)

/-- A page that a source slice writes after it was copied is marked dirty (Table 4.6, step 3). -/
def joinMark (page : Nat) (s : State) : State :=
  if rd s SLC_READMIT_PHASE = 2 ∧ page < rd s I.SLC_COPIED then setDirty (insertLine page s.joinDirty) s else s

/-- The next 4 KiB are copied: of the first pass, with the core and solver state as its last 4 KiB, and then dirty pages, the lowest
first. -/
def copyUnit (s : State) : State :=
  if rd s I.SLC_COPIED ≤ joinPages then inc I.SLC_COPIED s else setDirty (s.joinDirty.drop 1) s

/-- 2 ns of a join: the reset of the joining slice takes 10 µs; then, while nothing stops it, the copy moves 4 KiB in 320 ns
(12.8 GB/s). -/
def copyClock (s : State) : State :=
  let t := rd s I.SLC_CPT + 2
  if rd s SLC_READMIT_PHASE = 1 then
    if t < 10000 then wr I.SLC_CPT t s else s |> clr I.SLC_CPT |> wr SLC_READMIT_PHASE 2 |> cacheClean
  else if rd s SLC_READMIT_PHASE = 2 ∧ on s I.SLC_COPYSTOP = false then
    if t < 320 then wr I.SLC_CPT t s else s |> clr I.SLC_CPT |> copyUnit
  else s

/-- After a commit point the core and solver state is copied again, until the copy is complete (R95). -/
def copyState (s : State) : State :=
  when (rd s SLC_READMIT_PHASE == 2 && decide (rd s I.SLC_COPIED > joinPages)) (wr I.SLC_COPIED joinPages) s

/-- Number of the 4 KiB page of image SRAM at an address, after the 1,024 pages of the program store (R95). -/
def imgPage (a : Nat) : Nat := 1024 + (a - imgBase) / 4096

/-- A store by the cycle to the Q working copy: a clean line is first copied from the committed copy (R191). -/
def qStore (off : Nat) (bs : List Byte) (s : State) : State :=
  let l := qLine off
  let s1 := if s.qDirty.contains l then s
    else { memWrite (imgQ + 64 * l) (memRead s (imgQC + 64 * l) 64) s with qDirty := insertLine l s.qDirty }
  memWrite (imgQ + off) bs s1

/-! Elements as the cycle reads and writes them -/

/-- The bytes at an image address as a read by the cycle sees them. -/
def cycBytes (s : State) (a n : Nat) : List Byte :=
  if imgQ ≤ a ∧ a < imgM then qBytes s (a - imgQ) n else memRead s a n

/-- A solver image write: staged for Q, undo-logged for every other space (R109, R113). -/
def solStore (a : Nat) (bs : List Byte) (s : State) : State :=
  if imgQ ≤ a ∧ a < imgM then s |> joinMark (imgPage a) |> qStore (a - imgQ) bs
  else s |> joinMark (imgPage a) |> undoLine true (a / 64 * 64) |> memWrite a bs

/-- A bit element of I, Q, M or E as the cycle reads it. -/
def readBit (s : State) (space i : Nat) : Bool :=
  bit (leBytes (cycBytes s (bitRegion space + i / 8) 1)) (i % 8)

/-- A bit plane of I, Q, M or E as the cycle reads it. -/
def readPlane (s : State) (space p : Nat) : Plane :=
  BitVec.ofNat 64 (leBytes (cycBytes s (bitRegion space + 8 * p) 8))

/-- A solver store of one bit element. -/
def writeBit (space i : Nat) (b : Bool) (s : State) : State :=
  let a := bitRegion space + i / 8
  solStore a (bytesLE 1 (setBits (leBytes (cycBytes s a 1)) (i % 8) 1 (b2n b))) s

/-- A solver store of the lanes of a bit plane that `m` selects. One that selects no lane is still a store to its line (DESIGN CHOICE,
log entry 135). -/
def writePlane (space p : Nat) (m v : Plane) (s : State) : State :=
  let old := readPlane s space p
  solStore (bitRegion space + 8 * p) (bytesLE 8 ((old &&& ~~~m ||| v &&& m).toNat)) s

/-- A word of W. -/
def readW (s : State) (i : Nat) : Word := BitVec.ofNat 32 (leBytes (memRead s (imgW + 4 * i) 4))

/-- A solver store of a word of W. -/
def writeW (i : Nat) (v : Word) (s : State) : State := solStore (imgW + 4 * i) (bytesLE 4 v.toNat) s

/-- The two 64-bit halves of a timer or counter state word. -/
def stateWord (s : State) (a : Nat) : Nat × Nat := (memNat s a 8, memNat s (a + 8) 8)

/-- A solver store of a state word. -/
def putStateWord (a : Nat) (w : Nat × Nat) (s : State) : State :=
  solStore a (bytesLE 8 w.1 ++ bytesLE 8 w.2) s

/-- Address of timer i, of counter i. -/
def timerAddr (i : Nat) : Nat := imgT + 16 * i
def counterAddr (i : Nat) : Nat := imgC + 16 * i

/-- Output Q of timer i (Table 8.5), of counter i (Table 8.6). -/
def timerQ (s : State) (i : Nat) : Bool := bit (stateWord s (timerAddr i)).1 62
def counterQ (s : State) (i : Nat) : Bool := bit (stateWord s (counterAddr i)).2 63

end Sys2Proof.Machine
end

