-- ==== Sys2Proof/Machine/Operands.lean ====
section
/-! DEFINITION. The operand forms of the Sheaf instruction set (R156 to R163): lanes and the instance mask, what a space
permits, index limits, bit and word operands, templates. -/

namespace Sys2Proof.Machine

open R

/-- All 64 lanes equal to b (R158). -/
def broadcast (b : Bool) : Plane := if b then BitVec.allOnes 64 else 0

/-- The plane whose lane k is `f k`. -/
def ofLanes (f : Nat → Bool) : Plane :=
  (List.range 64).foldl (fun v k => if f k then v ||| (1#64 <<< k) else v) 0

/-- Lane k of a plane. -/
def lane (v : Plane) (k : Nat) : Bool := v.getLsbD k

/-- The solver runs a template body (R157). -/
def inTemplate (s : State) : Bool := on s LSV_STATUS_CTX

/-- The instance mask: lane 0 in scalar context, the selection's mask in template context (R157). -/
def mask (s : State) : Plane :=
  if inTemplate s then (match s.sol.sel with | some t => t.mask | none => 0) else 1

/-- The lowest and the highest lane of the mask (R166). -/
def lowLane (m : Plane) : Option Nat := (List.range 64).find? (lane m)
def highLane (m : Plane) : Option Nat := ((List.range 64).reverse).find? (lane m)

/-- Base and count of the running template's planes of a space (R192). -/
def tplPlanes (s : State) (space : Nat) : Nat × Nat :=
  match s.sol.sel with
  | some t => t.planes.getD space (0, 0)
  | none => (0, 0)

/-- Absolute plane of a plane operand. -/
def absPlane (s : State) (o : Opnd) : Nat := (tplPlanes s o.space).1 + o.index

/-- SPACE fault of a bit operand that is read (R161): K or W in plane form, or any plane form in scalar context. -/
def bitReadSpaceBad (s : State) (o : Opnd) : Bool :=
  o.p && (!inTemplate s || o.space == spK || o.space == spW)

/-- The limit of a scalar index (R162). -/
def scalarLimit (s : State) (space : Nat) (asBit : Bool) : Nat :=
  if space = spK then (if asBit then 2 else 2 ^ 21)
  else if space = spW ∧ asBit then 32 * (64 * sizePlanes s space)
  else 64 * sizePlanes s space

/-- RANGE fault of an operand (R162). -/
def rangeBad (s : State) (o : Opnd) (asBit : Bool) : Bool :=
  if o.p then decide (o.index ≥ (tplPlanes s o.space).2)
  else decide (o.index ≥ scalarLimit s o.space asBit)

/-- The bit that a scalar operand reads (Table 7.2). -/
def scalarBit (s : State) (o : Opnd) : Bool :=
  if o.space = spT then timerQ s o.index
  else if o.space = spC then counterQ s o.index
  else if o.space = spW then (readW s (o.index / 32)).getLsbD (o.index % 32)
  else if o.space = spK then o.index == 1
  else readBit s o.space o.index

/-- The plane that a plane operand reads: of timers and counters, their outputs. -/
def planeBits (s : State) (o : Opnd) : Plane :=
  let p := absPlane s o
  if o.space = spT then ofLanes (fun k => timerQ s (64 * p + k))
  else if o.space = spC then ofLanes (fun k => counterQ s (64 * p + k))
  else readPlane s o.space p

/-- A bit operand: broadcast or plane (R158). -/
def bitOperand (s : State) (o : Opnd) : Plane :=
  if o.p then planeBits s o else broadcast (scalarBit s o)

/-- The operand x after inversion by N (R160). -/
def bitX (s : State) (o : Opnd) : Plane := if o.n then ~~~ bitOperand s o else bitOperand s o

/-- ACC as a store, edge, timer or counter instruction reads it (R160). -/
def accA (s : State) (o : Opnd) : Plane := if o.n then ~~~ s.sol.acc else s.sol.acc

/-- The signed value of a word. -/
def wInt (v : Word) : Int := v.toInt

/-- sat() of R174. -/
def sat32 (x : Int) : Word := BitVec.ofInt 32 (satSigned 32 x)

/-- INDEX of a K operand as a word: sign-extended from bit 20 (Table 7.2). -/
def kWord (index : Nat) : Word := BitVec.ofInt 32 (toSigned 21 index)

/-- The scalar word operand: a W word or a K immediate; for T the elapsed time, for C the count (Table 7.2). -/
def wordOperand (s : State) (o : Opnd) : Word :=
  if o.space = spK then kWord o.index
  else if o.space = spT then BitVec.ofNat 32 (bits (stateWord s (timerAddr o.index)).2 32 32)
  else if o.space = spC then BitVec.ofNat 32 (bits (stateWord s (counterAddr o.index)).1 0 32)
  else readW s o.index

/-- Whether a target or a pc lies in an active page of the program (R176). -/
def inProgram (s : State) (i : Nat) : Bool := s.progPages.contains (i / 1024)

/-- The instruction at pc can be fetched: it lies in the program store and in an active page (R176). -/
def fetchOk (s : State) : Bool := !on s I.LSV_PCOUT && inProgram s (rd s LSV_STATUS_PC)

/-- The instruction word of an opcode and its operand (Table 7.1). -/
def insWord (op : Nat) (o : Opnd) : Nat :=
  op % 64 * 2 ^ 26 + o.space % 8 * 2 ^ 23 + b2n o.n * 2 ^ 22 + b2n o.p * 2 ^ 21 + o.index % 2 ^ 21

/-- An instruction without operand has SPACE, N, P and INDEX all 0 (R160). -/
def noOperandBad (o : Opnd) : Bool := o.space != 0 || o.n || o.p || o.index != 0

/-- A jump, call or TRUN has SPACE 0, P 0 and INDEX[20] 0 (R175); all but JMPC have N 0 (R160). -/
def targetBad (o : Opnd) (nAllowed : Bool) : Bool :=
  o.space != 0 || o.p || decide (o.index ≥ 2 ^ 20) || (o.n && !nAllowed)

/-- Address of the descriptor of template t in the active bank (R192). -/
def tplAddr (s : State) (t : Nat) : Nat := imgTpl + 0x8000 * rd s CYC_CHG_BANK + 64 * t

/-- The base and count of a space's planes in word `w` of a descriptor, at bit `lo` (Table 8.4). -/
def tplField (s : State) (a w lo : Nat) : Nat × Nat :=
  let v := memNat s (a + 8 * w) 8
  (bits v lo 16, bits v (lo + 16) 16)

/-- A descriptor is valid. -/
def tplValid (s : State) (t : Nat) : Bool := bit (memNat s (tplAddr s t) 8) 63

/-- What TSEL loads: the mask ENABLE[t] AND (2^COUNT − 1), and the planes (R193, R192). -/
def tplLoad (s : State) (t : Nat) : Selection :=
  let a := tplAddr s t
  let count := bits (memNat s a 8) 56 7
  let m := memNat s (imgEn + 8 * t) 8 % 2 ^ (min count 64)
  ⟨t, BitVec.ofNat 64 m,
   [tplField s a 1 0, tplField s a 1 32, tplField s a 2 0, tplField s a 3 0, tplField s a 3 32, tplField s a 2 32,
    tplField s a 4 0, (0, 0)]⟩

end Sys2Proof.Machine
end

