-- ==== Sys2Proof/Machine/ForceList.lean ====
section
/-! DEFINITION. Binding tables (R202), the force list (R147, R149) and committed outputs as readers outside the cycle see
them (R148). -/

namespace Sys2Proof.Machine

open R

/-! Binding tables (R202) -/

/-- Elements that a binding entry covers, as space, first element and count; a template binding covers planes of its
template. -/
def bindRange (s : State) (bank e : Nat) : Nat × Nat × Nat :=
  let sp := bits e 61 3
  let idx := bits e 32 21
  let cnt := bits e 64 21
  if bit e 60 then
    let t := bits e 86 9
    let a := imgTpl + 0x8000 * bank + 64 * t
    let f := match sp with
      | 0 => tplField s a 1 0 | 1 => tplField s a 1 32 | 2 => tplField s a 2 0 | 3 => tplField s a 3 0
      | 4 => tplField s a 3 32 | 5 => tplField s a 2 32 | _ => tplField s a 4 0
    (sp, 64 * f.1 + idx, cnt)
  else (sp, idx, cnt)

/-- The k-th entry of the binding table of a bank. -/
def bindEntry (s : State) (bank k : Nat) : Nat := memNat s (16 * rd s (IMG_BIND_BASE bank) + 16 * k) 16

/-- An address is bound in the active table. -/
def isBound (s : State) (space index : Nat) : Bool :=
  let b := rd s CYC_CHG_BANK
  (List.range (rd s (IMG_BIND_ENTRIES b))).any (fun k =>
    let r := bindRange s b (bindEntry s b k)
    r.1 == space && decide (r.2.1 ≤ index ∧ index < r.2.1 + r.2.2))

/-! The force list (Table 6.22) -/

/-- Forces the module holds at most (R147). -/
def forceMax : Nat := 1024

/-- The place of the force on an address. -/
def forceFind (s : State) (space index : Nat) : Option Nat :=
  (List.range forceMax).find? (fun i =>
    on s (CYC_FORCE_VALID i) && rd s (CYC_FORCE_SPACE i) == space && rd s (CYC_FORCE_INDEX i) == index)

/-- The first free place. -/
def forceFree (s : State) : Option Nat := (List.range forceMax).find? (fun i => !on s (CYC_FORCE_VALID i))

/-- FRC and CYC_FORCECNT follow the list. -/
def forceCount (s : State) : State :=
  let n := ((List.range forceMax).filter (fun i => on s (CYC_FORCE_VALID i))).length
  let u := (List.range forceMax).any (fun i => on s (CYC_FORCE_VALID i) && on s (CYC_FORCE_UNBOUND i))
  s |> wr CYC_FORCECNT_COUNT n |> wr CYC_FORCECNT_UNBOUND (b2n u) |> wr CYC_STATE_FRC (b2n (n != 0))

/-- IMG writes a forced I, M or W value into the image (R148); a Q force is an overlay and writes nothing. -/
def forceWrite (space index value : Nat) (s : State) : State :=
  if space = spQ then s
  else if space = spW then memPut (imgW + 4 * index) 4 value s
  else
    let a := bitRegion space + index / 8
    memPut a 1 (setBits (memNat s a 1) (index % 8) 1 value) s

/-- The forced value of a Q address. -/
def forcedQ (s : State) (index : Nat) : Option Bool :=
  (forceFind s spQ index).map (fun i => bit (rd s (CYC_FORCE_VALUE i)) 0)

/-- A committed output as every reader outside the cycle sees it: the committed copy with the force overlay (R148). -/
def committedQ (s : State) (index : Nat) : Bool :=
  (forcedQ s index).getD (bit (memNat s (imgQC + index / 8) 1) (index % 8))

end Sys2Proof.Machine
end

