-- ==== Sys2Proof/Machine/Access.lean ====
section
/-! DEFINITION. The register space (R5 to R11, R498 to R501, R512): which register an address reaches, the order of the
error codes, who may write a field, and the register values as an access reads them. -/

namespace Sys2Proof.Machine

open R

/-! Fabric error codes (Table 0.4) -/

def fOK : Nat := 0
def fSIZE : Nat := 1
def fDECODE : Nat := 2
def fABSENT : Nat := 5
def fOFF : Nat := 6
def fROLE : Nat := 7
def fLOCK : Nat := 8

/-! Blocks (Table 21.3, Table 1.2) -/

/-- Base of register space. -/
def regSpace : Nat := 0x1080000000

/-- Block number of an address in register space (R499). -/
def blockOf (a : Nat) : Nat := (a - regSpace) / 0x10000

/-- The registers of a block. -/
def regsOf (b : Nat) : List RegDesc :=
  if b = 0x00 then regsSYS else if b = 0x01 then regsSLC else if b = 0x02 then regsWNW else if b = 0x03 then regsCKP
  else if b = 0x04 then regsCYC else if b = 0x05 then regsLSV else if b = 0x06 then regsIMG
  else if b = 0x07 then regsTMR
  else if 0x10 ≤ b ∧ b ≤ 0x13 then regsJLA
  else if b = 0x20 then regsTIM else if b = 0x21 then regsBBS else if b = 0x22 then regsHBR
  else if b = 0x23 then regsCGW else if b = 0x24 then regsDMA else if b = 0x25 then regsFIO
  else if b = 0x26 then regsSFU else if b = 0x27 then regsPAIR else if b = 0x28 then regsEVC
  else if b = 0x29 then regsGLN else if b = 0x2A then regsGRN else if b = 0x2B then regsUPD
  else if b = 0x2C then regsACC else if b = 0x2D then regsPWR else []

/-- The island of a block; 0 for a block that is always on (Table 1.2, R74). -/
def islandOf (b : Nat) : Nat :=
  if b = 0x02 then 7 else if b = 0x05 then 4
  else if b = 0x01 ∨ b = 0x03 ∨ b = 0x04 ∨ b = 0x06 ∨ b = 0x07 ∨ b = 0x23 ∨ b = 0x24 ∨ b = 0x26 ∨ b = 0x28 then 8
  else if 0x10 ≤ b ∧ b ≤ 0x13 then b - 0x10 + 15
  else if b = 0x20 then 19 else if b = 0x21 then 11 else if b = 0x22 then 10 else if b = 0x25 then 20
  else 0

/-! Finding a register -/

/-- Indices of the copy that an offset from copy 0 reaches, and what is left of the offset. -/
def matchDims : List (Nat × Nat) → Nat → Option (List Nat × Nat)
  | [], o => some ([], o)
  | (n, st) :: ds, o =>
    let i := o / st
    if i < n then (matchDims ds (o - i * st)).map (fun p => (i :: p.1, p.2)) else none

/-- A register that an access reaches: its description, the indices of the copy, the distance from copy 0, and which
half a 4-byte access reaches: none for a whole register. -/
structure Hit where
  desc : RegDesc
  ix : List Nat
  shift : Nat
  high : Bool
  deriving DecidableEq, Repr

/-- The copy of a described register that lies at an address. -/
def hitOf (a : Nat) (d : RegDesc) : Option Hit :=
  if a < d.base then none
  else match matchDims d.dims (a - d.base) with
    | none => none
    | some (ix, r) =>
      if r = 0 then some ⟨d, ix, a - d.base, false⟩
      else if r = 4 ∧ d.is64 then some ⟨d, ix, a - d.base - 4, true⟩
      else none

/-- The register that the 4 bytes at an address belong to. -/
def findReg (a : Nat) : Option Hit := (regsOf (blockOf a)).findSome? (hitOf a)

/-- What an access of 4 or 8 aligned bytes reaches: one half of a 64-bit register, or whole registers with the place of
their bits in the data (R5, R6). -/
inductive Reach where
  | half (h : Hit)
  | whole (l : List (Hit × Nat))
  deriving DecidableEq, Repr

/-- Decode of an access (R5, R498). -/
def reach (a size : Nat) : Option Reach :=
  if size = 4 then (findReg a).map (fun h => if h.desc.is64 then .half h else .whole [(h, 0)])
  else match findReg a with
    | none => none
    | some h =>
      if h.desc.is64 then some (.whole [(h, 0)])
      else (findReg (a + 4)).map (fun g => .whole [(h, 0), (g, 32)])

/-- Code of an access before any field is looked at, in the order of R11. -/
def accessCode (s : State) (a size : Nat) : Nat :=
  if !(size == 4 || size == 8) || a % size != 0 then fSIZE
  else match reach a size with
    | none => fDECODE
    | some _ =>
      let b := blockOf a
      if b = 0x25 ∧ rd s SYS_IDENT_VARIANT = 2 then fABSENT
      else if islandOf b ≠ 0 ∧ islandOn s (islandOf b) = false then fOFF
      else fOK

/-! Reading -/

/-- What a field reads: an action field reads 0 (Table 0.3), and so do the action bits among the RWO fields; TIM_CLOCKID reads the EUI of
the identity (R275). -/
def readField (s : State) (f : Fld) : Nat :=
  if f.acc = .wo then 0 else if f.key = TIM_CLOCKID.key then rd s SYS_EUI else rd s f

/-- The value of a register. -/
def readReg (s : State) (h : Hit) : Nat :=
  h.desc.fields.foldl (fun v f => v + readField s (f.shift h.shift) * 2 ^ f.lo) 0

/-- Data of a read that reaches registers. -/
def readReach (s : State) (r : Reach) : Nat :=
  match r with
  | .half h => bits (readReg s h) (if h.high then 32 else 0) 32
  | .whole l => l.foldl (fun v p => v + readReg s p.1 * 2 ^ p.2) 0

/-- Data returned with a code (Table 0.4, R74): OFF returns 0x0FF0_0FF0 in each half. -/
def codeData (code size : Nat) : Nat :=
  if code = fOFF then (if size = 8 then 0x0FF00FF00FF00FF0 else 0x0FF00FF0) else 0

/-! Writers (R9) -/

/-- The session that a write is attributed to. -/
def writerSess (w : Writer) : Option Nat :=
  match w with
  | .host => some 0
  | .firmware n => some n
  | _ => none

/-- Initiator code of a report (Table 19.2). -/
def writerInit (w : Writer) : Nat :=
  match w with
  | .host => 2 | .firmware _ => 3 | .userCore => 0 | .dma => 1 | .block => 4

/-- The writer is the owner session, with at least a role (0: any). -/
def writerOwns (s : State) (w : Writer) (role : Nat) : Bool :=
  match writerSess w with
  | some n => isOwner s n && decide (sessRole s n ≥ role)
  | none => false

/-- A write to an RWO field takes effect (R9): the host as owner, or firmware, which applies the rules of the command it
carries out before it writes. -/
def rwoAllowed (s : State) (w : Writer) : Bool :=
  match w with
  | .host => isOwner s 0
  | .firmware _ => true
  | _ => false

/-- The role an action bit is reserved to beside ownership; none for an action that anybody may take. -/
def reservedRole (f : Fld) : Option Nat :=
  let k := f.key
  if k = ACC_LOCK.key then some 2 else if k = ACC_LOCK_UNLOCK.key then some 3
  else if k = EVC_CRITACK_ACK.key then some 2 else if k = EVC_CRITACK_CLR.key then some 3
  else if k = GLN_UCLR_GO.key then some 3 else if k = GLN_PERSIST_GO.key then some 0
  else if k = TIM_SETNS_GO.key then some 2
  else if k = SFU_CFGCTL_LOAD.key then some 2 else if k = SFU_CFGCTL_COMMISSION.key then some 2
  else if k = SFU_CFGCTL_DECOMMISSION.key then some 2
  else if k = WNW_CTRL_INJ_GO.key then some 3
  else if k = PAIR_CTRL_SWITCH.key then some 2
  else none

/-- Actions that serve session 0 alone (R335). -/
def hostOnly (f : Fld) : Bool := f.key == HBR_LOCK_GO.key || f.key == HBR_LOCK_UNLOCK.key

/-- The least role of a CYC command (Table 6.3), which only the owner session may give. -/
def cycRole (cmd : Nat) : Nat := if cmd = 1 ∨ cmd = 2 then 1 else 2

/-- The role beside ownership that a power request needs (Table 3.5): the installer for Drowse and Fallow. -/
def powerRole (v : Nat) : Nat := if v = 2 ∨ v = 3 then 2 else 0

/-- Why a new value of a field is refused, or 0 (Table 0.3, R512): the value counts only if it differs from what the
field reads; a power request counts whatever its target. -/
def fieldCode (s : State) (w : Writer) (f : Fld) (v : Nat) : Nat :=
  if f.key = PWR_REQ_TARGET.key then (if writerOwns s w (powerRole v) then fOK else fROLE)
  else if v % 2 ^ f.width = readField s f then fOK
  else if hostOnly f then (if writerSess w = some 0 ∧ isOwner s 0 = true then fOK else fROLE)
  else if f.key = CYC_CMD.key then (if writerOwns s w (cycRole v) then fOK else fROLE)
  else if f.acc = .rwl ∧ on s ACC_LOCK_ENGAGED then fLOCK
  else if f.acc = .rwo ∧ rwoAllowed s w = false then fROLE
  else match reservedRole f with
    | some r => if writerOwns s w r then fOK else fROLE
    | none => fOK

/-! Reports of failed writes -/

/-- A posted write of the host fails (R330). -/
def hostWriteFails (src code addr : Nat) (s : State) : State :=
  s |> incSat HBR_PWCNT_COUNT 1 |> raiseWith 324 (accessDetail addr code 2) false
    |> when (!on s HBR_PWERR_VALID) (fun t =>
        t |> set1 HBR_PWERR_VALID |> wr HBR_PWERR_SRC src |> wr HBR_PWERR_CODE code |> wr HBR_PWERR_ADDR addr)
    |> set1 HBR_FENCE_FAIL

/-- An initiator that is answered gets an error response (R5, R10). The host's writes are posted (R330), and the DMA's end its
descriptor. -/
def writeAnswer (w : Writer) (addr code : Nat) (s : State) : State :=
  when (code != fOK && w != .host && w != .dma) (emit (.writeError (writerInit w) addr code)) s

/-- A write that did not take full effect is reported: OFF and ABSENT are logged, with event 7 for OFF (R74, R3); a
write of the host counts as a failed posted write (R330), and any other is answered with an error response. -/
def reportWrite (w : Writer) (addr code : Nat) (s : State) : State :=
  s |> when (code == fOFF || code == fABSENT) (raiseWith 7 (accessDetail addr code (writerInit w)) false)
    |> when (code != fOK && w == .host) (hostWriteFails 0 code addr)
    |> writeAnswer w addr code

/-- A refused change of a field is recorded in the audit log (ACTION 0x07), with the register's offset in register space. A writer
without a session is recorded as session 0, with its role and identity (DESIGN CHOICE, log entry 93). -/
def auditWrite (w : Writer) (addr old new : Nat) (s : State) : State :=
  audit 0x07 true ((writerSess w).getD 0) (addr - regSpace) old new s

/-! Locks of the host (R334, R335) -/

/-- A block is locked for the host: between the halves of a 64-bit access, or by HBR_LOCK. -/
def blockLocked (s : State) (b : Nat) : Bool :=
  s.halves.any (fun x => x.writer == .host && blockOf x.addr == b) || (on s HBR_LOCKST_HELD && rd s HBR_LOCKST_BLOCK == b)

/-- A lock breaks: BROKEN, event 330. -/
def lockBroken (s : State) : State := s |> set1 HBR_LOCKST_BROKEN |> raise 330

/-- The half that the host has accessed is dropped, with its lock. -/
def hostHalfDrop (s : State) : State :=
  if s.halves.any (fun x => x.writer == .host) then
    lockBroken { s with halves := s.halves.filter (fun x => x.writer != .host) }
  else s

/-- A register as a write leaves it that writes none of its fields: what it reads, and no W1C bit. -/
def presentValue (s : State) (h : Hit) : Nat :=
  h.desc.fields.foldl (fun v f => if f.acc = .w1c then v else v + readField s (f.shift h.shift) * 2 ^ f.lo) 0

/-- The data of a write that gives fields of one register new values and leaves the others. -/
def fieldsWord (s : State) (h : Hit) (l : List (Fld × Nat)) : Nat :=
  l.foldl (fun v p => setBits v p.1.lo p.1.width p.2) (presentValue s h)

/-- A write of fields of one register waits for a lock of the host. -/
def holdWrite (w : Writer) (l : List (Fld × Nat)) (a : Nat) (s : State) : State :=
  (findReg a).elim s (fun h =>
    { s with heldAcc := s.heldAcc ++ [⟨w, a, if h.desc.is64 then 8 else 4, some (fieldsWord s h l)⟩] })

/-! Rows that write one register -/

/-- LOCK comes before ROLE (R11). -/
def codeJoin (c d : Nat) : Nat := if c = fLOCK ∨ d = fLOCK then fLOCK else if c = fROLE ∨ d = fROLE then fROLE else fOK

/-- A write that was refused in some field is recorded and reported (R512). -/
def refusedWrite (w : Writer) (a : Nat) (l : List (Fld × Nat)) (code : Nat) (s : State) : State :=
  s |> (fun t => (findReg a).elim t (fun h => auditWrite w a (readReg s h) (fieldsWord s h l) t)) |> reportWrite w a code

/-- Access and right of a write to fields of one register, and then its action, which is told the fields that are taken: a refused
field keeps its value, and the others change (R512). -/
def gateFields (w : Writer) (a : Nat) (l : List (Fld × Nat)) (act : (Fld → Bool) → State → State) (s : State) : State :=
  let c := accessCode s a 4
  if c ≠ fOK then reportWrite w a c s
  else
    let code := l.foldl (fun c p => codeJoin c (fieldCode s w p.1 p.2)) fOK
    let taken := fun f : Fld => l.all (fun p => p.1 != f || fieldCode s w p.1 p.2 == fOK)
    s |> when (code != fOK) (refusedWrite w a l code) |> act taken

/-- A write that changes several fields of one register, in a row of its own: it waits for a lock of the host, and breaks in on a
half access of the host. -/
def gateWrites (w : Writer) (l : List (Fld × Nat)) (act : (Fld → Bool) → State → State) (s : State) : State :=
  match l with
  | [] => s
  | p :: _ =>
    if w ≠ .host ∧ blockLocked s (blockOf p.1.addr) = true then holdWrite w l p.1.addr s
    else gateFields w p.1.addr l act (when (w == .host) hostHalfDrop s)

/-- The value that a field has after a write: the new one where it is taken. -/
def takenValue (taken : Fld → Bool) (f : Fld) (v : Nat) (s : State) : Nat := if taken f then v else readField s f

/-- The same for one field. -/
def gateWrite (w : Writer) (f : Fld) (v : Nat) (act : State → State) (s : State) : State := gateWrites w [(f, v)] (fun taken => when (taken f) act) s

end Sys2Proof.Machine
end

