-- ==== Sys2Proof/Machine/Protect.lean ====
section
/-! DEFINITION. Who may write where: the image window (R186, R189, R190), the safety area (R393), the undo log area (R113)
and the Granary (R478), and the memory regions (R497, R498). -/

namespace Sys2Proof.Machine

open R

/-! Regions (Tables 5.2, 8.1, 21.1) -/

/-- The kinds of place that an address lies in. -/
inductive Region where
  | ddr | outbound | sram | safetyArea | undoLog | image | granary | registers | none
  deriving DecidableEq, Repr

/-- The region of an address. -/
def regionOf (a : Nat) : Region :=
  if a < 0x800000000 then .ddr
  else if 0xC00000000 ≤ a ∧ a < 0x1000000000 then .outbound
  else if 0x1000000000 ≤ a ∧ a < 0x1000300000 then .sram
  else if 0x1000300000 ≤ a ∧ a < 0x1000400000 then .safetyArea
  else if 0x1000400000 ≤ a ∧ a < 0x1000800000 then .undoLog
  else if 0x1020000000 ≤ a ∧ a < 0x1020400000 then .image
  else if 0x1040000000 ≤ a ∧ a < 0x1041000000 then .granary
  else if 0x1080000000 ≤ a ∧ a < 0x1090000000 then .registers
  else .none

/-- Areas of the image window (Table 8.1). -/
inductive ImgArea where
  | i | qWork | words | templates | enable | qCommitted | spare
  deriving DecidableEq, Repr

/-- The area of an address of the image window: M, E, marks, W, T and C are `words`. -/
def imgArea (a : Nat) : ImgArea :=
  let o := a - imgBase
  if o < 0x8000 then .i
  else if o < 0x10000 then .qWork
  else if o < 0x16000 then .words
  else if o < 0x20000 then .spare
  else if o < 0xA0000 then .words
  else if o < 0xB0000 then .templates
  else if o < 0xB1000 then .enable
  else if o < 0x300000 then .spare
  else if o < 0x308000 then .qCommitted
  else .spare

/-- An access of permitted size and alignment to memory (R186, R498). -/
def sizeOk (a size : Nat) : Bool := (size == 1 || size == 2 || size == 4 || size == 8) && a % size == 0

/-! The image window, initiators other than the participating slices in the cycle -/

/-- SOURCE of IMG_PROTADDR (Table 8.14); a participating slice in its cycle is 0. -/
def imgSource (i : Initiator) : Nat :=
  match i with
  | .slices => 5 | .otherSlice => 4 | .dma => 1 | .host => 2 | .fio => 3 | .sfu => 6 | .other => 6

/-- A protected-area access is recorded (R189). -/
def protRecord (src a ev : Nat) (s : State) : State :=
  s |> set1 IMG_STATUS_PROT |> wr IMG_PROTADDR_SOURCE src |> wr IMG_PROTADDR_ADDR a |> raise ev

/-- The second column of Table 8.3: a write is made once into every copy, or discarded and recorded; a store of the participating
slices that is not permitted raises event 98, and its core an exception. The image SRAM's spare areas hold nothing. -/
def imgWriteOther (i : Initiator) (a : Nat) (bs : List Byte) (s : State) : State :=
  if imgArea a = .i then
    s |> memWrite a bs |> when (on s CKP_STATUS_LOGOPEN) (fun t => t |> set1 IMG_STATUS_IWIN |> raise 97)
  else if imgArea a = .words ∨ imgArea a = .enable then memWrite a bs s
  else if imgArea a = .spare then s
  else protRecord (imgSource i) a (if i = .slices then 98 else 99) s

/-- A write that the second column of Table 8.3 does not permit. -/
def imgDenied (a : Nat) : Bool :=
  imgArea a == .qWork || imgArea a == .templates || imgArea a == .qCommitted

/-- The islands that a region needs: DDR its controller, the image SRAM the solver of at least one slice, the shared SRAM the fabric.
The Granary is always on (Table 1.2). -/
def regionOn (s : State) (r : Region) : Bool :=
  match r with
  | .ddr => islandOn s 9
  | .sram | .safetyArea | .undoLog => islandOn s 8
  | .image => islandOn s 8 && (islandOn s 4 || islandOn s 5 || islandOn s 6)
  | _ => true

/-- Code of an access to a place of fabric memory: DECODE where nothing lies, OFF where its island is off (R11, R15, R74). -/
def memCode (s : State) (a : Nat) : Nat :=
  match regionOf a with
  | .registers | .outbound | .none => fDECODE
  | .image => if imgArea a = .spare then fDECODE else if regionOn s .image then fOK else fOFF
  | r => if regionOn s r then fOK else fOFF

/-- The byte of the committed copy at an offset, with the force overlay (R148). -/
def overlaidByte (s : State) (off : Nat) : Byte :=
  let b := Memory.read s.mem (imgQC + off)
  if on s CYC_STATE_FRC then
    BitVec.ofNat 8 ((List.range 8).foldl (fun v j => v + b2n ((forcedQ s (8 * off + j)).getD (bit b.toNat j)) * 2 ^ j) 0)
  else b

/-- A byte of the image window as an initiator other than a participating slice in its cycle reads it: the committed copy, and a
clean line of the working area, with forced outputs (R148, R191). -/
def imgByteOther (s : State) (a : Nat) : Byte :=
  match imgArea a with
  | .spare => 0
  | .qCommitted => overlaidByte s (a - imgQC)
  | .qWork => if s.qDirty.contains (qLine (a - imgQ)) then Memory.read s.mem a else overlaidByte s (a - imgQ)
  | _ => Memory.read s.mem a

/-! Memory writes by an initiator that is not a slice in its cycle -/

/-- Who may write the safety area (Table 17.1): SFU the configuration copy and the receive slots, the participating slices
every other part. -/
def safetyRight (i : Initiator) (a : Nat) : Bool :=
  match i with
  | .sfu => decide (a < 0x1000314000 ∨ a = 0x1000319008)
  | .slices => decide (0x1000314000 ≤ a)
  | _ => false

/-- A write of bytes to fabric memory and its code: the safety area discards with event 431, the Granary with event 498
(R393, R478), the undo log area with DECODE (R113). Register space is not memory. -/
def memWriteBy (i : Initiator) (a : Nat) (bs : List Byte) (s : State) : State × Nat :=
  if regionOn s (regionOf a) = false then (s, if regionOf a = .undoLog then fDECODE else memCode s a)
  else match regionOf a with
    | .ddr | .sram => (s |> unreserveAll a bs.length |> memWrite a bs, fOK)
    | .safetyArea => if safetyRight i a then (memWrite a bs s, fOK) else (raise 431 s, fDECODE)
    | .undoLog => (s, fDECODE)
    | .image => (imgWriteOther i a bs s, memCode s a)
    | .granary => (raise 498 s, fDECODE)
    | _ => (s, fDECODE)

/-- The 8-byte tag or the line that the undo log area shows (Table 5.2). -/
def undoAreaByte (s : State) (a : Nat) : Byte :=
  if a < 0x1000470000 then
    let i := (a - 0x1000400000) / 8
    match undoShown s i with
    | some e => (bytesLE 8 (undoTag e)).getD (a % 8) 0
    | none => 0
  else if a < 0x1000480000 then 0
  else
    let i := (a - 0x1000480000) / 64
    match undoShown s i with
    | some e => e.data.getD (a % 64) 0
    | none => 0

/-- A byte of the Granary (Table 20.4): error log, audit log and safety record as they lie there, the spare region 0; the
layout of the other regions is not given, and their bytes are free (log entry 3). -/
def granaryShown (s : State) (a : Nat) : Byte :=
  let o := a - 0x1040000000
  if 0xC00000 ≤ o then 0
  else if (0x20000 ≤ o ∧ o < 0x90000) ∨ (0x500000 ≤ o ∧ o < 0x510000) then Memory.read s.mem a
  else Config.granaryByte s.regs a

/-- One byte of fabric memory as an initiator outside the cycle reads it. -/
def memByteBy (s : State) (a : Nat) : Byte :=
  match regionOf a with
  | .ddr => Memory.read s.mem a
  | .sram => Memory.read s.mem a
  | .safetyArea => Memory.read s.mem a
  | .undoLog => undoAreaByte s a
  | .image => imgByteOther s a
  | .granary => granaryShown s a
  | _ => 0

/-- `n` bytes as read outside the cycle. -/
def memReadBy (s : State) (a : Nat) : Nat → List Byte
  | 0 => []
  | n + 1 => memByteBy s a :: memReadBy s (a + 1) n

end Sys2Proof.Machine
end

