-- ==== Sys2Proof/Machine/JlaLayout.lean ====
section
/-! DEFINITION. The Jalora tables and buffers in DDR: node table (Table 9.6), receive buffers (Table 9.7), transmit buffers
(R225) and counter blocks (Table 9.8). -/

namespace Sys2Proof.Machine

open R

/-- A write of the controller to its tables and buffers, which the fabric may refuse (Table 9.13). -/
def jlaStore (a : Nat) (bs : List Byte) (s : State) : State := (memWriteBy .other a bs s).1

/-- 32-bit word k of node entry n of channel c. -/
def nodeWord (s : State) (c n k : Nat) : Nat := memNat s (64 * rd s (JLA_NODETAB_BASE c) + 16 * n + 4 * k) 4

/-- Entries of the node table: at most 512 (R223). -/
def nodeCount (s : State) (c : Nat) : Nat := min (rd s (JLA_NODETAB_ENTRIES c)) 512

def nodeValid (s : State) (c n : Nat) : Bool := decide (n < nodeCount s c) && bit (nodeWord s c n 0) 31
def nodeAttach (s : State) (c n : Nat) : Nat := bits (nodeWord s c n 0) 29 2
def nodeZero (s : State) (c n : Nat) : Bool := bit (nodeWord s c n 0) 28
def nodeLen (s : State) (c n : Nat) : Nat := bits (nodeWord s c n 0) 11 11
def nodeSlot (s : State) (c n : Nat) : Nat := bits (nodeWord s c n 0) 0 11
def nodeLostN (s : State) (c n : Nat) : Nat := bits (nodeWord s c n 1) 24 8
def nodeOutCnt (s : State) (c n : Nat) : Nat := bits (nodeWord s c n 1) 20 4
def nodeOutPos (s : State) (c n : Nat) : Nat := bits (nodeWord s c n 1) 0 12
def nodeDynId (s : State) (c n : Nat) : Nat := bits (nodeWord s c n 2) 0 11

/-- The valid node entry that owns a static slot. -/
def nodeOfSlot (s : State) (c slot : Nat) : Option Nat :=
  (List.range (nodeCount s c)).find? (fun n => nodeValid s c n && nodeSlot s c n == slot)

/-- Base of receive buffer b, and of the record of node n in it. -/
def rxBase (s : State) (c b : Nat) : Nat := 64 * rd s (JLA_RXBUF_BASE c b)
def rxRecord (s : State) (c b n : Nat) : Nat := rxBase s c b + 0xC0 + rd s (JLA_RECSZ c) * n

/-- One bit of the FRESH (offset 0x40) or PRESENT (offset 0x80) map of receive buffer b. -/
def rxBit (s : State) (c b off n : Nat) : Bool := bit (memNat s (rxBase s c b + off + n / 8) 1) (n % 8)
def putRxBit (c b off n : Nat) (v : Bool) (s : State) : State :=
  let a := rxBase s c b + off + n / 8
  jlaStore a (bytesLE 1 (setBits (memNat s a 1) (n % 8) 1 (b2n v))) s

/-- Base of transmit buffer b; the 8 bytes of output position q lie 8 × q above. -/
def txBase (s : State) (c b : Nat) : Nat := 64 * rd s (JLA_TXBUF_BASE c b)

/-- The buffer that step 8 of Table 1.3 fills: not the one being sent. -/
def txOther (s : State) (c : Nat) : Nat := 1 - rd s (JLA_STATUS_TXBUF c)

end Sys2Proof.Machine
end

