-- ==== Sys2Proof/Machine/Can.lean ====
section
/-! DEFINITION. The CAN FD gateway (R336 to R343): binding, mapping table, containers, latest values, transmit queues. -/

namespace Sys2Proof.Machine

open R

/-- CAN channel n runs. -/
def canOn (s : State) (n : Nat) : Bool := on s CGW_CTRL_EN && on s (CGW_CH_CFG_CHEN n)

/-- Jalora channel and node entry of CAN channel n. -/
def canJch (s : State) (n : Nat) : Nat := rd s (CGW_CH_CFG_JCH n)
def canNode (s : State) (n : Nat) : Nat := rd s (CGW_CH_CFG_NODE n)

/-! Mapping table (Table 14.3) -/

/-- 32-bit word k of mapping entry i. -/
def mapWord (s : State) (i k : Nat) : Nat := memNat s (16 * rd s CGW_MAPBASE_BASE + 16 * i + 4 * k) 4

/-- Mapping entry i as the table gives it; none if it is not in use. -/
def mapEntry (s : State) (i : Nat) : Option CanEntry :=
  let a := mapWord s i 0
  let p := mapWord s i 2
  let d := mapWord s i 3
  if bit a 31 then
    some ⟨i, bits a 29 1, bit a 30, bit a 28, bit a 27, bit a 26, bits a 0 6, bits (mapWord s i 1) 0 29, bits p 16 16,
      bits p 0 15, bit d 31, bits d 0 18, List.replicate (bits a 0 6) 0, false, upNow s, false, committedQ s (bits d 0 18)⟩
  else none

/-- The entries in use: a table holds at most 1,024, and a greater ENTRIES counts as that (DESIGN CHOICE, log entry 136). -/
def mapEntries (s : State) : List CanEntry := (List.range (min 1024 (rd s CGW_MAPBASE_ENTRIES))).filterMap (mapEntry s)

/-- Two entries held for the channels are the same one: the table may have changed between the two enables. -/
def sameEntry (e f : CanEntry) : Bool := e.no == f.no && e.ch == f.ch

/-- Data lengths that R338 permits. -/
def canLenOk (fdf : Bool) (n : Nat) : Bool :=
  decide (n ≤ 8) || (fdf && (n == 12 || n == 16 || n == 20 || n == 24 || n == 32 || n == 48))

/-- An entry lies within the sizes of R187. -/
def mapRangeOk (s : State) (e : CanEntry) : Bool :=
  decide (e.widx + (e.len + 3) / 4 ≤ 64 * rd s IMG_SIZE2_WPL)
    && (if e.tx then decide (e.bidx < 64 * rd s IMG_SIZE0_QPL) else decide (e.bidx + 1 < 64 * rd s IMG_SIZE0_IPL))

/-- The table is valid (R339). -/
def mapOk (s : State) : Bool :=
  let l := mapEntries s
  l.all (fun e => canLenOk e.fdf e.len && mapRangeOk s e)
    && l.all (fun e => l.all (fun f => e.no == f.no
      || !(e.ch == f.ch && e.tx == f.tx && e.ide == f.ide && e.id == f.id)))

/-! Enabling (R337) -/

/-- BIND: the node entry is valid with LEN = 64 and OUTCNT = 8, and its channel is enabled. -/
def canBindOk (s : State) (n : Nat) : Bool :=
  let c := canJch s n
  let k := canNode s n
  on s (JLA_CTRL_EN c) && nodeValid s c k && nodeLen s c k == 64 && nodeOutCnt s c k == 8

/-- TIMING: the ranges of Table 14.7, and the data rate at least the nominal rate. -/
def canTimingOk (s : State) (n : Nat) : Bool :=
  let b := rd s (CGW_CH_NBT_BRPM1 n) + 1
  let t1 := rd s (CGW_CH_NBT_TSEG1M1 n) + 1
  let t2 := rd s (CGW_CH_NBT_TSEG2M1 n) + 1
  let j := rd s (CGW_CH_NBT_SJWM1 n) + 1
  let db := rd s (CGW_CH_DBT_BRPM1 n) + 1
  let d1 := rd s (CGW_CH_DBT_TSEG1M1 n) + 1
  let d2 := rd s (CGW_CH_DBT_TSEG2M1 n) + 1
  let dj := rd s (CGW_CH_DBT_SJWM1 n) + 1
  decide (2 ≤ t1 ∧ 2 ≤ t2 ∧ j ≤ t2 ∧ dj ≤ d2 ∧ db * (1 + d1 + d2) ≤ b * (1 + t1 + t2))

/-- CFGERR of an enable. -/
def canCheck (s : State) (n : Nat) : Nat :=
  if !canBindOk s n then 1 else if !mapOk s then 2 else if !canTimingOk s n then 3 else 0

/-- CHEN written 1: refused with its CFGERR and event 336 + n, or the mapping table is read and the channel runs. -/
def canEnable (n : Nat) (s : State) : State :=
  if on s (CGW_CH_CFG_CHEN n) then s
  else
    let c := canCheck s n
    let s1 := wr (CGW_CH_CFG_CFGERR n) c s
    if c ≠ 0 then raise (336 + n) s1
    else { s1 with canMap := s1.canMap.filter (fun e => e.ch != n) ++ (mapEntries s).filter (fun e => e.ch == n) }
      |> set1 (CGW_CH_CFG_CHEN n) |> clr (I.CGW_COMMITS n)

/-- CHEN written 0: the channel stops; its entries and queue are dropped. -/
def canDisable (n : Nat) (s : State) : State :=
  { s with canMap := s.canMap.filter (fun e => e.ch != n), canQ := s.canQ.filter (fun f => f.ch != n) }
    |> clr (CGW_CH_CFG_CHEN n) |> wr (CGW_CH_STAT_STATE n) 3

/-- A write of CGW_CHn_CFG.CHEN. -/
def canChannelWrite (n : Nat) (en : Bool) (s : State) : State := if en then canEnable n s else canDisable n s

/-- CAN_CHANNEL_ENABLE: CGW_CHn_CFG.CHEN is written. -/
def execCanChannelEnable (w : Writer) (n : Fin 2) (en : Bool) (s : State) : Out :=
  .next (gateWrite w (CGW_CH_CFG_CHEN n) (b2n en) (canChannelWrite n en) s)

/-! Records in containers (R338) -/

/-- A received record: IDE, FDF, identifier and data. -/
structure CanRec where
  ide : Bool
  fdf : Bool
  id : Nat
  data : List Byte
  deriving DecidableEq, Repr

/-- The records of a FRAMES container, at most `n`, from the bytes after its head; a record that does not lie whole in the
container ends the list. -/
def canRecords : Nat → List Byte → List CanRec
  | 0, _ => []
  | n + 1, bs =>
    let h := beBytes (bs.take 4)
    let len := ((bs.drop 4).getD 0 0).toNat
    if bs.length < 5 + len ∨ canLenOk (bit h 31) len = false then []
    else ⟨bit h 29, bit h 31, bits h 0 (if bit h 29 then 29 else 11), (bs.drop 5).take len⟩
      :: canRecords n (bs.drop (5 + len))

/-- The record of an entry with its data. -/
def canRecordBytes (e : CanEntry) (data : List Byte) : List Byte :=
  bytesBE 4 (b2n e.fdf * 2 ^ 31 + b2n e.brs * 2 ^ 30 + b2n e.ide * 2 ^ 29 + e.id) ++ bytesBE 1 e.len ++ data

/-! Reception (R340, R343) -/

/-- A record belongs to a receive entry. -/
def canMatch (n : Nat) (r : CanRec) (e : CanEntry) : Bool :=
  e.ch == n && !e.tx && e.ide == r.ide && e.fdf == r.fdf && e.id == r.id

/-- One record brought in: unmapped, of the wrong length, or the entry's latest value. -/
def canReceive (n : Nat) (s : State) (r : CanRec) : State :=
  let s1 := incSat (CGW_CH_RXCNT_RECEIVED n) 1 s
  match s.canMap.find? (canMatch n r) with
  | none => incSat (CGW_CH_RXCNT_UNMAPPED n) 1 s1
  | some e =>
    if e.len ≠ r.data.length then incSat (CGW_CH_ERRCNT_LENERR n) 1 s1
    else { s1 with canMap := s1.canMap.map (fun f =>
            if sameEntry e f then { f with latest := r.data, fresh := true, last := upNow s } else f) }
      |> when e.fresh (incSat (CGW_CH_TXCNT_OVWR n) 1)

/-- CAN_NODE_STATE_CHANGE: the node's bus state and overflow flag as its container reports them (R343). -/
def canNodeState (n : Nat) (ovf : Bool) (st : Nat) (s : State) : State :=
  s |> when (rd s (CGW_CH_STAT_STATE n) != st && st == 1) (raise (340 + n))
    |> when (rd s (CGW_CH_STAT_STATE n) != st && st == 2) (raise (342 + n))
    |> wr (CGW_CH_STAT_STATE n) st
    |> when ovf (fun t => t |> incSat (CGW_CH_ERRCNT_NODEOVF n) 1 |> raise (344 + n))

/-- One CAN channel reads its node's container in the receive buffer that has just closed. -/
def canRxChannel (b n : Nat) (s : State) : State :=
  let c := canJch s n
  let k := canNode s n
  if rxBit s c b 0x40 k then
    let bs := memRead s (rxRecord s c b k + 16) 64
    let f := (bs.getD 2 0).toNat
    let s1 := s |> canNodeState n (bit f 7) (bits f 0 2) |> wr (CGW_CH_STAT_TEC n) (bs.getD 3 0).toNat
    if (bs.getD 0 0).toNat = 1 then (canRecords (bs.getD 1 0).toNat (bs.drop 4)).foldl (canReceive n) s1 else s1
  else s

/-- CAN_RX_READ after the round start of Jalora channel c: b is the buffer that has just closed. -/
def canRxRead (c b : Nat) (s : State) : State :=
  s |> when (canOn s 0 && canJch s 0 == c) (canRxChannel b 0)
    |> when (canOn s 1 && canJch s 1 == c) (canRxChannel b 1)

/-- The bridge node of node entry k of Jalora channel c is lost (R343). -/
def canNodeLost (c k : Nat) (s : State) : State :=
  (List.range 2).foldl (fun t n =>
    when (canOn t n && canJch t n == c && canNode t n == k)
      (fun u => u |> wr (CGW_CH_STAT_STATE n) 3 |> raise (338 + n)) t) s

/-! Into the image at step 4 (R340) -/

/-- t0 of the newest cycle, in ns. -/
def t0New (s : State) : Nat := (rd s TIM_SEC / 2 ^ 32 * 2 ^ 32 + rd s CYC_T0_SEC) * nsPerS + rd s CYC_T0_NSEC

/-- One bit of the I area written by the gateway. -/
def canBit (i : Nat) (v : Bool) (s : State) : State :=
  let a := imgI + i / 8
  imgWriteOther .other a (bytesLE 1 (setBits (memNat s a 1) (i % 8) 1 (b2n v))) s

/-- Data bytes filled up with zeros to whole words. -/
def padWords (d : List Byte) : List Byte := d ++ List.replicate ((4 - d.length % 4) % 4) 0

/-- One receive entry into its W words, FRESH and TIMEOUT. -/
def canEntryImage (s : State) (e : CanEntry) : State :=
  s |> when (decide (e.len > 0)) (imgWriteOther .other (imgW + 4 * e.widx) (padWords e.latest))
    |> canBit e.bidx e.fresh
    |> canBit (e.bidx + 1) (decide (e.period > 0 ∧ upAt s (t0New s) ≥ e.last + 1000000 * e.period))

/-- CAN_IMAGE_UPDATE: every receive entry of the enabled channels; the new flags clear. -/
def canImageUpdate (s : State) : State :=
  let rx := s.canMap.filter (fun e => !e.tx && canOn s e.ch)
  let s1 := rx.foldl canEntryImage s
  { s1 with canMap := s1.canMap.map (fun e => if !e.tx && canOn s e.ch then { e with fresh := false } else e) }

/-! Transmission at the commit point (R341, R342) -/

/-- A committed W word as the gateway takes it: a forced value if there is one. -/
def committedW (s : State) (i : Nat) : Nat :=
  (forceFind s spW i).elim (memNat s (imgW + 4 * i) 4) (fun k => rd s (CYC_FORCE_VALUE k))

/-- The data bytes of a transmit entry. -/
def canTxData (s : State) (e : CanEntry) : List Byte :=
  (List.range e.len).map (fun j => BitVec.ofNat 8 (bits (committedW s (e.widx + j / 4)) (8 * (j % 4)) 8))

/-- t0 of the committing cycle, in ns. -/
def t0Exec (s : State) : Nat := rd s I.CYC_T0SEC * nsPerS + rd s I.CYC_T0NS

/-- A frame of this entry is due at this commit. -/
def canDue (s : State) (e : CanEntry) : Bool :=
  (decide (e.period > 0) && (!e.queued || decide (upAt s (t0Exec s) ≥ e.last + 1000000 * e.period)))
    || (e.trig && committedQ s e.bidx && !e.prevQ)

/-- A frame enters the queue: in the place of a queued frame of its entry, or at the end while the queue holds fewer than 64
frames (log entry 30). -/
def canQueue (e : CanEntry) (s : State) : State :=
  let f : CanFrame := ⟨e.ch, e.no, canRecordBytes e (canTxData s e)⟩
  if s.canQ.any (fun g => g.ch == e.ch && g.entry == e.no) then
    { s with canQ := s.canQ.map (fun g => if g.ch = e.ch ∧ g.entry = e.no then f else g) }
      |> incSat (CGW_CH_TXCNT_OVWR e.ch) 1
  else if (s.canQ.filter (fun g => g.ch == e.ch)).length < 64 then { s with canQ := s.canQ ++ [f] }
  else s

/-- One transmit entry at a commit. -/
def canTxEntry (s : State) (e : CanEntry) : State :=
  let due := canDue s e
  let s1 := if due then canQueue e s else s
  { s1 with canMap := s1.canMap.map (fun f => if sameEntry e f then
      { f with prevQ := committedQ s e.bidx, queued := f.queued || due, last := if due then upAt s (t0Exec s) else f.last } else f) }

/-- The frames from the head of a queue that fit into `room` bytes. -/
def canFit : List CanFrame → Nat → List CanFrame
  | [], _ => []
  | f :: l, room => if f.bytes.length ≤ room then f :: canFit l (room - f.bytes.length) else []

/-- The 64 bytes of a container. -/
def canContainer (ty n cseq : Nat) (body : List Byte) : List Byte :=
  bytesLE 1 ty ++ bytesLE 1 n ++ [0] ++ bytesLE 1 cseq ++ body ++ List.replicate (60 - body.length) 0

/-- The body of a CONFIG container: the timing and mode registers. -/
def canConfig (s : State) (n : Nat) : List Byte :=
  bytesBE 4 (rd s (CGW_CH_NBT_BRPM1 n) * 2 ^ 27 + rd s (CGW_CH_NBT_TSEG1M1 n) * 2 ^ 19 + rd s (CGW_CH_NBT_TSEG2M1 n) * 2 ^ 12
      + rd s (CGW_CH_NBT_SJWM1 n))
    ++ bytesBE 4 (rd s (CGW_CH_DBT_BRPM1 n) * 2 ^ 27 + rd s (CGW_CH_DBT_TSEG1M1 n) * 2 ^ 16
      + rd s (CGW_CH_DBT_TSEG2M1 n) * 2 ^ 8 + rd s (CGW_CH_DBT_SJWM1 n))
    ++ bytesBE 4 (rd s (CGW_CH_MODE_TDCO n) * 2 ^ 8 + rd s (CGW_CH_MODE_TDC n) * 4 + rd s (CGW_CH_MODE_LISTEN n) * 2
      + rd s (CGW_CH_MODE_FD n))

/-- A container written into the node's output positions of the transmit buffer that step 8 fills. -/
def canWriteContainer (n : Nat) (bs : List Byte) (s : State) : State :=
  let c := canJch s n
  memWrite (txBase s c (txOther s c) + 8 * nodeOutPos s c (canNode s n)) bs s

/-- The container of channel n at this commit: CONFIG in the first commit after an enable and every 256th after it, else
the frames from the head of the queue. -/
def canSend (n : Nat) (s : State) : State :=
  let cseq := (rd s (I.CGW_CSEQ n) + 1) % 256
  let s1 := s |> wr (I.CGW_CSEQ n) cseq |> inc (I.CGW_COMMITS n)
  if rd s (I.CGW_COMMITS n) = 0 then canWriteContainer n (canContainer 2 0 cseq (canConfig s n)) s1
  else
    let fs := canFit (s.canQ.filter (fun f => f.ch == n)) 60
    { s1 with canQ := s1.canQ.filter (fun f => !(f.ch == n && fs.any (fun g => g.entry == f.entry))) }
      |> incSat (CGW_CH_TXCNT_SENT n) fs.length
      |> canWriteContainer n (canContainer 1 fs.length cseq (fs.flatMap (fun f => f.bytes)))

/-- The trigger bits of a commit at which nothing is queued. -/
def canTrack (s : State) : State :=
  { s with canMap := s.canMap.map (fun e => if e.tx && canOn s e.ch then { e with prevQ := committedQ s e.bidx } else e) }

/-- CAN_TX_CONTAINER: at a commit point the gateway queues what is due and writes one container per channel; nothing while the
safe-output signal is asserted. -/
def canTxContainer (s : State) : State :=
  if on s CYC_STATE_SAFEOUT then canTrack s
  else
    let tx := s.canMap.filter (fun e => e.tx && canOn s e.ch)
    let s1 := tx.foldl canTxEntry s
    s1 |> when (canOn s 0) (canSend 0) |> when (canOn s 1) (canSend 1)

/-- The safe-output signal reaches the gateway: its transmit queues are discarded (R342). -/
def canDiscard (s : State) : State := { s with canQ := [] }

/-- CGW_CTRL.EN is written (R75, R346). -/
def cgwEnable (en : Bool) (s : State) : State :=
  if en then
    (if on s CGW_CTRL_EN then s else if on s CGW_CTRL_BUSY_OFF then set1 CGW_CTRL_ENPEND s else set1 CGW_CTRL_EN s)
  else if on s CGW_CTRL_EN then
    { s with canQ := [] } |> clr CGW_CTRL_EN |> set1 CGW_CTRL_BUSY_OFF
  else clr CGW_CTRL_ENPEND s

end Sys2Proof.Machine
end

