-- ==== Sys2Proof/Machine/Fio.lean ====
section
/-! DEFINITION. Local field I/O (R369 to R390): inputs and counters into the image, outputs by precedence, overload and
diagnostics, safe output pairs, enabling. -/

namespace Sys2Proof.Machine

open R

/-! Configuration -/

/-- FIO is enabled and its island answers. -/
def fioActive (s : State) : Bool := on s FIO_CTRL_EN && islandPowered s 20

/-- Mode of a channel (Table 16.1). -/
def chMode (s : State) (n : Nat) : Nat := rd s (FIO_CHCFG_MODE n)

/-- Mode of a counter unit (Table 16.6). -/
def fcMode (s : State) (k : Nat) : Nat := bits (rd s FIO_FCCFG_MODES) (3 * k) 3

/-- Supply of a channel's group: L1+ for CH0 to CH11, L2+ for the rest (R41). -/
def groupOk (s : State) (n : Nat) : Bool := if n < 12 then on s FIO_STATUS_L1OK else on s FIO_STATUS_L2OK

/-- Pair p is in use (R384). -/
def pairUsed (s : State) (p : Nat) : Bool :=
  bit (rd s FIO_PAIRCFG_PEN) p && chMode s (16 + 2 * p) == 3 && chMode s (17 + 2 * p) == 3

/-- FIO_MAP satisfies R372. -/
def fioMapOk (s : State) : Bool :=
  decide (rd s FIO_MAP_IPLANE < rd s IMG_SIZE0_IPL ∧ rd s FIO_MAP_QPLANE < rd s IMG_SIZE0_QPL
    ∧ rd s FIO_MAP_WBASE + 16 < 64 * rd s IMG_SIZE2_WPL)

/-! Driving the outputs -/

/-- The condition of row 3 of Table 16.3 holds. -/
def row3Now (s : State) : Bool :=
  on s CYC_STATE_SAFEOUT || on s FIO_STATUS_WDEXP || on s FIO_STATUS_MAPERR || on s I.FIO_PFSAFE

/-- Row 2 of Table 16.3 for a channel. -/
def row2 (s : State) (n : Nat) : Bool :=
  on s (FIO_CHSTAT_OVL n) || on s (FIO_CHSTAT_LATCH n) || on s (FIO_CHSTAT_OTEMP n)

/-- What a standard output is to be, before row 2: safe value, or command (Table 16.3). -/
def outWanted (s : State) (n : Nat) : Bool :=
  if on s I.FIO_ROW3 then
    (match rd s (FIO_CHCFG_SAFE n) with
     | 1 => true
     | 2 => bit (rd s I.FIO_HOLD) n
     | _ => false)
  else bit (rd s I.FIO_CMD) n

/-- A pair is on (R384). -/
def pairOn (s : State) (p : Nat) : Bool :=
  pairUsed s p && on s (FIO_PAIRSTAT_DEMAND p) && !on s CYC_STATE_SAFEOUT && !on s I.FIO_PFSAFE
    && !on s FIO_STATUS_MAPERR && !on s (FIO_PAIRSTAT_LATCHED p) && !row2 s (16 + 2 * p) && !row2 s (17 + 2 * p)

/-- Whether a channel is to be driven on. -/
def driveWanted (s : State) (n : Nat) : Bool :=
  fioActive s && (if chMode s n = 2 then !row2 s n && outWanted s n
    else if chMode s n = 3 ∧ 16 ≤ n then pairOn s ((n - 16) / 2) else false)

/-- Whether a channel is driven on: without its supply it cannot switch on (R41). -/
def driveOn (s : State) (n : Nat) : Bool := driveWanted s n && groupOk s n

/-- A channel is commanded on, for NOSUP (Table 16.5). -/
def commandedOn (s : State) (n : Nat) : Bool :=
  fioActive s && (if chMode s n = 2 then outWanted s n
    else if chMode s n = 3 ∧ 16 ≤ n then on s (FIO_PAIRSTAT_DEMAND ((n - 16) / 2)) else false)

/-- The fault bit of a channel (R379). -/
def chFault (s : State) (n : Nat) : Bool :=
  on s (FIO_CHSTAT_OVL n) || on s (FIO_CHSTAT_LATCH n) || on s (FIO_CHSTAT_OPEN n) || on s (FIO_CHSTAT_OTEMP n)
    || on s (FIO_CHSTAT_EXTV n) || on s (FIO_CHSTAT_NOSUP n)

/-- A diagnostic flag takes a value; SEEN sets whenever it sets (R379). -/
def setFlag (f : Nat → Fld) (n : Nat) (v : Bool) (s : State) : State :=
  s |> when (v && !on s (f n)) (set1 (FIO_CHSTAT_SEEN n)) |> wr (f n) (b2n v)

/-- The channel has been on for a second since its last turn-off (R376). -/
def cleanSecond (s : State) (n : Nat) : Bool :=
  decide (rd s (I.FIO_OFFT n) ≤ rd s (I.FIO_ONTIME n) ∧ rd s (I.FIO_ONTIME n) + nsPerS ≤ upNow s)

/-- One channel driven: terminal level, time of switching on, NOSUP, current. A channel switched off after a second on without overload
starts its consecutive count again (R376). -/
def driveChannel (s : State) (n : Nat) : State :=
  let d := driveOn s n
  let was := bit (rd s FIO_OUT) n
  s |> wr FIO_OUT (setBits (rd s FIO_OUT) n 1 (b2n d)) |> wr I.FIO_WANT (setBits (rd s I.FIO_WANT) n 1 (b2n (driveWanted s n)))
    |> when (d && !was) (wr (I.FIO_ONTIME n) (upNow s))
    |> when (!d && was && !on s (I.FIO_OVLNOW n) && cleanSecond s n) (clr (I.FIO_CONSEC n))
    |> when ((chMode s n == 2 || chMode s n == 3) && d != was) (wr (I.FIO_LEVEL n) (b2n d))
    |> when (!d) (fun t => t |> clr (FIO_CHSTAT_CURR n) |> clr (I.FIO_OVLNOW n))
    |> setFlag FIO_CHSTAT_NOSUP n (commandedOn s n && !groupOk s n)

/-- FIO_FAULT follows the fault bits. -/
def faultWord (s : State) : State :=
  wr FIO_FAULT ((List.range 24).foldl (fun v n => v + b2n (chFault s n) * 2 ^ n) 0) s

/-- PAIRSTAT.ON follows the pairs. -/
def pairOnBits (s : State) : State :=
  (List.range 4).foldl (fun t p => wr (FIO_PAIRSTAT_ON p) (b2n (fioActive s && pairOn s p && groupOk s 16)) t) s

/-- The hold-last states are captured at the instant a condition of row 3 arises. -/
def row3Arise (s : State) : State :=
  when (row3Now s && !on s I.FIO_ROW3) (fun t => t |> wr I.FIO_HOLD (rd t I.FIO_WANT) |> set1 I.FIO_ROW3) s

/-- Every output takes the state of the first row of Table 16.3 that applies. -/
def fioDrive (s : State) : State :=
  (List.range 24).foldl driveChannel (row3Arise s) |> pairOnBits |> faultWord

/-- No demand is left to the pairs: they stay off until the next one (DESIGN CHOICE, log entry 118). -/
def demandsDrop (s : State) : State := (List.range 4).foldl (fun t p => clr (FIO_PAIRSTAT_DEMAND p) t) s

/-- FIO follows island 20: without it every output is off (R369, R384, Table 16.3). -/
def fioFollow (s : State) : State :=
  when (on s FIO_CTRL_EN) (fun t => t |> when (!islandPowered t 20) demandsDrop |> fioDrive) s

/-- The safe-output signal reaches FIO (R145). -/
def fioSafeOutputs (s : State) : State := when (on s FIO_CTRL_EN) fioDrive s

/-! Inputs (R370) -/

/-- Filter time of an input, in ns (R370). -/
def filterTime (s : State) (n : Nat) : Nat :=
  match rd s (FIO_CHCFG_FILT n) with
  | 0 => 50000 | 1 => 200000 | 2 => 1000000 | 3 => 3000000 | _ => 10000000

/-- The level of a channel at its latch: an input's new level is there after the filter time, and at most 20 µs later, within which
a free value decides (log entry 3). -/
def latchLevel (s : State) (n : Nat) : Bool :=
  let t := rd s (I.FIO_RAWT n) + filterTime s n
  if chMode s n ≠ 1 ∨ upNow s < t then on s (I.FIO_LEVEL n)
  else if t + 20000 ≤ upNow s ∨ bit (Config.freeValue s.freeCtr) n = true then on s (I.FIO_RAW n)
  else on s (I.FIO_LEVEL n)

/-- The latch takes the levels of the inputs. -/
def inputsSettle (s : State) : State :=
  (List.range 24).foldl (fun t n => when (chMode s n == 1) (wr (I.FIO_LEVEL n) (b2n (latchLevel s n))) t) s |> useFree

/-! The image at t0 (R371, R372) -/

/-- Level of an FC input as it reads, after INV; a line fault reads 1 after INV (R383). -/
def fcLevel (s : State) (k : Nat) : Bool :=
  bit (rd s FIO_FCERR_LINE) k || (on s (I.FIO_FCLEVEL k) != bit (rd s FIO_FCCFG_INV) k)

/-- Edge age of a unit at t0 in units of 10 ns, saturating (R382). -/
def fcAge (s : State) (k : Nat) : Nat := min ((upAt s (newT0 s) - rd s (I.FIO_FCTIME k)) / 10) 0xFFFFFFFF

/-- The I plane (Table 16.2). -/
def fioIPlane (s : State) : Nat :=
  let sum (f : Nat → Bool) (n base : Nat) := (List.range n).foldl (fun v k => v + b2n (f k) * 2 ^ (base + k)) 0
  sum (fun n => chMode s n != 0 && on s (I.FIO_LEVEL n)) 24 0 + sum (fcLevel s) 8 24
    + rd s FIO_FAULT * 2 ^ 32 + rd s FIO_FCERR_LINE * 2 ^ 56

/-- W[WBASE + 16] (Table 16.2). -/
def fioStatusWord (s : State) : Nat :=
  b2n (on s FIO_STATUS_L1OK) + 2 * b2n (on s FIO_STATUS_L2OK) + 4 * rd s I.FIO_WDPREV
    + 8 * b2n (on s (FIO_PAIRSTAT_LATCHED 0)) + 16 * b2n (on s (FIO_PAIRSTAT_LATCHED 1))
    + 32 * b2n (on s (FIO_PAIRSTAT_LATCHED 2)) + 64 * b2n (on s (FIO_PAIRSTAT_LATCHED 3))

/-- A word of W written by FIO. -/
def fioW (k v : Nat) (s : State) : State :=
  imgWriteOther .fio (imgW + 4 * (rd s FIO_MAP_WBASE + k)) (bytesLE 4 v) s

/-- FIO_LATCH: levels, counts, ages and diagnostics at the t0 strobe go into the image. With the island switched off, IMG
writes 0 to the I plane and the status word (R372). -/
def fioLatch (s : State) : State :=
  if !on s FIO_CTRL_EN || on s FIO_STATUS_MAPERR then clr I.FIO_WDPREV s
  else
    let ia := imgI + 8 * rd s FIO_MAP_IPLANE
    if !islandPowered s 20 then s |> imgWriteOther .fio ia (bytesLE 8 0) |> fioW 16 0 |> clr I.FIO_WDPREV
    else
      let s0 := inputsSettle s
      let s1 := imgWriteOther .fio ia (bytesLE 8 (fioIPlane s0)) s0
      let s2 := (List.range 8).foldl (fun t k =>
        t |> fioW k (rd s (FIO_FCCNT_COUNT k)) |> fioW (8 + k) (fcAge s k)) s1
      s2 |> fioW 16 (fioStatusWord s) |> clr I.FIO_WDPREV

/-! Refresh (R373 to R375) -/

/-- The watchdog time is the larger of WDT and 2 × P (R375). -/
def fioWdAdj (s : State) : State :=
  wr FIO_STATUS_WDADJ (b2n (decide (2 * rd s CYC_PERIOD > 1000 * rd s FIO_WDT))) s

/-- T of the output refresh watchdog, in ns. -/
def watchdogTime (s : State) : Nat := max (1000000 * rd s FIO_WDT) (2000 * rd s CYC_PERIOD)

/-- A refresh with command 0 clears LATCH and restarts the consecutive count (R376). -/
def refreshLatch (cmd : Nat) (s : State) (n : Nat) : State :=
  when (chMode s n == 2 && !bit cmd n && on s (FIO_CHSTAT_LATCH n))
    (fun t => t |> clr (FIO_CHSTAT_LATCH n) |> clr (FIO_CHSTAT_OVL n) |> clr (I.FIO_CONSEC n)) s

/-- The command plane: Q plane QPLANE of the committed copy with the force overlay (R148, R373). -/
def fioCommands (s : State) : Nat :=
  (List.range 24).foldl (fun v n => v + b2n (committedQ s (64 * rd s FIO_MAP_QPLANE + n)) * 2 ^ n) 0

/-- The current of every channel that is on, which only the load fixes (log entry 3). -/
def fioCurrents (s : State) : State :=
  (List.range 24).foldl (fun t n =>
    when (bit (rd t FIO_OUT) n && !on t (I.FIO_OVLNOW n))
      (wr (FIO_CHSTAT_CURR n) (bits (Config.freeValue s.freeCtr) (8 * n) 8)) t) s |> useFree

/-- FIO_OUTPUT_REFRESH (step 9 of Table 1.3). -/
def fioRefresh (s : State) : State :=
  if !fioActive s || on s FIO_STATUS_MAPERR then s
  else
    let cmd := fioCommands s
    let s1 := s |> fioWdAdj |> clr FIO_STATUS_WDEXP |> wr I.FIO_CMD cmd |> wr I.FIO_REFT (upNow s)
    let s2 := (List.range 24).foldl (refreshLatch cmd) s1
    s2 |> when (!row3Now s2) (clr I.FIO_ROW3) |> fioDrive |> fioCurrents

/-- OUTPUT_WATCHDOG_EXPIRY: no refresh within T while the safe-output signal is released (R375). -/
def execOutputWatchdogExpiry (s : State) : Out :=
  .next (if fioActive s ∧ !on s CYC_STATE_SAFEOUT ∧ !on s FIO_STATUS_WDEXP ∧ rd s I.FIO_REFT + watchdogTime s ≤ upNow s then
    s |> set1 FIO_STATUS_WDEXP |> set1 FIO_STATUS_WDSEEN |> set1 I.FIO_WDPREV |> raise 390 |> fioDrive
  else s)

/-! Overload (R376) -/

/-- OUTPUT_OVERLOAD: an output that is on is overloaded and limited to 1.5 A, 375 units of 4 mA, which saturates CURR. After
1 s on without overload the consecutive count starts again. -/
def execOutputOverload (n : Fin 24) (s : State) : Out :=
  .next (if bit (rd s FIO_OUT) n ∧ !on s (I.FIO_OVLNOW n) then
    s |> set1 (I.FIO_OVLNOW n) |> wr (I.FIO_OVLT n) (upNow s) |> wr (FIO_CHSTAT_CURR n) 0xFF
      |> when (cleanSecond s n) (clr (I.FIO_CONSEC n))
  else s)

/-- A pair's fault is latched (R385): its code, event 393, and both channels off. -/
def pairFault (p code : Nat) (s : State) : State :=
  if on s (FIO_PAIRSTAT_LATCHED p) then s
  else s |> set1 (FIO_PAIRSTAT_LATCHED p) |> wr (FIO_PAIRSTAT_CODE p) code |> raise 393 |> fioDrive

/-- OVERLOAD_TURN_OFF: 200 µs after the overload began the channel is off; the third consecutive time latches it. A pair
member latches code 4 of its pair instead of retrying (R376, Table 16.7). -/
def execOverloadTurnOff (n : Fin 24) (s : State) : Out :=
  .next (if on s (I.FIO_OVLNOW n) && decide (rd s (I.FIO_OVLT n) + 200000 ≤ upNow s) then
    let c := rd s (I.FIO_CONSEC n) + 1
    s |> clr (I.FIO_OVLNOW n) |> wr (I.FIO_OFFT n) (upNow s) |> setFlag FIO_CHSTAT_OVL n true |> incSat (FIO_CHSTAT_OVLCNT n) 1 |> raise 384
      |> (if chMode s n = 3 then pairFault ((n.val - 16) / 2) 4
          else fun t => t |> wr (I.FIO_CONSEC n) c
            |> when (decide (c ≥ 3)) (fun u => u |> setFlag FIO_CHSTAT_LATCH n true |> raise 385))
      |> fioDrive
  else s)

/-- OVERLOAD_RETRY: RETRY ms after it was turned off the channel switches on again if its command is still 1 (R376). -/
def execOverloadRetry (n : Fin 24) (s : State) : Out :=
  .next (if chMode s n = 2 ∧ on s (FIO_CHSTAT_OVL n) ∧ !on s (FIO_CHSTAT_LATCH n) ∧ bit (rd s I.FIO_CMD) n
      ∧ rd s (I.FIO_OFFT n) + 1000000 * rd s FIO_RETRY ≤ upNow s then
    s |> clr (FIO_CHSTAT_OVL n) |> fioDrive
  else s)

/-- LATCH cleared by a write, and the consecutive count restarted (R376). -/
def outputLatchClear (n : Nat) (s : State) : State :=
  if on s (FIO_CHSTAT_LATCH n) then
    s |> clr (FIO_CHSTAT_LATCH n) |> clr (FIO_CHSTAT_OVL n) |> clr (I.FIO_CONSEC n) |> fioDrive
  else s

/-- OUTPUT_LATCH_CLEAR: FIO_CHSTATn.CLR is written 1. -/
def execOutputLatchClear (w : Writer) (n : Fin 24) (s : State) : Out :=
  .next (gateWrite w (FIO_CHSTAT_CLR n) 1 (outputLatchClear n) s)

/-! Inputs and conditions (R370, R377, R378) -/

/-- The level of an input changes; the level before is what the latch has by now. -/
def inputChange (n : Nat) (level : Bool) (s : State) : State :=
  if on s (I.FIO_RAW n) = level then s
  else s |> wr (I.FIO_LEVEL n) (b2n (latchLevel s n)) |> wr (I.FIO_RAW n) (b2n level) |> wr (I.FIO_RAWT n) (upNow s) |> useFree

/-- FIO_INPUT_CHANGE: a level changes, and reaches the latch after the filter time; for an output, the terminal crosses 11 V. -/
def execFioInputChange (n : Fin 24) (level : Bool) (s : State) : Out :=
  .next (if !fioActive s ∨ chMode s n = 0 then s
    else if chMode s n = 1 then inputChange n level s else wr (I.FIO_LEVEL n) (b2n level) s)

/-- OPEN can be detected on this channel (Table 16.5); without supply it reports NOSUP instead (R378). -/
def openApplies (s : State) (n : Nat) : Bool :=
  fioActive s && !on s (FIO_CHSTAT_NOSUP n) && ((chMode s n == 1 && on s (FIO_CHCFG_ODET n))
    || (chMode s n == 2 && (bit (rd s FIO_OUT) n || (!bit (rd s FIO_OUT) n && on s (FIO_CHCFG_ODET n)))))

/-- OPEN_WIRE_DETECT: the condition has held, or has been absent, for 100 ms. -/
def execOpenWireDetect (n : Fin 24) (present : Bool) (s : State) : Out :=
  .next (if present then
    (if openApplies s n ∧ !on s (FIO_CHSTAT_OPEN n) then
      s |> setFlag FIO_CHSTAT_OPEN n true |> raise 386 |> faultWord else s)
  else s |> clr (FIO_CHSTAT_OPEN n) |> faultWord)

/-- EXTERNAL_VOLTAGE_DETECT: an off output has shown external voltage for 10 ms, or none for 100 ms. -/
def execExternalVoltageDetect (n : Fin 24) (present : Bool) (s : State) : Out :=
  .next (if present then
    (if fioActive s ∧ (chMode s n = 2 ∨ chMode s n = 3) ∧ !bit (rd s FIO_OUT) n ∧ !on s (FIO_CHSTAT_EXTV n) then
      s |> setFlag FIO_CHSTAT_EXTV n true |> raise 395 |> faultWord else s)
  else s |> clr (FIO_CHSTAT_EXTV n) |> faultWord)

/-- DRIVER_OVERTEMP: a driver is above +150 °C and held off, or again below +130 °C; on a pair member code 4 is latched
(Table 16.7). -/
def execDriverOvertemp (n : Fin 24) (present : Bool) (s : State) : Out :=
  .next (if present then
    (if fioActive s ∧ (chMode s n = 2 ∨ chMode s n = 3) ∧ !on s (FIO_CHSTAT_OTEMP n) then
      s |> setFlag FIO_CHSTAT_OTEMP n true |> raise 387
        |> when (chMode s n == 3) (pairFault ((n.val - 16) / 2) 4) |> fioDrive
    else s)
  else s |> clr (FIO_CHSTAT_OTEMP n) |> fioDrive)

/-- The terminals of the outputs that are on follow their group's supply. -/
def supplyLevels (l2 present : Bool) (s : State) : State :=
  (List.range 24).foldl (fun t n =>
    when (decide (12 ≤ n) == l2 && bit (rd t FIO_OUT) n) (wr (I.FIO_LEVEL n) (b2n present)) t) s

/-- FIELD_SUPPLY_CHANGE: L1+ or L2+ becomes present (18.5 V) or absent (18.0 V); a pair whose demand is 1 without L2+ latches
code 6 (R378, Table 16.7). -/
def execFieldSupplyChange (l2 present : Bool) (s : State) : Out :=
  let f := if l2 then FIO_STATUS_L2OK else FIO_STATUS_L1OK
  .next (if rd s SYS_IDENT_VARIANT = 2 ∨ on s f = present then s
  else
    let s1 := s |> wr f (b2n present) |> raise (if l2 then 389 else 388)
    (List.range 4).foldl (fun t p =>
      when (l2 && !present && fioActive s && pairUsed s p && on s (FIO_PAIRSTAT_DEMAND p)) (pairFault p 6) t) s1
      |> supplyLevels l2 present |> fioDrive)

/-! Fast inputs (R380 to R383) -/

/-- The count of a unit changes by d, wrapping, and its edge age restarts. -/
def fcCount (k : Nat) (d : Int) (s : State) : State :=
  s |> wr (FIO_FCCNT_COUNT k) (ofSigned 32 ((rd s (FIO_FCCNT_COUNT k) : Int) + d)) |> wr (I.FIO_FCTIME k) (upNow s)

/-- Quadrature step from (a, b) to (a', b'): +1 where the even input leads. -/
def quadStep (a b a' b' : Bool) : Int :=
  if a' != a then (if a' != b then 1 else -1) else if b' != b then (if b' == a then 1 else -1) else 0

/-- The count of unit k after the inputs after INV change from `old` to `new`. A pair mode uses FC(2k) and FC(2k + 1), as R381 has
it; units 4 and 6 then have no input (DEDUCED, log entry 63). -/
def fcEdge (k : Nat) (old new : Nat → Bool) (s : State) : State :=
  let a := 2 * k
  let b := 2 * k + 1
  let rise (i : Nat) := !old i && new i
  let chg (i : Nat) := old i != new i
  let line (i : Nat) := bit (rd s FIO_FCERR_LINE) i
  match fcMode s k with
  | 1 => when (rise k && !line k) (fcCount k 1) s
  | 2 => when (chg k && !line k) (fcCount k 1) s
  | 3 =>
    if line a || line b then s
    else if chg a && chg b then s |> incSat FIO_FCERR_QERR 1 |> raise 391
    else if chg a || chg b then fcCount k (quadStep (old a) (old b) (new a) (new b)) s
    else s
  | 4 => when (rise a && !line a && !line b) (fcCount k (if new b then 1 else -1)) s
  | _ => s

/-- FC_EDGE: in one 100 MHz sample the fast inputs take the levels of `levels`; each unit counts by its mode. -/
def execFcEdge (levels : BitVec 8) (s : State) : Out :=
  let s1 := (List.range 8).foldl (fun t k => wr (I.FIO_FCLEVEL k) (b2n (levels.getLsbD k)) t) s
  .next (if fioActive s then
    (List.range 8).foldl (fun t k => fcEdge k (fcLevel s) (fcLevel s1) t) s1
  else s1)

/-- FC_LINE_FAULT: the differential voltage of a fast input has been too small for 10 µs, or is good again (R383). -/
def execFcLineFault (k : Fin 8) (present : Bool) (s : State) : Out :=
  let l := setBits (rd s FIO_FCERR_LINE) k 1 (b2n present)
  .next (if !fioActive s then s
  else s |> when (present && !bit (rd s FIO_FCERR_LINE) k) (fun t =>
      t |> wr FIO_FCERR_LINESEEN (setBits (rd t FIO_FCERR_LINESEEN) k 1 1) |> raise 392)
    |> wr FIO_FCERR_LINE l)

/-- A counter unit's count is set (R381): a change of the count, so the edge age restarts if the value differs. -/
def fcSet (k v : Nat) (s : State) : State :=
  if rd s (FIO_FCCNT_COUNT k) = v % 2 ^ 32 then s
  else s |> wr (FIO_FCCNT_COUNT k) v |> wr (I.FIO_FCTIME k) (upNow s)

/-- FC_COUNT_SET: FIO_FCSETk is written. -/
def execFcCountSet (w : Writer) (k : Fin 8) (v : Word) (s : State) : Out :=
  .next (gateWrite w (FIO_FCSET_VALUE k) v.toNat (fcSet k v.toNat) s)

/-! Safe output pairs (R384 to R387) -/

/-- PAIR_DEMAND: SFU delivers the demand of pair p (R384). -/
def pairDemand (p : Nat) (d : Bool) (s : State) : State :=
  if !fioActive s || !pairUsed s p then s
  else s |> wr (FIO_PAIRSTAT_DEMAND p) (b2n d) |> wr (I.FIO_DEMT p) (upNow s)
    |> when (d && !on s FIO_STATUS_L2OK) (pairFault p 6) |> fioDrive

/-- The number of the eighth of TPP that runs: the first channel of pair p has the eighth p of each period for its pulse, and the
second one the eighth p + 4 (R385). Periods count from the start of the time unit (DESIGN CHOICE, log entry 128). -/
def testEighth (s : State) : Nat := upNow s / (125000 * max 1 (rd s FIO_PAIRTP_TPP))

/-- PAIR_TEST_PULSE: the channel of an on pair whose turn it is is pulsed off, once in its eighth of TPP, and its readback checked;
`low` tells that its terminal fell below 5 V by the end of the pulse (R385). -/
def execPairTestPulse (p : Fin 4) (low : Bool) (s : State) : Out :=
  .next (if on s (FIO_PAIRSTAT_ON p) && testEighth s % 4 == p && rd s (I.FIO_TPT p) != testEighth s + 1 then
    s |> wr (I.FIO_TPT p) (testEighth s + 1) |> wr (I.FIO_TPNEXT p) (1 - testEighth s / 4 % 2) |> when (!low) (pairFault p 1)
  else s)

/-- A pair fault condition of Table 16.7 can arise in this state. -/
def pairFaultApplies (s : State) (p code : Nat) : Bool :=
  fioActive s && pairUsed s p &&
  (match code with
   | 1 => on s (FIO_PAIRSTAT_ON p)
   | 2 => !on s (FIO_PAIRSTAT_ON p)
   | 3 => on s (FIO_PAIRSTAT_ON p)
   | 4 => row2 s (16 + 2 * p) || row2 s (17 + 2 * p)
   | 6 => on s (FIO_PAIRSTAT_DEMAND p) && !on s FIO_STATUS_L2OK
   | _ => false)

/-- PAIR_FAULT_DETECT: a condition of Table 16.7 has persisted for its time. -/
def execPairFaultDetect (p : Fin 4) (code : Fin 8) (s : State) : Out :=
  .next (if pairFaultApplies s p code then pairFault p code s else s)

/-- PAIR_DEMAND_TIMEOUT: the demand has not been renewed within PWDT ms: the pair is off, with code 5 if the demand was 1
(R384). -/
def execPairDemandTimeout (p : Fin 4) (s : State) : Out :=
  .next (if fioActive s ∧ pairUsed s p ∧ on s (FIO_PAIRSTAT_DEMAND p) ∧ rd s (I.FIO_DEMT p) + 1000000 * rd s FIO_PAIRCFG_PWDT ≤ upNow s then
    pairFault p 5 s else s)

/-- A latched fault clears while the demand is 0, with the overload of the pair's channels (R386). -/
def pairLatchClear (p : Nat) (s : State) : State :=
  if on s (FIO_PAIRSTAT_DEMAND p) || !on s (FIO_PAIRSTAT_LATCHED p) then s
  else [16 + 2 * p, 17 + 2 * p].foldl (fun t n => when (chMode t n == 3) (clr (FIO_CHSTAT_OVL n)) t)
    (s |> clr (FIO_PAIRSTAT_LATCHED p) |> clr (FIO_PAIRSTAT_CODE p)) |> fioDrive

/-- PAIR_LATCH_CLEAR: FIO_PAIRSTATp.CLR is written 1. -/
def execPairLatchClear (w : Writer) (p : Fin 4) (s : State) : Out :=
  .next (gateWrite w (FIO_PAIRSTAT_CLR p) 1 (pairLatchClear p) s)

/-! Enabling (R388, R75) -/

/-- PAIR check: a MODE 3 channel needs its partner in MODE 3 and its pair in use; only CH16 to CH23 form pairs. -/
def fioPairsOk (s : State) : Bool :=
  (List.range 8).all (fun k =>
    chMode s (16 + k) != 3 || (chMode s (16 + (k / 2) * 2 + (1 - k % 2)) == 3 && bit (rd s FIO_PAIRCFG_PEN) (k / 2)))

/-- COUNT check: a pair counter mode lies on an even unit whose odd partner is off. -/
def fioCountsOk (s : State) : Bool :=
  (List.range 8).all (fun k =>
    !(fcMode s k == 3 || fcMode s k == 4) || (k % 2 == 0 && fcMode s (k + 1) == 0))

/-- CFGERR of an enable (R388). -/
def fioCheck (s : State) : Nat := if !fioMapOk s then 1 else if !fioPairsOk s then 2 else if !fioCountsOk s then 3 else 0

/-- FIO is enabled, or the enable is refused. -/
def fioTurnOn (s : State) : State :=
  let c := fioCheck s
  s |> wr FIO_CTRL_CFGERR c |> clr FIO_CTRL_ENPEND
    |> (if c ≠ 0 then raise 394
        else fun t => t |> set1 FIO_CTRL_EN |> clr FIO_STATUS_MAPERR |> clr I.FIO_CMD |> clr I.FIO_ROW3 |> wr I.FIO_REFT (upNow s)
          |> fioWdAdj |> fioDrive)

/-- EN written 1: latched while the shutdown runs, without effect on an enabled block (R75). -/
def fioEnableOn (s : State) : State :=
  if on s FIO_CTRL_EN then s
  else if on s FIO_CTRL_BUSY_OFF then set1 FIO_CTRL_ENPEND s
  else fioTurnOn s

/-- EN written 0: outputs off at once and the shutdown begins; it cancels a pending enable (R75, R388). -/
def fioEnableOff (s : State) : State :=
  if on s FIO_CTRL_EN then
    s |> demandsDrop |> clr FIO_CTRL_EN |> set1 FIO_CTRL_BUSY_OFF
      |> clr FIO_STATUS_WDEXP |> clr I.FIO_CMD |> clr I.FIO_ROW3 |> fioDrive
  else clr FIO_CTRL_ENPEND s

/-- A write of FIO_CTRL.EN. -/
def fioEnable (en : Bool) (s : State) : State := if en then fioEnableOn s else fioEnableOff s

/-- FIO_ENABLE: FIO_CTRL.EN is written. -/
def execFioEnable (w : Writer) (en : Bool) (s : State) : Out :=
  .next (gateWrite w FIO_CTRL_EN (b2n en) (fioEnable en) s)

/-- FIO_MAP_CHECK at the switch of an online change (R372). -/
def fioMapCheck (s : State) : State :=
  if !on s FIO_CTRL_EN then s
  else if fioMapOk s then clr FIO_STATUS_MAPERR s
  else if on s FIO_STATUS_MAPERR then s
  else s |> set1 FIO_STATUS_MAPERR |> raise 394 |> fioDrive

end Sys2Proof.Machine
end

