-- ==== Sys2Proof/Machine/Sfu.lean ====
section
/-! DEFINITION. Safety functions and Safeguard transport (R391 to R420): the configuration record, the safety stage with
connections and axis functions, carriers, commissioning. -/

namespace Sys2Proof.Machine

open R

/-! The configuration record (Tables 17.2 to 17.4), in its copy in the safety area -/

/-- Safety area (Table 17.1). -/
def sfArea : Nat := 0x1000300000
def sfRx (c p : Nat) : Nat := sfArea + 0x10000 + 128 * c + 64 * p
def sfTx (c : Nat) : Nat := sfArea + 0x14000 + 64 * c
def sfStamp : Nat := 0x1000319000
def sfPairs : Nat := 0x1000319008

/-- 32-bit word of a record that starts at `b`. -/
def recW (s : State) (b off : Nat) : Nat := memNat s (b + off) 4

def recNConn (s : State) (b : Nat) : Nat := bits (recW s b 4) 0 8
def recNAxis (s : State) (b : Nat) : Nat := bits (recW s b 4) 16 8

/-- Word of connection entry c and of axis entry a. -/
def cnW (s : State) (b c off : Nat) : Nat := recW s b (0x40 + 48 * c + off)
def axW (s : State) (b a off : Nat) : Nat := recW s b (0x40 + 48 * recNConn s b + 64 * a + off)

/-- Fields of a connection entry. -/
structure CnCfg where
  valid : Bool
  transport : Nat
  autoack : Bool
  l : Nat
  connid : Nat
  conncv : Nat
  wdm : Nat
  seqwin : Nat
  echolim : Nat
  modid : Nat
  partid : Nat
  jch : Nat
  node : Nat
  rxofs : Nat
  opos : Nat
  dstip : Nat
  ports1 : Nat
  ports2 : Nat
  vid : Nat
  mac : Nat
  acksel : Nat
  deriving DecidableEq, Repr

/-- Connection entry c of the record at `b`. -/
def cnCfg (s : State) (b c : Nat) : CnCfg :=
  let w0 := cnW s b c 0
  let w2 := cnW s b c 8
  let w5 := cnW s b c 0x14
  let w6 := cnW s b c 0x18
  ⟨bit w0 31 && decide (c < recNConn s b), bits w0 28 2, bit w0 27, bits w0 16 8, bits w0 0 16, cnW s b c 4, bits w2 16 16,
    bits w2 8 8, bits w2 0 8, cnW s b c 0xC, cnW s b c 0x10, bits w5 28 2, bits w5 16 9, bits w5 0 8, bits w6 0 12, w5,
    bits w6 24 4, bits w6 20 4, bits w6 0 12, cnW s b c 0x1C * 2 ^ 16 + bits (cnW s b c 0x20) 16 16,
    bits (cnW s b c 0x24) 0 16⟩

/-- A JX5 connection. -/
def CnCfg.jx5 (g : CnCfg) : Bool := g.transport == 2

/-- Bytes of safe data of a connection (R406, R415). -/
def CnCfg.safeLen (g : CnCfg) : Nat := if g.jx5 then g.l - 12 else g.l - 16

/-- Fields of an axis entry. -/
structure AxCfg where
  valid : Bool
  slsEn : Bool
  slpEn : Bool
  sdiEn : Bool
  sdiNeg : Bool
  resp : Nat
  tolc : Nat
  posConn : Nat
  posOfs : Nat
  cmdConn : Nat
  cmdOfs : Nat
  vlim : Nat
  vstill : Nat
  pmin : Int
  pmax : Int
  tlook : Nat
  ptol : Nat
  tss1 : Nat
  tss2 : Nat
  slsSel : Nat
  slpSel : Nat
  sdiSel : Nat
  runSel : Nat
  stdEn : Bool
  stdStop : Nat
  ackSel : Nat
  deriving DecidableEq, Repr

/-- Axis entry a of the record at `b`. -/
def axCfg (s : State) (b a : Nat) : AxCfg :=
  let w0 := axW s b a 0
  let w1 := axW s b a 4
  let w8 := axW s b a 0x20
  let w9 := axW s b a 0x24
  let wA := axW s b a 0x28
  let wB := axW s b a 0x2C
  ⟨bit w0 31 && decide (a < recNAxis s b), bit w0 30, bit w0 29, bit w0 28, bit w0 27, bits w0 24 2, bits w0 16 4,
    bits w0 8 7, bits w0 0 6, bits w1 8 7, bits w1 0 6, axW s b a 8, axW s b a 0xC, toSigned 32 (axW s b a 0x10),
    toSigned 32 (axW s b a 0x14), axW s b a 0x18, bits (axW s b a 0x1C) 16 16, bits w8 16 16, bits w8 0 16, bits w9 16 16,
    bits w9 0 16, bits wA 16 16, bits wA 0 16, bit wB 31, bits wB 0 21, bits (axW s b a 0x30) 0 16⟩

/-- Demand source word of pair p. -/
def pairSrc (s : State) (b p : Nat) : Nat := recW s b (0x10 + 4 * p)

/-! Checks of LOAD (R398, R417) -/

/-- FORMAT of a connection entry. -/
def cnFormatOk (g : CnCfg) : Bool :=
  !g.valid || (g.l % 8 == 0 && (if g.jx5 then decide (16 ≤ g.l ∧ g.l ≤ 40) else decide (24 ≤ g.l ∧ g.l ≤ 64))
    && decide (1 ≤ g.wdm ∧ 1 ≤ g.seqwin ∧ g.seqwin ≤ 15 ∧ 1 ≤ g.echolim ∧ g.echolim ≤ 15))

/-- FORMAT of an axis entry. -/
def axFormatOk (s : State) (b : Nat) (x : AxCfg) : Bool :=
  !x.valid || (decide (1 ≤ x.tolc ∧ x.tlook ≤ 1000000 ∧ 1 ≤ x.tss1 ∧ 1 ≤ x.tss2 ∧ x.pmin < x.pmax)
    && (cnCfg s b x.posConn).valid && (cnCfg s b x.cmdConn).valid
    && decide (x.posOfs + 8 ≤ (cnCfg s b x.posConn).safeLen ∧ x.cmdOfs + 1 ≤ (cnCfg s b x.cmdConn).safeLen))

/-- BIND of a connection entry. -/
def cnBindOk (s : State) (g : CnCfg) : Bool :=
  !g.valid || (
    if g.transport = 0 then
      nodeValid s g.jch g.node && decide (g.rxofs + g.l ≤ nodeLen s g.jch g.node)
        && decide (nodeOutPos s g.jch g.node ≤ g.opos
          ∧ g.opos + g.l / 8 ≤ nodeOutPos s g.jch g.node + nodeOutCnt s g.jch g.node)
    else g.ports1 != 0 && (!g.jx5 || (g.ports2 != 0 && Nat.land g.ports1 g.ports2 == 0)))

/-- PAIR: an enabled source on an EVP-JX7-C, or for a pair that is not in use. -/
def pairSrcOk (s : State) (b p : Nat) : Bool :=
  !bit (pairSrc s b p) 31 || (rd s SYS_IDENT_VARIANT != 2 && bit (rd s FIO_PAIRCFG_PEN) p)

/-- RESULT of a LOAD of the record at `b`. -/
def loadResult (s : State) (b : Nat) : Nat :=
  let nc := recNConn s b
  let na := recNAxis s b
  if rd s CYC_STATE ≠ 0 then 1
  else if bits (recW s b 0) 0 16 ≠ 1 ∨ nc > 128 ∨ na > 64 ∨ recW s b 8 ≠ rd s I.SFU_RTID then 2
  else if !((List.range nc).all (fun c => cnFormatOk (cnCfg s b c))
      && (List.range na).all (fun a => axFormatOk s b (axCfg s b a))) then 2
  else if !(List.range nc).all (fun c => cnBindOk s (cnCfg s b c)) then 3
  else if !(List.range 4).all (pairSrcOk s b) then 4
  else 0

/-! CRC (R407) -/

/-- One bit of the 32-bit CRC, most significant first. -/
def crc32Bit (c : Nat) (b : Bool) : Nat :=
  let sh := c * 2 % 2 ^ 32
  if bit c 31 != b then Nat.xor sh 0xF4ACFB13 else sh

/-- One byte. -/
def crc32Byte (c : Nat) (b : Byte) : Nat :=
  (List.range 8).foldl (fun x i => crc32Bit x (b.getLsbD (7 - i))) c

/-- The CRC of bytes from an initial value. -/
def crc32 (init : Nat) (bs : List Byte) : Nat := bs.foldl crc32Byte init

/-- CRC of a PDU's bytes 0 to L − 5: native with the virtual prefix of sender, receiver and CONNCV; JX5 with initial value
CONNCV (R415). -/
def pduCrc (g : CnCfg) (toPartner : Bool) (bs : List Byte) : Nat :=
  if g.jx5 then crc32 g.conncv bs
  else
    let ids := if toPartner then bytesBE 4 g.modid ++ bytesBE 4 g.partid else bytesBE 4 g.partid ++ bytesBE 4 g.modid
    crc32 0xFFFFFFFF (ids ++ bytesBE 4 g.conncv ++ bs)

/-- The CRC of a received PDU matches (R407). -/
def pduCrcOk (g : CnCfg) (bs : List Byte) : Bool := beBytes ((bs.drop (g.l - 4)).take 4) == pduCrc g false (bs.take (g.l - 4))

/-- A received PDU of this connection verifies: CRC, version, kind and CONNID. -/
def pduOk (g : CnCfg) (bs : List Byte) : Bool :=
  pduCrcOk g bs && (if g.jx5 then beBytes (bs.take 2) == g.connid
    else (bs.getD 0 0).toNat == 0x22 && beBytes ((bs.drop 2).take 2) == g.connid)

/-- Fields of a received PDU. -/
def pduFsv (g : CnCfg) (bs : List Byte) : Bool := bit (bs.getD (if g.jx5 then 2 else 1) 0).toNat 7
def pduRst (g : CnCfg) (bs : List Byte) : Bool := bit (bs.getD (if g.jx5 then 2 else 1) 0).toNat 6
def pduSeq (g : CnCfg) (bs : List Byte) : Nat :=
  if g.jx5 then beBytes ((bs.drop 4).take 2) else beBytes ((bs.drop 4).take 4)
def pduEcho (g : CnCfg) (bs : List Byte) : Nat :=
  if g.jx5 then beBytes ((bs.drop 6).take 2) else beBytes ((bs.drop 8).take 4)
def pduData (g : CnCfg) (bs : List Byte) : List Byte :=
  (bs.drop (if g.jx5 then 8 else 12)).take g.safeLen

/-- Modulus of the sequence arithmetic (R409, R415). -/
def seqMod (g : CnCfg) : Nat := if g.jx5 then 2 ^ 16 else 2 ^ 32

/-! Connection state -/

/-- A connection that has not started. -/
def Conn.off : Conn := ⟨0, false, 0, 0, 0, false, [], 0, 0, 0, false, false, false, false, 0, 0, 0, 0⟩

/-- An axis without history. -/
def Axis.idle : Axis := ⟨0, false, 0, 0, false, 0, 0, 0, 0, none, none, false, false, false⟩

/-- State of connection c and of axis a. -/
def connOf (s : State) (c : Nat) : Conn := (Assoc.find c s.safe.conns).getD Conn.off
def axisOf (s : State) (a : Nat) : Axis := (Assoc.find a s.safe.axes).getD Axis.idle

/-- State of connection c, of axis a, set. -/
def putConn (c : Nat) (k : Conn) (s : State) : State :=
  { s with safe := { s.safe with conns := Assoc.put c k s.safe.conns } }
def putAxis (a : Nat) (x : Axis) (s : State) : State :=
  { s with safe := { s.safe with axes := Assoc.put a x s.safe.axes } }

/-- t0 of the executing cycle, in ns. -/
def sfT0 (s : State) : Nat := rd s I.CYC_T0SEC * nsPerS + rd s I.CYC_T0NS

/-- CONNECTION_FAILED: FAILED with its cause (1 sequence, 2 watchdog, 3 partner RST), event 421 (R411). -/
def connFail (c cause : Nat) (s : State) : State :=
  { s with safe := { s.safe with lastConn := c, ccause := cause } }
    |> putConn c { connOf s c with state := 3, count := 0, accepted := false } |> raise 421

/-- The next PDU that verifies sets LAST. -/
def connResync (c : Nat) (s : State) : State := putConn c { connOf s c with haveLast := false, count := 0, accepted := false } s

/-- A sequence error: the connection fails; one that has failed takes LAST from the next PDU that verifies (R409, R411). A JX5
connection fails by its watchdog alone (R416): the copy is discarded, and before RUN, where no watchdog runs and the other path has
brought nothing, LAST is taken anew (DEDUCED, log entry 120). -/
def connSeqError (g : CnCfg) (c : Nat) (s : State) : State :=
  let k := connOf s c
  if g.jx5 then (if (k.state = 1 ∨ k.state = 3) ∧ k.accepted = false then connResync c s else s)
  else s |> when (k.state != 3) (connFail c 1) |> connResync c

/-- A PDU accepted by R409: LAST, ECHO, safe data, and the watchdog if its echo is young enough (R410). -/
def connAccept (g : CnCfg) (c : Nat) (bs : List Byte) (s : State) : State :=
  let k := connOf s c
  let age := (rd s I.CYC_T0SEQ + seqMod g - pduEcho g bs % seqMod g) % seqMod g
  putConn c
    { k with haveLast := true, last := pduSeq g bs, echo := pduSeq g bs, fsv := pduFsv g bs, data := pduData g bs,
             accepted := true, wd := if age ≤ g.echolim then sfT0 s else k.wd } s

/-- A backbone receive slot that no datagram has filled: a datagram reaches it by its CONNID (DEDUCED, log entry 120). -/
def slotEmpty (g : CnCfg) (bs : List Byte) : Bool := g.transport != 0 && bs.all (fun b => b == 0)

/-- PDU_ACCEPT: one received copy checked by CRC and sequence: discarded, and counted where its CRC does not match (R407), accepted, or
a sequence error (R409). On JX5 the other path's copy of a SEQ that one path has brought, which LAST has reached or passed by at most
SEQWIN, is chaff (R416). -/
def connCopy (g : CnCfg) (c : Nat) (bs : List Byte) (s : State) : State :=
  let k := connOf s c
  if slotEmpty g bs then s
  else if !pduCrcOk g bs then putConn c { k with crcErr := k.crcErr + 1 } s
  else if !pduOk g bs then s
  else
    let d := (pduSeq g bs + seqMod g - k.last % seqMod g) % seqMod g
    if !k.haveLast then connAccept g c bs s
    else if d = 0 ∨ (g.jx5 = true ∧ seqMod g - d ≤ g.seqwin) then when g.jx5 (putConn c { k with chaff := k.chaff + 1 }) s
    else if d ≤ g.seqwin then
      (if k.state = 2 ∧ pduRst g bs ∧ g.jx5 = false then connFail c 3 (connAccept g c bs s) else connAccept g c bs s)
    else connSeqError g c s

/-- What path `p` delivered last, as one more than its SEQ. -/
def seenOn (k : Conn) (p : Nat) : Nat := if p = 0 then k.seen1 else k.seen2

/-- Path `p` delivers: event 428 where it was lost (R416). -/
def pathBack (g : CnCfg) (c p : Nat) (bs : List Byte) (s : State) : State :=
  let k := connOf s c
  let n := pduSeq g bs + 1
  let lost := if p = 0 then k.lost1 else k.lost2
  s |> putConn c (if p = 0 then { k with seen1 := n, at1 := sfT0 s, lost1 := false }
      else { k with seen2 := n, at2 := sfT0 s, lost2 := false })
    |> when (g.jx5 && lost) (raise 428)

/-- The receive slot of one path. On a connection with two, a slot that still holds what its path delivered last is that duplicate, and
no older copy of the other path's PDU (DEDUCED, log entry 120). -/
def connPath (g : CnCfg) (c p : Nat) (bs : List Byte) (s : State) : State :=
  let k := connOf s c
  if !pduOk g bs then connCopy g c bs s
  else if g.transport != 0 && k.haveLast && seenOn k p == pduSeq g bs + 1 then s
  else s |> connCopy g c bs |> pathBack g c p bs

/-- Both receive slots of a connection. -/
def connReceive (b c : Nat) (s : State) : State :=
  let g := cnCfg s b c
  let k := connOf s c
  if !g.valid || k.state = 0 then s
  else
    let r1 := memRead s (sfRx c 0) g.l
    let r2 := memRead s (sfRx c 1) g.l
    s |> putConn c { k with accepted := false } |> connPath g c 0 r1 |> when (g.transport != 0) (connPath g c 1 r2)

/-- The t0 lies WD_M or more after the last restart of the watchdog (R410). -/
def connExpired (b c : Nat) (s : State) : Bool := decide ((connOf s c).wd + 1000000 * (cnCfg s b c).wdm ≤ sfT0 s)

/-- The count of consecutive t0 with an accepted PDU, the watchdog, and the ways out of START and FAILED (Table 17.7). -/
def connAdvance (b c : Nat) (s : State) : State :=
  let g := cnCfg s b c
  let k := connOf s c
  if !g.valid || k.state = 0 then s
  else
    let n := if k.accepted then k.count + 1 else 0
    if (k.state = 2 ∨ k.state = 4) ∧ connExpired b c s then connFail c 2 s
    else if (k.state = 1 ∨ k.state = 3) ∧ n ≥ 3 then
      (if g.autoack then s |> putConn c { k with state := 2, count := n } |> raise 422
       else putConn c { k with state := 4, count := n } s)
    else putConn c { k with count := n } s

/-! Safe bits (R399) -/

/-- A safe data byte string as the functions read it: 0 unless the connection is in RUN and the partner sends FSV = 0. -/
def connByte (s : State) (c i : Nat) : Byte :=
  let k := connOf s c
  if k.state = 2 ∧ k.fsv = false then k.data.getD i 0 else 0

/-- A safe bit by its index. -/
def safeBit (s : State) (b : Nat) : Bool :=
  if b = 0xFFFF then true
  else if b = 0xFFFE then false
  else (connByte s (b / 512) (b % 512 / 8)).getLsbD (b % 512 % 8)

/-- The acknowledgement of a connection: a rising edge in AWAITACK leads to RUN with event 422. -/
def connAck (b c : Nat) (s : State) : State :=
  let g := cnCfg s b c
  let k := connOf s c
  if !g.valid || k.state = 0 then s
  else
    let a := safeBit s g.acksel
    if k.state = 4 ∧ a ∧ k.ackPrev = false then s |> putConn c { k with state := 2, ackPrev := a } |> raise 422
    else putConn c { k with ackPrev := a } s

/-! Axis functions (R401 to R404) -/

/-- A new sample of an axis: position and instant, speed, SLS count (R401, Table 17.5). A sample interval of 0 or beyond
WD_M is a communication failure. -/
def axisSample (b a : Nat) (s : State) : State :=
  let x := axCfg s b a
  let k := axisOf s a
  if !(connOf s x.posConn).accepted || (connOf s x.posConn).state ≠ 2 then putAxis a { k with bad := false } s
  else
    let bs := (List.range 8).map (fun i => connByte s x.posConn (x.posOfs + i))
    let pos := toSigned 32 (beBytes (bs.take 4))
    let ts := beBytes (bs.drop 4)
    let dt := (ts + 2 ^ 32 - k.ts) % 2 ^ 32
    if k.have_ = false then putAxis a { k with have_ := true, pos := pos, ts := ts, v := 0, slsCnt := 0, bad := false } s
    else if dt = 0 ∨ dt > 1000 * (cnCfg s b x.posConn).wdm then putAxis a { k with pos := pos, ts := ts, bad := true } s
    else
      let v := Int.tdiv ((pos - k.pos) * 1000000) dt
      let fast := x.slsEn && !safeBit s x.slsSel && decide (v.natAbs > x.vlim)
      putAxis a { k with pos := pos, ts := ts, v := v, slsCnt := if fast then k.slsCnt + 1 else 0, bad := false } s

/-- The SDI reference: the position at activation, then the farthest in the permitted direction. -/
def axisSdi (b a : Nat) (s : State) : State :=
  let x := axCfg s b a
  let k := axisOf s a
  let r : Option Int := if x.sdiEn && k.have_ && !safeBit s x.sdiSel then
      some (match k.sdi with
        | none => k.pos
        | some r => if x.sdiNeg then min r k.pos else max r k.pos)
    else none
  putAxis a { k with sdi := r } s

/-- One committed byte: the old content of a line that this window has logged, else memory (R127). -/
def committedByte (s : State) (a : Nat) : Byte :=
  match s.undo.find? (fun e => e.addr == a / 64 * 64) with
  | some e => e.data.getD (a % 64) 0
  | none => Memory.read s.mem a

/-- Committed bytes, and their little-endian value. -/
def committedRead (s : State) (a n : Nat) : List Byte := (List.range n).map (fun i => committedByte s (a + i))
def committedNat (s : State) (a n : Nat) : Nat := leBytes (committedRead s a n)

/-- A committed M bit. -/
def committedM (s : State) (i : Nat) : Bool := (committedByte s (imgM + i / 8)).getLsbD (i % 8)

/-- A pair with KIND 0 that names the axis has a latched fault, as the pair word in the safety area tells. -/
def axisPairFault (s : State) (b a : Nat) : Bool :=
  (List.range 4).any (fun p =>
    bit (pairSrc s b p) 31 && !bit (pairSrc s b p) 30 && bits (pairSrc s b p) 0 16 == a && bit (memNat s sfPairs 1) (4 + p))

/-- Severity of a configured response: STO 3, SS1 2, SS2 1. -/
def respLevel (r : Nat) : Nat := if r = 1 then 2 else if r = 2 then 1 else 3

/-- The violations of an axis, as (cause, response) (Table 17.5). -/
def axisViolations (s : State) (b a : Nat) : List (Nat × Nat) :=
  let x := axCfg s b a
  let k := axisOf s a
  let lv := respLevel x.resp
  let out (p : Int) := decide (p < 1000000 * x.pmin ∨ 1000000 * x.pmax < p)
  let sdiBad := match k.sdi with
    | some r => if x.sdiNeg then decide (k.pos > r + x.ptol) else decide (k.pos < r - x.ptol)
    | none => false
  (if axisPairFault s b a then [(7, 3)] else [])
    ++ (if (connOf s x.posConn).state ≠ 2 ∨ (connOf s x.cmdConn).state ≠ 2 ∨ k.bad then [(6, 3)] else [])
    ++ (if x.slsEn && !safeBit s x.slsSel && decide (k.slsCnt ≥ x.tolc) then [(1, lv)] else [])
    ++ (if x.slpEn && !safeBit s x.slpSel && (out (1000000 * k.pos) || out (1000000 * k.pos + k.v * x.tlook)) then [(2, lv)] else [])
    ++ (if sdiBad then [(3, lv)] else [])
    ++ (if !safeBit s x.runSel then [(4, lv)] else [])
    ++ (if x.stdEn && committedM s x.stdStop then [(5, lv)] else [])

/-- AXIS_VIOLATION: a response starts (event 423) or escalates (R403, R404). -/
def axisRespond (a cause level : Nat) (s : State) : State :=
  let k := axisOf s a
  if level ≤ k.resp then s
  else { s with safe := { s.safe with lastAxis := a, acause := cause } }
    |> putAxis a { k with resp := level, cause := cause, start := sfT0 s, off := level == 3, still := none }
    |> when (k.resp == 0) (raise 423)

/-- A pair fault that begins to hold an axis raises event 429 (R405). -/
def axisPair (b a : Nat) (s : State) : State :=
  let k := axisOf s a
  let f := axisPairFault s b a
  s |> putAxis a { k with pair := f } |> when (f && !k.pair) (raise 429)

/-- The response of axis a has lasted `ms` at the t0. -/
def axisLasts (s : State) (a ms : Nat) : Bool := decide ((axisOf s a).start + 1000000 * ms ≤ sfT0 s)

/-- SS1: torque off at standstill or after TSS1 (R403). -/
def axisSs1 (x : AxCfg) (a : Nat) (expired : Bool) (s : State) : State :=
  let k := axisOf s a
  if k.resp = 2 ∧ (expired ∨ k.v.natAbs ≤ x.vstill) then putAxis a { k with off := true } s else s

/-- SS2: the standstill position after TSS2, then SOS (R403). -/
def axisSs2 (x : AxCfg) (a : Nat) (expired : Bool) (s : State) : State :=
  let k := axisOf s a
  if k.resp ≠ 1 then s
  else match k.still with
    | none => if expired then putAxis a { k with still := some k.pos } s else s
    | some p => if k.v.natAbs > x.vstill ∨ (k.pos - p).natAbs > x.ptol then axisRespond a 8 3 s else s

/-- AXIS_ACKNOWLEDGE: a rising edge with no violation releases the response, event 424 (R404). -/
def axisAck (b a : Nat) (s : State) : State :=
  let x := axCfg s b a
  let k := axisOf s a
  let k1 := safeBit s x.ackSel
  if k.resp ≠ 0 ∧ k1 ∧ k.ackPrev = false ∧ axisViolations s b a = [] then
    s |> putAxis a { k with resp := 0, off := false, cause := 0, still := none, ackPrev := k1 } |> raise 424
  else putAxis a { k with ackPrev := k1 } s

/-- One axis in the safety stage. -/
def axisStage (b : Nat) (s : State) (a : Nat) : State :=
  let x := axCfg s b a
  if !x.valid then s
  else
    let s1 := s |> axisSample b a |> axisSdi b a |> axisPair b a
    let s2 := (axisViolations s1 b a).foldl (fun t v => axisRespond a v.1 v.2 t) s1
    s2 |> axisSs1 x a (axisLasts s2 a x.tss1) |> axisSs2 x a (axisLasts s2 a x.tss2) |> axisAck b a

/-- The control byte of an axis (R403). -/
def axisControl (s : State) (b a : Nat) : Nat :=
  let x := axCfg s b a
  let k := axisOf s a
  b2n (!(k.resp == 3 || k.off)) + 2 * b2n (k.resp != 2) + 4 * b2n (k.resp != 1)
    + 8 * b2n (!(x.slsEn && !safeBit s x.slsSel))

/-! Transmit PDUs (R406, R408, R415) -/

/-- The computed safe data of connection c: the control bytes of the axes it commands. -/
def connTxData (s : State) (b c : Nat) : List Byte :=
  (List.range (recNAxis s b)).foldl (fun d a =>
    let x := axCfg s b a
    if x.valid && x.cmdConn == c then d.set x.cmdOfs (BitVec.ofNat 8 (axisControl s b a)) else d)
    (List.replicate (cnCfg s b c).safeLen 0)

/-- The PDU of connection c with sequence number `seq`, for path 1 or 2 of a JX5 connection. -/
def connPdu (s : State) (b c seq path : Nat) : List Byte :=
  let g := cnCfg s b c
  let k := connOf s c
  let fsv := k.state != 2
  let rst := k.state == 1
  let data := if fsv then List.replicate g.safeLen 0 else connTxData s b c
  let fl := bytesLE 1 (128 * b2n fsv + 64 * b2n rst)
  let body := if g.jx5 then
      bytesBE 2 g.connid ++ fl ++ bytesLE 1 path ++ bytesBE 2 seq ++ bytesBE 2 k.echo ++ data
    else bytesLE 1 0x21 ++ fl ++ bytesBE 2 g.connid ++ bytesBE 4 seq ++ bytesBE 4 k.echo ++ data
  if k.state = 0 then List.replicate g.l 0 else body ++ bytesBE 4 (pduCrc g true body)

/-- A store by the participating slices in the cycle: undo-logged by lines, then performed (R113). -/
def sliceMemStore (a : Nat) (bs : List Byte) (s : State) : State :=
  s |> undoLine false (a / 64 * 64)
    |> when (decide ((a + bs.length - 1) / 64 ≠ a / 64)) (undoLine false ((a + bs.length - 1) / 64 * 64))
    |> memWrite a bs

/-- Demand of FIO pair p (R405); of an axis that is not in use, 0. -/
def pairDemandOf (s : State) (b p : Nat) : Bool :=
  let w := pairSrc s b p
  bit w 31 && (if bit w 30 then safeBit s (bits w 0 16)
    else (axCfg s b (bits w 0 16)).valid && bit (axisControl s b (bits w 0 16)) 0)

/-- SAFETY_STAGE: the runtime over all connections and axes, the transmit PDUs, the pair demands, and last the stamp
(R391). While the functions do not run, the connections are OFF and only the stamp is written. -/
def sfuSafetyStage (s : State) : State :=
  let b := sfArea
  let nc := recNConn s b
  let seq := rd s CKP_SEQ + 1
  let stamp (t : State) := sliceMemStore sfStamp (bytesLE 8 seq) t
  if rd s SFU_STATUS_STATE ≠ 4 then stamp s
  else
    let s1 := (List.range nc).foldl (fun t c => connReceive b c t) s
    let s2 := (List.range nc).foldl (fun t c => connAdvance b c t) s1
    let s3 := (List.range nc).foldl (fun t c => connAck b c t) s2
    let s4 := (List.range (recNAxis s b)).foldl (axisStage b) s3
    let s5 := (List.range nc).foldl (fun t c =>
      if (cnCfg t b c).valid then sliceMemStore (sfTx c) (connPdu t b c seq 1) t else t) s4
    let dem := (List.range 4).foldl (fun v p => v + b2n (pairDemandOf s5 b p) * 2 ^ p) 0
    s5 |> sliceMemStore sfPairs (bytesLE 8 (bits (memNat s5 sfPairs 1) 4 4 * 16 + dem)) |> stamp

/-! State of SFU (R392, R418, R419) -/

/-- SFU_STATUS.STATE takes a value; event 416 marks a change. -/
def sfuState (v : Nat) (s : State) : State :=
  if rd s SFU_STATUS_STATE = v then s else s |> wr SFU_STATUS_STATE v |> raise 416

/-- The functions run (R392). -/
def sfuRunning (s : State) : Bool := rd s SFU_STATUS_STATE == 4

/-- What stands outside a cycle is what a rollback of the next one restores. -/
def sfuKeep (s : State) : State := { s with safeC := s.safe }

/-- When the functions start running every valid connection that is OFF enters START; a promoted module goes on with those of the
active (R411, R444). When they stop, every connection is OFF. -/
def sfuConnsStart (s : State) : State :=
  sfuKeep ((List.range (recNConn s sfArea)).foldl (fun t c =>
    if (cnCfg t sfArea c).valid && (connOf t c).state == 0 then
      putConn c { Conn.off with state := 1, wd := now s, at1 := now s, at2 := now s } t
    else t) s)
def sfuConnsOff (s : State) : State := sfuKeep { s with safe := { s.safe with conns := [] } }

/-- READY and RUNNING follow the controller state and the execution mode (R392). -/
def sfuRecompute (s : State) : State :=
  let run := rd s CYC_STATE == 1 && rd s SLC_MODE != 2
  if rd s SFU_STATUS_STATE = 3 ∧ run then s |> sfuState 4 |> sfuConnsStart
  else if rd s SFU_STATUS_STATE = 4 ∧ run = false then s |> sfuState 3 |> sfuConnsOff
  else s

/-- The safe-output signal ends publication (R145). -/
def sfuEndPublication (s : State) : State := clr SFU_STATUS_PUBLISH s

/-- An address that a safety configuration names: an M bit that is a standard stop request (R420). -/
def sfuBinds (s : State) (space index : Nat) : Bool :=
  rd s SFU_STATUS_STATE != 0 && space == spM
    && (List.range (recNAxis s sfArea)).any (fun a =>
      let x := axCfg s sfArea a
      x.valid && x.stdEn && x.stdStop == index)

/-! Step 4 (R394, R412, R413) -/

/-- The PDU of a Jalora connection from the closed receive record. -/
def sfuRxJalora (g : CnCfg) (c : Nat) (s : State) : State :=
  let b := 1 - rd s (JLA_STATUS_RXBUF g.jch)
  memWrite (sfRx c 0) (memRead s (rxRecord s g.jch b g.node + 16 + g.rxofs) g.l) s

/-- A datagram that arrived by 2 µs before an instant is taken at it (R413). -/
def takenAt (t0 : Nat) (d : Datagram) : Bool := decide (d.at_ + 2000 ≤ t0)

/-- SFU_RECEIVE_COPY: received PDUs and the FIO pair latches into the safety area, each slot of 64 bytes whole. -/
def sfuReceiveCopy (s : State) : State :=
  if !on s SFU_CTRL_EN then s
  else
    let s1 := (List.range (recNConn s sfArea)).foldl (fun t c =>
      let g := cnCfg t sfArea c
      when (g.valid && g.transport == 0) (sfuRxJalora g c) t) s
    let s2 := (s1.dgrams.filter (takenAt (newT0 s))).foldl (fun t d =>
      memWrite (sfRx d.conn d.path) ((d.bytes ++ List.replicate 64 0).take 64) t) s1
    let lat := (List.range 4).foldl (fun v p => v + rd s (FIO_PAIRSTAT_LATCHED p) * 2 ^ p) 0
    { s2 with dgrams := s2.dgrams.filter (fun d => !takenAt (newT0 s) d) } |> memPut sfPairs 1 (bits (memNat s2 sfPairs 1) 0 4 + 16 * lat)

/-- The connection and path that a datagram belongs to: by CONNID and by the path of its port (R413). -/
def dgramMatch (s : State) (port udp : Nat) (bs : List Byte) : Option (Nat × Nat) :=
  let jx5 := udp == rd s SFU_BBCFG_JX5PORT
  let id := if jx5 then beBytes (bs.take 2) else beBytes ((bs.drop 2).take 2)
  (List.range (recNConn s sfArea)).findSome? (fun c =>
    let g := cnCfg s sfArea c
    if g.valid && (if jx5 then g.transport == 2 else g.transport == 1) && g.connid == id then
      (if bit g.ports1 port then some (c, 0) else if bit g.ports2 port then some (c, 1) else none)
    else none)

/-- A datagram of connection c and path p that one arriving now replaces: not yet taken, and not due at a t0 that the new one is too late
for. -/
def replaced (s : State) (c p : Nat) (d : Datagram) : Bool :=
  d.conn == c && d.path == p && (!takenAt (newT0 s) d || decide (now s + 2000 ≤ newT0 s))

/-- SAFEGUARD_DATAGRAM_RECEIVE: a datagram to one of SFU's UDP ports on backbone port `port` is kept as the latest of its
connection and path, or counted (R413). -/
def execSafeguardDatagramReceive (port : Fin 4) (udp : Nat) (bs : List Byte) (s : State) : Out :=
  .next (if !on s SFU_CTRL_EN || !(udp == rd s SFU_BBCFG_PORT || udp == rd s SFU_BBCFG_JX5PORT) then s
  else match dgramMatch s port udp bs with
    | none => s |> incSat SFU_RXCNT_UNKNOWN 1 |> raise 426
    | some (c, p) =>
      { s with dgrams := s.dgrams.filter (fun d => !replaced s c p d) ++ [⟨c, p, now s, bs.take 64⟩] }
        |> when (s.dgrams.any (replaced s c p)) (fun t => t |> incSat SFU_RXCNT_OVWR 1 |> raise 426))

/-! Registers -/

/-- The registers follow the committed safety area at each commit point (R424). -/
def sfuCommit (s : State) : State :=
  let mask (lo : Nat) (f : Conn → Bool) :=
    (s.safe.conns.filter (fun k => decide (lo ≤ k.1 ∧ k.1 < lo + 64) && f k.2)).foldl (fun v k => v + 2 ^ (k.1 - lo)) 0
  let run (k : Conn) := k.state == 2
  let bad (k : Conn) := k.state == 3 || k.state == 4
  let stop := (s.safe.axes.filter (fun k => k.2.resp != 0)).foldl (fun v k => v + 2 ^ k.1) 0
  { s with safeC := s.safe }
    |> wr (SFU_CONNRUN_RUN 0) (mask 0 run) |> wr (SFU_CONNRUN_RUN 1) (mask 64 run)
    |> wr (SFU_CONNFAIL_FAIL 0) (mask 0 bad) |> wr (SFU_CONNFAIL_FAIL 1) (mask 64 bad)
    |> wr SFU_AXSTOP_STOP stop |> wr SFU_STATUS_STOPAX (b2n (stop != 0))
    |> wr SFU_LAST_CONN s.safe.lastConn |> wr SFU_LAST_CCAUSE s.safe.ccause
    |> wr SFU_LAST_AXIS s.safe.lastAxis |> wr SFU_LAST_ACAUSE s.safe.acause

/-! Time-outs -/

/-- SAFEGUARD_WATCHDOG_EXPIRY: the module watchdog of connection c expires (R410). -/
def execSafeguardWatchdogExpiry (c : Fin 128) (s : State) : Out :=
  .next (if sfuRunning s ∧ ((connOf s c).state = 2 ∨ (connOf s c).state = 4) ∧ connExpired sfArea c s then connFail c 2 s else s)

/-- SS1_TIMEOUT: TSS1 after an SS1 response of axis a began, EN drops to 0 (R403). -/
def execSs1Timeout (a : Fin 64) (s : State) : Out :=
  .next (if sfuRunning s ∧ axisLasts s a (axCfg s sfArea a).tss1 then axisSs1 (axCfg s sfArea a) a true s else s)

/-- SS2_STANDSTILL: TSS2 after an SS2 response of axis a began, its standstill position is recorded (R403). -/
def execSs2Standstill (a : Fin 64) (s : State) : Out :=
  .next (if sfuRunning s ∧ (axisOf s a).still = none ∧ axisLasts s a (axCfg s sfArea a).tss2 then axisSs2 (axCfg s sfArea a) a true s
    else s)

/-- JX5_PATH_WATCHDOG: the diagnostic watchdog of a path of JX5 connection c expires (R416). -/
def execJx5PathWatchdog (c : Fin 128) (path2 : Bool) (s : State) : Out :=
  let k := connOf s c
  let g := cnCfg s sfArea c
  .next (if sfuRunning s ∧ k.state ≠ 0 ∧ g.jx5 ∧ (if path2 then k.lost2 else k.lost1) = false
      ∧ (if path2 then k.at2 else k.at1) + 1000000 * g.wdm ≤ sfT0 s then
    s |> putConn c (if path2 then { k with lost2 := true } else { k with lost1 := true }) |> raise 427
  else s)

/-! Commissioning (R417 to R419) -/

/-- Check value of a record of `n` bytes at `a`. -/
def recordCv (s : State) (a n : Nat) : Nat := crc32 0xFFFFFFFF (memRead s a n)

/-- LOAD of the configuration record (R417). -/
def sfuLoad (sess : Nat) (s : State) : State :=
  let b := 16 * rd s SFU_CFGBASE_BASE
  let n := rd s SFU_CFGBASE_LEN
  let r := loadResult s b
  let cv := recordCv s b n
  let s1 := s |> wr SFU_CFGCTL_RESULT r |> audit 0x09 (r != 0) sess 0 (rd s SFU_CFGCV_CV) (if r = 0 then cv else 0)
  if r ≠ 0 then raise 418 s1
  else
    { s1 with safe := { s1.safe with conns := [], axes := [] } }
      |> memClear sfArea (sfArea + 0x10000) |> memWrite sfArea (memRead s b n) |> wr SFU_CFGCV_CV cv |> wr I.SFU_LOADLEN n |> sfuState 1
      |> raise 417

/-- The session to which an action is attributed; 0 for a writer without one. -/
def sessOf (w : Writer) : Nat := (writerSess w).getD 0

/-- SAFETY_LOAD: SFU_CFGCTL.LOAD is written 1. -/
def execSafetyLoad (w : Writer) (s : State) : Out :=
  .next (gateWrite w SFU_CFGCTL_LOAD 1 (sfuLoad (sessOf w)) s)

/-- COMMISSION (R418): the value is compared, and value and record are stored in the Granary. Without a loaded record it is
refused with STATE. -/
def sfuCommission (sess : Nat) (s : State) : State :=
  let cv := rd s SFU_CFGCV_CV
  let st := rd s SFU_STATUS_STATE
  let r := if st = 0 ∨ st = 2 then 1 else if rd s SFU_CMTCV ≠ cv then 5 else 0
  let s1 := s |> wr SFU_CFGCTL_RESULT r |> audit 0x09 (r != 0) sess 1 0 (rd s SFU_CMTCV)
  if r ≠ 0 then raise 418 s1
  else
    let n := rd s I.SFU_LOADLEN
    s1 |> memClear 0x1040500000 0x1040510000 |> memWrite 0x1040500000 (memRead s sfArea n)
      |> set1 I.SFU_STORED |> wr I.SFU_STOREDCV cv |> wr I.SFU_STOREDLEN n
      |> when (st == 1) (sfuState 3) |> raise 419 |> sfuRecompute

/-- COMMISSION: SFU_CFGCTL.COMMISSION is written 1. -/
def execCommission (w : Writer) (s : State) : Out :=
  .next (gateWrite w SFU_CFGCTL_COMMISSION 1 (sfuCommission (sessOf w)) s)

/-- DECOMMISSION in STOP (R418); in any other state it is refused with STATE. -/
def sfuDecommission (sess : Nat) (s : State) : State :=
  let r := if rd s CYC_STATE ≠ 0 ∨ rd s SFU_STATUS_STATE = 0 then 1 else 0
  let s1 := s |> wr SFU_CFGCTL_RESULT r |> audit 0x09 (r != 0) sess 2 (rd s I.SFU_STOREDCV) 0
  if r ≠ 0 then s1
  else s1 |> clr I.SFU_STORED |> clr I.SFU_STOREDCV |> clr I.SFU_STOREDLEN |> sfuState 1 |> raise 430

/-- DECOMMISSION: SFU_CFGCTL.DECOMMISSION is written 1. -/
def execDecommission (w : Writer) (s : State) : Out :=
  .next (gateWrite w SFU_CFGCTL_DECOMMISSION 1 (sfuDecommission (sessOf w)) s)

/-- SAFETY_CHECK_AT_START: the commissioned record's check value is recomputed (R419). -/
def sfuStartCheck (s : State) : State :=
  if !on s I.SFU_STORED then s
  else
    let n := rd s I.SFU_STOREDLEN
    let cv := recordCv s 0x1040500000 n
    let s1 := s |> memClear sfArea (sfArea + 0x10000) |> memWrite sfArea (memRead s 0x1040500000 n)
      |> wr SFU_CFGCV_CV cv |> wr SFU_CMTCV (rd s I.SFU_STOREDCV) |> wr SFU_CFGBASE_LEN n |> wr I.SFU_LOADLEN n
    if cv = rd s I.SFU_STOREDCV ∧ recW s 0x1040500000 8 = rd s I.SFU_RTID then sfuState 3 s1
    else s1 |> sfuState 2 |> raiseCrit 420

/-- SFU_CTRL.EN is written (R75). -/
def sfuEnable (en : Bool) (s : State) : State :=
  if en then
    (if on s SFU_CTRL_EN then s else if on s SFU_CTRL_BUSY_OFF then set1 SFU_CTRL_ENPEND s else set1 SFU_CTRL_EN s)
  else if on s SFU_CTRL_EN then
    { s with dgrams := [] } |> clr SFU_CTRL_EN |> set1 SFU_CTRL_BUSY_OFF |> clr SFU_STATUS_PUBLISH
  else clr SFU_CTRL_ENPEND s

end Sys2Proof.Machine
end

