-- ==== Sys2Proof/Machine/SafeOut.lean ====
section
/-! DEFINITION. What the safe-output signal does to every output path (R145). The Jalora channels sample the signal at each
round start (R226). -/

namespace Sys2Proof.Machine

/-- FIO takes safe values, the gateway discards its queues, SFU ends publication. -/
def safePaths (s : State) : State := s |> fioSafeOutputs |> canDiscard |> sfuEndPublication

end Sys2Proof.Machine
end

