-- ==== Sys2Proof/Machine/Controller.lean ====
section
/-! DEFINITION. The controller's states (R140 to R146): completing a command, entering a state, the automatic changes of
Table 6.4, the safe-output signal, and the failed commit (R123, R124). -/

namespace Sys2Proof.Machine

open R

/-- Encoding of CYC_STATE.STATE. -/
def stSTOP : Nat := 0
def stRUN : Nat := 1
def stHALT : Nat := 2
def stFAULT : Nat := 3

/-- The controller's state. -/
def ctlState (s : State) : Nat := rd s CYC_STATE

/-! Completions (R308, R312) -/

/-- Completion status codes (Table 13.4). -/
def cOK : Nat := 0
def cROLE : Nat := 1
def cSTATE : Nat := 2
def cSAFETY : Nat := 3
def cBLOCKED : Nat := 4
def cALIGN : Nat := 5
def cSUPERSEDED : Nat := 6
def cNOPROG : Nat := 7
def cOWNED : Nat := 8
def cBUSY : Nat := 9
def cPAIRED : Nat := 0x0A
def cSLICE : Nat := 0x0B
def cJOINFAIL : Nat := 0x0C
def cSPACE : Nat := 0x0D
def cFULL : Nat := 0x0E
def cBASE : Nat := 0x0F
def cCHECK : Nat := 0x10
def cLIMIT : Nat := 0x11
def cSTAGINGBUSY : Nat := 0x12
def cBADOP : Nat := 0x13
def cBADARG : Nat := 0x14
def cBUFERR : Nat := 0x15
def cCANCELLED : Nat := 0x16
def cTIMEOUT : Nat := 0x17
def cFABRIC : Nat := 0x18
def cLOCKOUT : Nat := 0x19

/-- A command completes: its completion, with CKP_SEQ as RESULT and the time, waits to be written. A refusal with ROLE
raises event 326. -/
def completeData (ref : CmdRef) (op status fcode result len : Nat) (pwfail : Bool) (data : List Byte) (s : State) : State :=
  { s with cpls := s.cpls ++
      [⟨ref, op, status, fcode, pwfail, result, len, rd s TIM_SEC % 2 ^ 32, rd s TIM_NSEC, data⟩] }
    |> when (status == cROLE) (raise 326)

/-- The same without data for a remote session. -/
def completeWith (ref : CmdRef) (op status fcode result len : Nat) (pwfail : Bool) (s : State) : State :=
  completeData ref op status fcode result len pwfail [] s

/-- The listed command of a reference that was passed on last. -/
def cmdOf (s : State) (ref : CmdRef) : Option InCmd := (s.cmds.filter (fun c => c.ref == ref && c.passed)).getLast?

/-- BUF and BUFLEN of a command that has been passed on. -/
def cmdBuf (s : State) (ref : CmdRef) : Nat := (cmdOf s ref).elim 0 (fun c => c.desc.buf)
def cmdBuflen (s : State) (ref : CmdRef) : Nat := (cmdOf s ref).elim 0 (fun c => c.desc.buflen)

/-- A command completes that has moved `len` bytes from its buffer. -/
def completeMoved (ref : CmdRef) (op status len : Nat) (s : State) : State :=
  completeWith ref op status 0 (rd s CKP_SEQ) len false s

/-- A command completes without data. -/
def complete (ref : CmdRef) (op status : Nat) (s : State) : State :=
  completeWith ref op status 0 (rd s CKP_SEQ) 0 false s

/-- Every command that waits under an opcode completes with a status. -/
def completeWait (op status : Nat) (s : State) : State :=
  let ws := s.waiting.filter (fun w => w.1 == op)
  ws.foldl (fun t w => complete w.2 op status t) { s with waiting := s.waiting.filter (fun w => w.1 != op) }

/-- The same for commands that have read the whole of their buffer. -/
def completeWaitMoved (op status : Nat) (s : State) : State :=
  let ws := s.waiting.filter (fun w => w.1 == op)
  ws.foldl (fun t w => completeMoved w.2 op status (cmdBuflen t w.2) t) { s with waiting := s.waiting.filter (fun w => w.1 != op) }

/-- A command waits for its target under an opcode. -/
def wait (ref : CmdRef) (op : Nat) (s : State) : State := { s with waiting := s.waiting ++ [(op, ref)] }

/-- Commands that wait for their target are not heard of again: no completion follows (R309, R316). -/
def dropRefs (gone : CmdRef → Bool) (s : State) : State :=
  { s with waiting := s.waiting.filter (fun w => !gone w.2),
           forcePend := s.forcePend.map (fun q => if q.ref.any gone then { q with ref := none } else q) }

/-- A command completes if the request came with one. -/
def finish (ref : Option CmdRef) (op status : Nat) (s : State) : State :=
  match ref with
  | some r => complete r op status s
  | none => s

/-- A command waits if the request came with one. -/
def waitOpt (ref : Option CmdRef) (op : Nat) (s : State) : State :=
  match ref with
  | some r => wait r op s
  | none => s

/-! The safe-output signal (R145) -/

/-- The safe-output signal is asserted: SAFEOUT sets, every output path takes its safe values, event 92 is raised.
Nothing more happens if it already is asserted. -/
def safeAssert (s : State) : State :=
  if on s CYC_STATE_SAFEOUT then s
  else s |> set1 CYC_STATE_SAFEOUT |> safePaths |> raise 92

/-- The safe-output signal is released (R146). -/
def safeRelease (s : State) : State := s |> when (on s CYC_STATE_SAFEOUT) (wr I.FIO_REFT (upNow s)) |> clr CYC_STATE_SAFEOUT

/-- What a write of CYC_CTRL.HALTOUT does in HALT (Table 6.2): safe values with 0, committed values with 1. Outputs that keep their
safe values until the first commit point after START or RESUME keep them (R146; DEDUCED, log entry 107). -/
def haltoutEffect (s : State) : State :=
  if ctlState s ≠ stHALT then s
  else if on s CYC_CTRL_HALTOUT then when (!on s I.CYC_FIRST) safeRelease s
  else safeAssert s

/-! Entering a state -/

/-- The controller enters a state: event 80 (Table 6.4). -/
def enterState (st : Nat) (s : State) : State :=
  s |> wr CYC_STATE_PREV (ctlState s) |> wr CYC_STATE st |> raise 80 |> sfuRecompute

/-- The result of the last CYC command (Table 6.12). -/
def cmdstat (cmd sess result : Nat) (s : State) : State :=
  s |> wr CYC_CMDSTAT_CMD cmd |> wr CYC_CMDSTAT_SESSION sess |> wr CYC_CMDSTAT_RESULT result

/-- Opcode of a CYC command in Table 13.5. -/
def cycOpcode (cmd : Nat) : Nat := 0x1F + cmd

/-- The pending change is a start: START, the start of a promoted module, or an automatic one. -/
def startPending (s : State) : Bool := rd s I.CYC_PENDCMD == 1 || decide (rd s I.CYC_PENDCMD ≥ 6)

/-- A warm activation in its step 8 is over (Table 20.8). -/
def warmOver (s : State) : State :=
  when (!on s I.UPD_WARM && on s I.UPD_WARMRUN) (fun t => t |> clr UPD_STATUS_ACTIVATING |> clr I.UPD_WARMRUN) s

/-- The pending change ends with a result (R143). A start that does not take effect leaves the engine disabled (R140). -/
def endPending (result : Nat) (s : State) : State :=
  let c := rd s I.CYC_PENDCMD
  if c = 0 then s
  else s |> when (decide (c < 6)) (fun t => t |> cmdstat c (rd s I.CYC_PENDSESS) result |> completeWait (cycOpcode c) result)
    |> when (startPending s && result != cOK) (fun t => t |> when (!on t CYC_CTRL_BUSY_OFF) (clr CYC_CTRL_EN) |> warmOver)
    |> clr I.CYC_PENDCMD |> clr CYC_STATE_TRANS |> clr CYC_CTRL_ENPEND

/-- The engine begins its shutdown after entry to STOP or FAULT: EN stays 1 until it has completed (R140). -/
def engineShutdown (s : State) : State := when (on s CYC_CTRL_EN) (set1 CYC_CTRL_BUSY_OFF) s

/-- No cycle is in progress, and the slices execute nothing. -/
def endCycle (s : State) : State :=
  s |> clr I.CYC_PH |> clr CKP_STATUS_LOGOPEN |> clr CKP_STATUS_REEXEC |> clr I.CKP_VREQ |> clr I.CKP_PROGFAULT
    |> clr LSV_STATUS_RUNNING |> clr I.CYC_REEX |> clr I.CYC_STEPPING
    |> clr (I.CORE_TASK 0) |> clr (I.CORE_TASK 1) |> clr (I.CORE_TASK 2) |> clr (I.CORE_TASK 3)

/-- Automatic entry to Idle when the controller enters STOP, if PWR_CTRL.AUTO_IDLE = 1 (Table 3.5). -/
def autoIdle (s : State) : State :=
  when (on s PWR_CTRL_AUTO_IDLE && rd s PWR_STATE == 0 && !on s PWR_STATE_TRANS)
    (fun t => t |> set1 PWR_STATE_TRANS |> wr PWR_STATE_TARGET 1) s

/-- RESIGN of an active whose controller enters STOP or FAULT by a cause other than 0x01 and 0x06 (R432). -/
def resignMark (s : State) : State :=
  when (rd s PAIR_STATUS_STATE == 3 && rd s CYC_STATE_STOPCAUSE != 1 && rd s CYC_STATE_STOPCAUSE != 6) (set1 I.PAIR_RESIGN) s

/-- Entry to STOP: state, safe values, shutdown of the engine; nothing holds up a copy any more (R94, R150). -/
def enterStop (s : State) : State :=
  s |> enterState stSTOP |> resignMark |> safeAssert |> engineShutdown |> clr I.CYC_IN |> clr I.CYC_FIRST |> clr I.SLC_COPYSTOP |> warmOver |> autoIdle

/-- Entry to FAULT. -/
def enterFault (s : State) : State :=
  s |> enterState stFAULT |> resignMark |> safeAssert |> engineShutdown |> clr I.CYC_IN |> clr I.CYC_FIRST |> clr I.SLC_COPYSTOP |> warmOver

/-- Entry to HALT: safe values unless HALTOUT = 1 (Table 6.2). -/
def enterHalt (s : State) : State :=
  s |> enterState stHALT |> when (!on s CYC_CTRL_HALTOUT) safeAssert

/-- An automatic change to STOP (Table 6.4). A pending command ends with SUPERSEDED. Causes 0x03 to 0x05 act in every
state and block the restart; in STOP and FAULT they change no state (R142). -/
def autoStop (cause : Nat) (s : State) : State :=
  let blocks := cause == 3 || cause == 4 || cause == 5
  let running := ctlState s == stRUN || ctlState s == stHALT
  if !running && !blocks then s
  else s |> endPending cSUPERSEDED |> wr CYC_STATE_STOPCAUSE cause |> when blocks (set1 CYC_STATE_RSTBLOCK)
    |> when running (fun t => t |> endCycle |> enterStop)

/-- A pending STOP or HALT takes effect (Table 6.3); a STEP cycle ends in HALT. -/
def pendingStopEffect (s : State) : State :=
  if rd s I.CYC_PENDCMD = 2 then
    s |> wr CYC_STATE_STOPCAUSE 1 |> endPending cOK |> enterStop
  else if rd s I.CYC_PENDCMD = 3 then s |> endPending cOK |> enterHalt
  else s

/-- The end of a STEP cycle (event 94). -/
def stepEnd (s : State) : State :=
  when (on s I.CYC_STEPPING) (fun t => t |> clr I.CYC_STEPPING |> raise 94 |> when (!on t CYC_CTRL_HALTOUT) safeAssert) s

/-- Slice deliveries held while the log window was open are made (R456). -/
def deliverHeld (s : State) : State := { s with extIrq := s.extIrq ++ s.evHeld, evHeld := [] }

end Sys2Proof.Machine
end

