-- ==== Sys2Proof/Machine/Units.lean ====
section
/-! DEFINITION. What the host bridge shows and sends beside its registers: the configuration of the PCIe endpoint (R305), the
doorbell page as it reads (R310), the MSI-X table (R313), the words of descriptors (R307) and the units of remote sessions (R316). -/

namespace Sys2Proof.Machine

open R

/-! The endpoint (Table 13.1) -/

/-- Device ID, class code, the sizes of BAR0/1, BAR2/3 and BAR4/5, whether each is a 64-bit one and prefetchable, and the largest payload
and read request in bytes. -/
def pcieDeviceId : Nat := 0x0A07
def pcieClass : Nat := 0x118000
def pcieBarSize : List Nat := [0x1000000, 0x10000, 0x2000]
def pcieBar64 : List Bool := [true, true, true]
def pcieBarPrefetch : List Bool := [false, false, false]
def pcieMaxPayload : Nat := 512
def pcieMaxReadReq : Nat := 4096

/-- The read request size that the host has set, in bytes. -/
def pcieReadReq (s : State) : Nat := min pcieMaxReadReq (128 * 2 ^ rd s I.HBR_MRRS)

/-- Vendor and revision, as SYS identity has them. -/
def pcieVendor (s : State) : Nat := rd s SYS_VENDOR_VID
def pcieRevision (s : State) : Nat := rd s SYS_IDENT_ISSUE

/-- Capabilities of the function: the identifiers that PCI gives power management (D0 and D3hot), PCI Express and MSI-X, and, among the
extended ones, advanced error reporting (PRESUMED, log entry 117). There is no MSI and no legacy interrupt. -/
def pcieCaps : List Nat := [0x01, 0x10, 0x11]
def pcieExtCaps : List Nat := [0x0001]
def pciePowerStates : List Nat := [0, 3]
def msixVectors : Nat := 64

/-- Ordering attributes, AtomicOp completer support and Completion Timeout Ranges Supported (R325). -/
def pcieAttributes : Nat := 0
def pcieAtomicCompleter : Bool := false
def pcieCplTimeoutRanges : Nat := 0

/-! BAR2 and BAR4 -/

/-- A word of the MSI-X structure in BAR4: the table at offset 0, 16 bytes a vector, and the pending bits at 0x1000. -/
def msixWord (s : State) (o : Nat) : Nat :=
  if o < 16 * msixVectors then
    let v := o / 16
    if o % 16 / 4 = 0 then bits (rd s (I.HBR_MSIXADDR v)) 0 32
    else if o % 16 / 4 = 1 then bits (rd s (I.HBR_MSIXADDR v)) 32 32
    else if o % 16 / 4 = 2 then rd s (I.HBR_MSIXDATA v)
    else rd s (I.HBR_MSIXMASK v)
  else if 0x1000 ≤ o ∧ o < 0x1000 + msixVectors / 8 then
    (List.range 32).foldl (fun w i => w + rd s (I.HBR_MSIXPEND (8 * (o / 4 * 4 - 0x1000) + i)) * 2 ^ i) 0
  else 0

/-- A read of the host in BAR2 or BAR4 of 4 or 8 bytes: the doorbell page reads 0. -/
def barRead (s : State) (bar o size : Nat) : Nat :=
  if bar ≠ 2 then 0
  else msixWord s (o / 4 * 4) + (if size = 8 then msixWord s (o / 4 * 4 + 4) * 2 ^ 32 else 0)

/-- A pending vector that is no longer masked is raised. -/
def msixServe (v : Nat) (s : State) : State :=
  when (on s (I.HBR_MSIXPEND v) && !msixMasked s v) (fun t => t |> clr (I.HBR_MSIXPEND v) |> msixRaise v) s

/-- The same for every vector. -/
def msixServeAll (s : State) : State := (List.range msixVectors).foldl (fun t v => msixServe v t) s

/-- A word of the MSI-X table is written; the pending bits are read-only, and bits [1:0] of an address are 0. -/
def msixPut (o v : Nat) (s : State) : State :=
  let n := o / 16
  if 16 * msixVectors ≤ o then s
  else if o % 16 = 0 then wr (I.HBR_MSIXADDR n) (setBits (rd s (I.HBR_MSIXADDR n)) 0 32 (v / 4 * 4)) s
  else if o % 16 = 4 then wr (I.HBR_MSIXADDR n) (setBits (rd s (I.HBR_MSIXADDR n)) 32 32 v) s
  else if o % 16 = 8 then wr (I.HBR_MSIXDATA n) v s
  else s |> wr (I.HBR_MSIXMASK n) (v % 2) |> msixServe n

/-- A write of the host to BAR4, of 4 or 8 aligned bytes; any other has no effect (DESIGN CHOICE, log entry 117). -/
def msixWrite (o size v : Nat) (s : State) : State :=
  if !(size == 4 || size == 8) || o % size != 0 then s
  else s |> msixPut o (v % 2 ^ 32) |> when (size == 8) (msixPut (o + 4) (v / 2 ^ 32 % 2 ^ 32))

/-! Descriptors (Tables 13.2 and 13.3) -/

/-- The eight words of a command descriptor. -/
def descWords (d : Desc) : List Nat :=
  [b2n d.own * 2 ^ 31 + b2n d.ci * 2 ^ 30 + b2n d.wait * 2 ^ 29 + d.opcode % 256 * 2 ^ 16 + d.tag % 65536, d.arg0 % 2 ^ 32,
   bits d.buf 0 32, bits d.buf 32 32, d.buflen % 2 ^ 32, d.arg1 % 2 ^ 32, d.arg2 % 2 ^ 32, d.arg3 % 2 ^ 32]

/-- The command descriptor in eight words. -/
def descOf (l : List Word) : Desc :=
  let w := fun i => (l.getD i 0).toNat
  ⟨bit (w 0) 31, bit (w 0) 30, bit (w 0) 29, bits (w 0) 16 8, bits (w 0) 0 16, w 1, w 2 + w 3 * 2 ^ 32, w 4, w 5, w 6, w 7⟩

/-- The eight words of a completion descriptor, with OWN = 0. -/
def cplWords (c : Completion) : List Nat :=
  [c.opcode % 256 * 2 ^ 16 + c.ref.tag % 65536, b2n c.pwfail * 2 ^ 31 + c.fcode % 16 * 2 ^ 8 + c.status % 256,
   bits c.result 0 32, bits c.result 32 32, c.len % 2 ^ 32, c.sec % 2 ^ 32, c.ns % 2 ^ 30, 0]

/-! Units (R316) -/

/-- The header of a unit: TYPE, RING, two spare bytes, DLEN most significant byte first. -/
def unitHead (ty ring dlen : Nat) : List Byte :=
  [BitVec.ofNat 8 ty, BitVec.ofNat 8 ring, 0, 0] ++ bytesBE 4 dlen

/-- A COMPLETION unit: its descriptor and the data that the command returns. -/
def unitCompletion (c : Completion) : List Byte :=
  unitHead 2 c.ref.ring c.data.length ++ (cplWords c).flatMap (bytesLE 4) ++ c.data

/-- A NOTICE unit with an entry of the error log or an ownership notice, and a KEEPALIVE unit. -/
def unitNotice (entry : List Byte) : List Byte := unitHead 3 0 entry.length ++ entry
def unitKeepalive : List Byte := unitHead 4 0 0

end Sys2Proof.Machine
end

