-- ==== Sys2Proof/Machine/Events.lean ====
section
/-! DEFINITION. The error log (R459 to R466) and the Gleaner (R467 to R470): writing and closing entries, the critical
area, the replay of the always-on latch, persisting, sampling and clearing. -/

namespace Sys2Proof.Machine

open R

/-! Entries in the Granary (Table 19.2) -/

/-- Address of ring place p, of critical place p. -/
def ringAddr (s : State) (p : Nat) : Nat := rd s EVC_LOGBASE_BASE + 32 * p
def critAddr (s : State) (p : Nat) : Nat := rd s EVC_LOGBASE_BASE + 0x20000 + 32 * p

/-- Address of an open entry. -/
def entryAddr (s : State) (e : OpenEntry) : Nat := if e.inCrit then critAddr s e.place else ringAddr s e.place

/-- ACKED of the entry at an address. -/
def ackedAt (s : State) (a : Nat) : Bool := bit (memNat s (a + 0x10) 8) 61

/-- The 32 bytes of an entry. -/
def entryBytes (e : OpenEntry) (acked : Bool) : List Byte :=
  bytesLE 8 (e.rep.sec * 2 ^ 32 + e.rep.ns) ++ bytesLE 8 e.rep.ckpSeq
    ++ bytesLE 8 (2 ^ 63 + b2n e.rep.crit * 2 ^ 62 + b2n acked * 2 ^ 61 + e.rep.source % 512 * 2 ^ 48
        + e.rpt % 65536 * 2 ^ 32 + e.logseq % 2 ^ 32)
    ++ bytesLE 8 (e.rep.detail % 2 ^ 48 * 2 ^ 16 + e.lastDt % 2 ^ 14)

/-- The entry written as it stands; an acknowledgement it carries is kept when it is written again. -/
def entryWrite (e : OpenEntry) (again : Bool) (s : State) : State :=
  memWrite (entryAddr s e) (entryBytes e (again && ackedAt s (entryAddr s e))) s

/-- Sessions that have subscribed to a source receive the closed entry (R466). -/
def noticeSend (e : OpenEntry) (s : State) : State :=
  (s.subs.filter (fun b => b.2 == e.rep.source)).foldl (fun t b =>
    t |> emit (.unit b.1 (unitNotice (entryBytes e (ackedAt s (entryAddr s e))))) |> wr (I.HBR_LASTTX b.1) (upNow s)) s

/-- An open entry closes: it is written again, and NOTICEs are sent (R461). -/
def entryClose (e : OpenEntry) (s : State) : State :=
  { s with evOpen := s.evOpen.filter (fun x => x.logseq != e.logseq) } |> entryWrite e true |> noticeSend e

/-- The oldest open entry closes. -/
def closeOldest (s : State) : State :=
  match s.evOpen with
  | [] => s
  | e :: _ => entryClose e s

/-- Every open entry closes (R461, R468). -/
def closeAll (s : State) : State := s.evOpen.foldl (fun t e => entryClose e t) s

/-- Nanoseconds of a report's time. -/
def Report.at (r : Report) : Nat := r.sec * nsPerS + r.ns

/-- Nanoseconds from the report `a` to the instant `t`, the seconds of a report being 32 bits (R272). -/
def Report.to (a : Report) (t : Nat) : Nat := (t + 2 ^ 32 * nsPerS - a.at) % (2 ^ 32 * nsPerS)

/-- A report is identical to an open entry that still is in its 10 ms (R461). -/
def identical (r : Report) (e : OpenEntry) : Bool :=
  e.rep.source == r.source && e.rep.detail == r.detail && e.rep.crit == r.crit && decide (e.rep.to r.at < 10000000)

/-- An identical report coalesces: REPEAT and LASTDT; at 0xFFFF the entry closes. -/
def coalesce (r : Report) (e : OpenEntry) (s : State) : State :=
  let e1 : OpenEntry := { e with rpt := e.rpt + 1, lastDt := e.rep.to r.at / 1000 }
  if e1.rpt ≥ 0xFFFF then entryClose e1 s
  else { s with evOpen := s.evOpen.map (fun x => if x.logseq = e.logseq then e1 else x) }

/-- An entry opens at a place: written, and kept open. -/
def openAt (r : Report) (inCrit : Bool) (place : Nat) (s : State) : State :=
  let seq := (rd s EVC_LOGSEQ + 1) % 2 ^ 32
  let e : OpenEntry := ⟨r, inCrit, place, seq, 0, 0⟩
  { s with evOpen := s.evOpen ++ [e] } |> wr EVC_LOGSEQ seq |> entryWrite e false

/-- CRITICAL_LOG_FULL and the critical area (R464). -/
def openCrit (r : Report) (s : State) : State :=
  let used := rd s EVC_LOGSTAT_CRITUSED
  if used < 255 then
    s |> openAt r true used |> wr EVC_LOGSTAT_CRITUSED (used + 1) |> set1 EVC_LOGSTAT_UNACK |> glnAdd 72 1 |> raiseQuiet 504
  else if used = 255 then
    s |> openAt { r with source := 505, detail := r.source } true 255 |> wr EVC_LOGSTAT_CRITUSED 256
      |> set1 EVC_LOGSTAT_CRITFULL |> set1 EVC_LOGSTAT_UNACK |> glnAdd 72 1 |> raiseQuiet 504 |> raiseQuiet 505
  else incSat EVC_CRITLOST_LOST 1 s

/-- A ring entry at HEAD; a full ring loses its oldest entry (R463). -/
def openRing (r : Report) (s : State) : State :=
  let h := rd s EVC_LOGSTAT_HEAD
  let full := rd s I.EVC_RINGCOUNT ≥ 4096
  s |> openAt r false h |> wr EVC_LOGSTAT_HEAD ((h + 1) % 4096) |> when (!full) (inc I.EVC_RINGCOUNT)
    |> when full (fun t => t |> incSat EVC_LOGCNT_OVWR 1 |> glnAdd 71 1
      |> when (rd s I.EVC_LAST506 != rd s TIM_SEC + 1) (fun u => raiseQuiet 506 (wr I.EVC_LAST506 (rd s TIM_SEC + 1) u)))

/-- A report becomes a new entry, unless it is critical and its area is full; a 33rd open one closes the oldest. -/
def openEntry (r : Report) (s : State) : State :=
  let stored := !r.crit || decide (rd s EVC_LOGSTAT_CRITUSED ≤ 255)
  s |> when (stored && decide (s.evOpen.length ≥ 32)) closeOldest |> (if r.crit then openCrit r else openRing r)

/-- A report goes into the log. -/
def logReport (r : Report) (s : State) : State :=
  match s.evOpen.find? (identical r) with
  | some e => coalesce r e s
  | none => openEntry r s

/-- EVC may write an entry: at most one in a microsecond (R462). -/
def mayWrite (s : State) : Bool := islandPowered s 8 && decide (rd s I.EVC_WRT ≤ upNow s)

/-- LOG_ENTRY_WRITE: EVC writes the oldest report of the capture FIFO (R462), once the log has been reloaded after a reset. -/
def execLogEntryWrite (s : State) : Out :=
  .next (if on s I.EVC_RELOAD then s else match s.evFifo with
    | [] => s
    | r :: l => if mayWrite s then logReport r { s with evFifo := l } |> wr I.EVC_WRT (upNow s + 1000) else s)

/-- LOG_ENTRY_CLOSE: 10 ms after its first report the oldest open entry closes (R461). -/
def execLogEntryClose (s : State) : Out :=
  .next (match s.evOpen with
    | [] => s
    | e :: _ => if mayWrite s && decide (10000000 ≤ e.rep.to (now s)) then s |> entryClose e |> wr I.EVC_WRT (upNow s + 1000) else s)

/-- EVENT_LATCH_REPLAY: island 8 is on again, and the latched raises are taken in order with their times; each one that found
the latch full counts in DROP and raises event 507 (R458, Table 19.5). -/
def latchReplay (s : State) : State :=
  let n := rd s I.EVC_LATCHLOST
  s.evLatch.foldl (fun t r => evcTake r t) { s with evLatch := [] }
    |> incSat EVC_LOGCNT_DROP n |> glnAdd 73 n |> clr I.EVC_LATCHLOST
    |> (fun t => (List.range n).foldl (fun u _ => raiseQuiet 507 u) t)

/-- EVENT_LATCH_REPLAY. -/
def execEventLatchReplay (s : State) : Out := .next (if islandPowered s 8 then latchReplay s else s)

/-! The critical area (R465) -/

/-- ACKED on every critical entry present. -/
def critAck (sess : Nat) (s : State) : State :=
  (List.range (rd s EVC_LOGSTAT_CRITUSED)).foldl (fun t p =>
      let a := critAddr s p + 0x17
      memPut a 1 (setBits (memNat t a 1) 5 1 1) t) s
    |> clr EVC_LOGSTAT_UNACK |> audit 0x0A false sess 0 0 (rd s EVC_LOGSTAT_CRITUSED)

/-- The critical area emptied. -/
def critClear (sess : Nat) (s : State) : State :=
  { s with evOpen := s.evOpen.filter (fun e => !e.inCrit) }
    |> memClear (critAddr s 0) (critAddr s 256) |> wr EVC_LOGSTAT_CRITUSED 0 |> clr EVC_LOGSTAT_CRITFULL
    |> clr EVC_LOGSTAT_UNACK |> audit 0x0A false sess 1 (rd s EVC_LOGSTAT_CRITUSED) 0

/-- CRITICAL_ACK: EVC_CRITACK.ACK is written 1. -/
def execCriticalAck (w : Writer) (s : State) : Out :=
  .next (gateWrite w EVC_CRITACK_ACK 1 (critAck ((writerSess w).getD 0)) s)

/-- CRITICAL_CLEAR: EVC_CRITACK.CLR is written 1. -/
def execCriticalClear (w : Writer) (s : State) : Out :=
  .next (gateWrite w EVC_CRITACK_CLR 1 (critClear ((writerSess w).getD 0)) s)

/-- A firmware report as source 511 (R460). -/
def firmwareLog (crit : Bool) (detail : Nat) (s : State) : State := capture (critReport (reportNow 511 detail crit s) s) s

/-- FIRMWARE_LOG: the high half of EVC_FWLOG is written. -/
def execFirmwareLog (w : Writer) (crit : Bool) (detail : BitVec 48) (s : State) : Out :=
  .next (gateWrite w EVC_FWLOG_DETAIL detail.toNat (firmwareLog crit detail.toNat) s)

/-! The Gleaner -/

/-- GLEANER_SECOND: a second of IOSC time: seconds powered, in RUN, in HOLDOVER, and the age of the last persist (R467). -/
def execGleanerSecond (s : State) : Out :=
  .next (s |> glnAdd 0 1 |> when (rd s CYC_STATE == 1) (glnAdd 1 1) |> when (rd s TIM_STATUS_STATE == 4) (glnAdd 48 1)
    |> incSat GLN_PERSIST_AGE 1 |> incSat I.GLN_SMPAGE 1)

/-- A field of the Gleaner's counters and histograms, by key. -/
def glnKey (k : Nat) : Bool := decide (0x1080291000 * 64 ≤ k ∧ k < 0x1080294000 * 64)

/-- A persist: the snapshot goes to the copy that is not the newest, with the next generation (R468). -/
def glnPersist (s : State) : State :=
  let g := (rd s GLN_GEN + 1) % 2 ^ 32
  let img := s.regs.filter (fun p => glnKey p.1)
  { s with glnCopies := s.glnCopies.set (g % 2) ⟨true, g, img⟩ } |> wr GLN_GEN g |> clr GLN_PERSIST_AGE |> raise 508

/-- GLEANER_PERSIST: 10 min after the last. -/
def execGleanerPersist (s : State) : Out := .next (if rd s GLN_PERSIST_AGE < 600 then s else glnPersist s)

/-- GLEANER_PERSIST_GO: GLN_PERSIST.GO is written 1. -/
def execGleanerPersistGo (w : Writer) (s : State) : Out := .next (gateWrite w GLN_PERSIST_GO 1 glnPersist s)

/-- The valid copy with the higher generation. -/
def glnBest (s : State) : Option GlnCopy :=
  (s.glnCopies.filter (fun c => c.valid)).foldl (fun b c =>
    match b with
    | none => some c
    | some d => if d.gen < c.gen then some c else b) none

/-- The counters and histograms of a copy loaded; what they have counted since the reset is added to them, saturating (R467). -/
def glnLoad (img : List (Nat × Nat)) (s : State) : State :=
  img.foldl (fun t p => { t with regs := Assoc.put p.1 (satAdd 64 ((Assoc.find p.1 t.regs).getD 0) p.2) t.regs }) s

/-- The Gleaner at start-up step 7 after a power-on reset (R468). -/
def glnRestore (s : State) : State :=
  if !on s I.GLN_LOAD then s
  else match glnBest s with
    | some c => s |> glnLoad c.image |> wr GLN_GEN c.gen |> clr I.GLN_LOAD
    | none => s |> set1 GLN_STATUS_RESTFAIL |> clr I.GLN_LOAD |> raise 509

/-- Bin of a value for a lower limit and a width, both in the value's unit. -/
def glnBin (v lo w : Int) : Nat := (clampInt 0 31 (Int.fdiv (v - lo) w)).toNat

/-- GLEANER_SAMPLE, every 10 s: the plate temperature (in 1/16 °C) and the ORed rail voltage (in 10 mV) go into histograms 2 and 3
(R470). -/
def execGleanerSample (temp : Int) (rail : Nat) (s : State) : Out :=
  .next (if rd s I.GLN_SMPAGE < 10 then s else s |> clr I.GLN_SMPAGE |> glnHist 2 (glnBin temp (-640) 64) |> glnHist 3 (glnBin rail 1600 50))

/-- The user counters and histograms 16 to 31 zeroed (R470). -/
def glnUserClear (sess : Nat) (s : State) : State :=
  (List.range 16).foldl (fun t h => (List.range 32).foldl (fun u b => clr (GLN_HIST_BIN (16 + h) b) u) t)
    ((List.range 128).foldl (fun t n => clr (GLN_CNT_COUNT (128 + n)) t) s)
    |> audit 0x0B false sess 0 0 0

/-- GLEANER_USER_CLEAR: GLN_UCLR.GO is written 1. -/
def execGleanerUserClear (w : Writer) (s : State) : Out :=
  .next (gateWrite w GLN_UCLR_GO 1 (glnUserClear ((writerSess w).getD 0)) s)

/-- A firmware histogram's bin counts; other histograms discard (Table 19.8). -/
def histogramAdd (h b : Nat) (s : State) : State := if 16 ≤ h ∧ h < 32 then glnHist h b s else s

/-- HISTOGRAM_ADD: GLN_HADD is written. -/
def execHistogramAdd (w : Writer) (h b : Fin 32) (s : State) : Out :=
  .next (gateWrite w GLN_HADD_HIST h (histogramAdd h b) s)

end Sys2Proof.Machine
end

