-- ==== Sys2Proof/Machine/Sheaf.lean ====
section
/-! DEFINITION. The Sheaf instruction set (R165 to R182): what every instruction does, and the program fault. The
solver executes only while LSV_STATUS.RUNNING = 1 (a stage of the cycle has started it); the rows of the table are
executed at LSV_STATUS.PC, where the program store holds them. The participating solvers are one here, and its faults program
faults (R181; log entry 5); a fault of one solver alone comes with the window that shows it (R182). -/

namespace Sys2Proof.Machine

open R


/-! Faults -/

/-- LSV_FAULT.CODE values (Table 7.9). -/
def fStackOvf : Nat := 1
def fStackUnf : Nat := 2
def fRange : Nat := 3
def fSpace : Nat := 4
def fIllegal : Nat := 5
def fContext : Nat := 6

/-- The conditions of an instruction, in the order of R180. -/
structure Checks where
  illegal : Bool := false
  space : Bool := false
  context : Bool := false
  range : Bool := false
  ovf : Bool := false
  unf : Bool := false
  deriving DecidableEq, Repr

/-- The fault that LSV_FAULT.CODE reports: the first of the order of R180. -/
def Checks.first (c : Checks) : Option Nat :=
  if c.illegal then some 5 else if c.space then some 4 else if c.context then some 6
  else if c.range then some 3 else if c.ovf then some 1 else if c.unf then some 2 else none

/-- A program fault (R181): the solvers stop, the fault registers record it, event 96 is raised, and the checkpoint unit
requests the verdict at once, which closes the log window. -/
def progFault (code pc word op : Nat) (s : State) : State :=
  s |> wr LSV_FAULT_OPCODE op |> wr LSV_FAULT_DEPTH s.sol.stack.length |> wr LSV_FAULT_CTX (rd s LSV_STATUS_CTX)
    |> wr LSV_FAULT_SLICES (rd s SLC_MODE_PART) |> wr LSV_FAULT_CODE code
    |> wr LSV_FAULTPC_PC pc |> wr LSV_FAULTINS_INSTR word |> wr LSV_FAULTMARK_TAG (rd s LSV_MARK_TAG)
    |> incSat LSV_PEAK_FAULTS 1 |> clr LSV_STATUS_RUNNING
    |> clr CKP_STATUS_LOGOPEN |> set1 I.CKP_VREQ |> set1 I.CKP_PROGFAULT |> wr I.CYC_PH 2 |> wr I.CKP_TV (now s)
    |> raise 96

/-- The solver executes: a stage runs on it, and no store waits for an undo log entry, which stalls the slices (R116). -/
def solverGoes (s : State) : Bool := on s LSV_STATUS_RUNNING && s.stalled.isEmpty

/-- The instruction word at pc: the 32 bits at byte 4 × pc of the program store (R159). -/
def fetchWord (s : State) : Nat := (Assoc.find (rd s LSV_STATUS_PC) s.prog).getD 0

/-- One instruction at pc: a fetch from a page that is not active faults (R176). Its element writes fall at its first clock, and its
clocks follow them (DESIGN CHOICE, log entry 135). The instruction that the program store holds there
is refused with the first fault of `c`, or has `eff`, `clk` solver clocks, and pc set to `next`; another one does not execute. -/
def sheafStep (op : Nat) (o : Opnd) (c : Checks) (clk next : Nat) (eff : State → State) (s : State) : State :=
  if solverGoes s then
    if fetchOk s = false then progFault 3 (rd s LSV_STATUS_PC) 0 0 s
    else if fetchWord s ≠ insWord op o then s
    else match c.first with
    | some code => progFault code (rd s LSV_STATUS_PC) (insWord op o) op s
    | none =>
      let t := eff s
      t |> wr I.LSV_CLKNOW (rd t I.LSV_CLKNOW + clk) |> inc I.LSV_INSTRNOW |> wr LSV_STATUS_PC next
        |> wr I.LSV_PCOUT (b2n (decide (2 ^ 20 ≤ next)))
  else s

/-- The next sequential pc. -/
def pcNext (s : State) : Nat := rd s LSV_STATUS_PC + 1

/-! Effects on the solver -/

/-- ACC written, with its record (R179). -/
def setAcc (v : Plane) (s : State) : State := { s with sol := { s.sol with acc := v } } |> record (.acc v)
/-- WACC written, with its record. -/
def setWacc (v : Word) (s : State) : State := { s with sol := { s.sol with wacc := v } } |> record (.wacc v)

/-- The record of an image write: space, absolute index of the element, and its new bit, plane or word (R179). -/
def recImage (space i v : Nat) (s : State) : State :=
  record (.image (Fin.ofNat 8 space) (BitVec.ofNat 21 i) (BitVec.ofNat 64 v)) s

/-- The record of a timer or counter element. -/
def recState (space i : Nat) (w : Nat × Nat) (s : State) : State :=
  recImage space i (Config.stateRecord w.1 w.2).toNat s

/-- The branch stack replaced; LSV_STATUS.DEPTH and LSV_PEAK.DEPTH follow it. -/
def setStack (l : List StackEntry) (s : State) : State :=
  { s with sol := { s.sol with stack := l } }
    |> wr LSV_STATUS_DEPTH l.length |> wr LSV_PEAK_DEPTH (max l.length (rd s LSV_PEAK_DEPTH))

/-- A push. -/
def push (e : StackEntry) (s : State) : State := setStack (e :: s.sol.stack) s

/-- A push would exceed 32 entries (R167). -/
def full (s : State) : Bool := decide (s.sol.stack.length ≥ 32)

/-- The top `n` entries as B values, or nothing if one is missing or is an R entry (R167). -/
def topB (n : Nat) (l : List StackEntry) : Option (List Plane) :=
  match n, l with
  | 0, _ => some []
  | n + 1, .b v :: l => (topB n l).map (v :: ·)
  | _ + 1, _ => none

/-- Fewer than `n` B entries on top. -/
def shortB (s : State) (n : Nat) : Bool := (topB n s.sol.stack).isNone

/-- The `k`-th of the popped entries. -/
def popped (s : State) (n k : Nat) : Plane := ((topB n s.sol.stack).getD []).getD k 0

/-- The stack without its top `n` entries. -/
def dropStack (n : Nat) (s : State) : State := setStack (s.sol.stack.drop n) s

/-! Bit logic (R165) -/

/-- Checks of an instruction that reads a bit operand. -/
def bitChecks (s : State) (o : Opnd) : Checks := { space := bitReadSpaceBad s o, range := rangeBad s o true }

/-- A bit logic instruction: ACC ← f ACC x. -/
def bitOp (op : Nat) (f : Plane → Plane → Plane) (o : Opnd) (s : State) : State :=
  sheafStep op o (bitChecks s o) 1 (pcNext s) (setAcc (f s.sol.acc (bitX s o))) s

def execLd (o : Opnd) (s : State) : Out := .next (bitOp 0x00 (fun _ x => x) o s)
def execLdn (o : Opnd) (s : State) : Out := .next (bitOp 0x01 (fun _ x => ~~~x) o s)
def execAnd (o : Opnd) (s : State) : Out := .next (bitOp 0x02 (fun a x => a &&& x) o s)
def execAndn (o : Opnd) (s : State) : Out := .next (bitOp 0x03 (fun a x => a &&& ~~~x) o s)
def execOr (o : Opnd) (s : State) : Out := .next (bitOp 0x04 (fun a x => a ||| x) o s)
def execOrn (o : Opnd) (s : State) : Out := .next (bitOp 0x05 (fun a x => a ||| ~~~x) o s)
def execXor (o : Opnd) (s : State) : Out := .next (bitOp 0x06 (fun a x => a ^^^ x) o s)
def execXorn (o : Opnd) (s : State) : Out := .next (bitOp 0x07 (fun a x => a ^^^ ~~~x) o s)

/-- An instruction without operand that writes ACC. -/
def accOp (op : Nat) (v : Plane) (o : Opnd) (s : State) : State :=
  sheafStep op o { illegal := noOperandBad o } 1 (pcNext s) (setAcc v) s

def execNot (o : Opnd) (s : State) : Out := .next (accOp 0x08 (~~~ s.sol.acc) o s)
def execLdim (o : Opnd) (s : State) : Out := .next (accOp 0x09 (mask s) o s)

/-- SHU (R166): lanes move up between the lowest and the highest active lane, x enters at the lowest. -/
def shiftUp (m a : Plane) (x : Bool) : Plane :=
  match lowLane m, highLane m with
  | some l, some h => ofLanes (fun k =>
      if k = l then x else if l < k ∧ k ≤ h then lane a (k - 1) else false)
  | _, _ => 0

/-- SHD (R166): lanes move down, x enters at the highest active lane. -/
def shiftDown (m a : Plane) (x : Bool) : Plane :=
  match lowLane m, highLane m with
  | some l, some h => ofLanes (fun k =>
      if k = h then x else if l ≤ k ∧ k < h then lane a (k + 1) else false)
  | _, _ => 0

/-- A lane shift reads a scalar bit operand only (Table 7.3). -/
def shiftChecks (s : State) (o : Opnd) : Checks := { space := o.p, range := rangeBad s o true }

def execShu (o : Opnd) (s : State) : Out :=
  .next (sheafStep 0x0A o (shiftChecks s o) 1 (pcNext s)
    (setAcc (shiftUp (mask s) s.sol.acc (lane (bitX s o) 0))) s)
def execShd (o : Opnd) (s : State) : Out :=
  .next (sheafStep 0x0B o (shiftChecks s o) 1 (pcNext s)
    (setAcc (shiftDown (mask s) s.sol.acc (lane (bitX s o) 0))) s)

/-- ANY and ALL (R166): with an empty mask both broadcast 0. -/
def anyLane (m a : Plane) : Bool := (a &&& m) != 0
def allLanes (m a : Plane) : Bool := (a &&& m) == m && m != 0

def execAny (o : Opnd) (s : State) : Out := .next (accOp 0x0C (broadcast (anyLane (mask s) s.sol.acc)) o s)
def execAll (o : Opnd) (s : State) : Out := .next (accOp 0x0D (broadcast (allLanes (mask s) s.sol.acc)) o s)

/-! Branch stack (R167) -/

def execOpen (o : Opnd) (s : State) : Out :=
  .next (sheafStep 0x10 o { space := bitReadSpaceBad s o, range := rangeBad s o true, ovf := full s } 1 (pcNext s)
    (fun t => t |> push (.b s.sol.acc) |> setAcc (bitX s o)) s)

/-- An instruction that pops one B entry and writes ACC with `f` of it and ACC. -/
def popOp (op : Nat) (f : Plane → Plane → Plane) (o : Opnd) (s : State) : State :=
  sheafStep op o { illegal := noOperandBad o, unf := shortB s 1 } 1 (pcNext s)
    (fun t => t |> dropStack 1 |> setAcc (f (popped s 1 0) s.sol.acc)) s

def execOrb (o : Opnd) (s : State) : Out := .next (popOp 0x11 (fun v a => v ||| a) o s)
def execAndb (o : Opnd) (s : State) : Out := .next (popOp 0x12 (fun v a => v &&& a) o s)
def execXorb (o : Opnd) (s : State) : Out := .next (popOp 0x13 (fun v a => v ^^^ a) o s)
def execDup (o : Opnd) (s : State) : Out :=
  .next (sheafStep 0x14 o { illegal := noOperandBad o, ovf := full s } 1 (pcNext s) (push (.b s.sol.acc)) s)
def execPop (o : Opnd) (s : State) : Out := .next (popOp 0x15 (fun v _ => v) o s)
def execPeek (o : Opnd) (s : State) : Out :=
  .next (sheafStep 0x16 o { illegal := noOperandBad o, unf := shortB s 1 } 1 (pcNext s) (setAcc (popped s 1 0)) s)
def execDrop (o : Opnd) (s : State) : Out :=
  .next (sheafStep 0x17 o { illegal := noOperandBad o, unf := shortB s 1 } 1 (pcNext s) (dropStack 1) s)

/-! Stores (R168) -/

/-- A store writes Q, M or W; W only scalar (Table 7.5, Table 7.2). -/
def storeChecks (s : State) (o : Opnd) : Checks :=
  { space := !(o.space == spQ || o.space == spM || o.space == spW) || (o.p && (!inTemplate s || o.space == spW)),
    range := rangeBad s o true }

/-- The store of a destination: `f d a` of the old destination and the input, lane by lane under the mask in plane form,
lane 0 in scalar form. -/
def storeEff (f : Bool → Bool → Bool) (o : Opnd) (s : State) : State :=
  let a := accA s o
  if o.p then
    let p := absPlane s o
    let d := readPlane s o.space p
    s |> writePlane o.space p (mask s) (ofLanes (fun k => f (lane d k) (lane a k)))
      |> (fun t => recImage o.space (64 * p) (readPlane t o.space p).toNat t)
  else if o.space = spW then
    let w := readW s (o.index / 32)
    let k := o.index % 32
    let b := f (w.getLsbD k) (lane a 0)
    s |> writeW (o.index / 32) (BitVec.ofNat 32 (setBits w.toNat k 1 (b2n b))) |> recImage spW o.index (b2n b)
  else
    let b := f (readBit s o.space o.index) (lane a 0)
    s |> writeBit o.space o.index b |> recImage o.space o.index (b2n b)

/-- A store instruction. -/
def storeOp (op : Nat) (f : Bool → Bool → Bool) (o : Opnd) (s : State) : State :=
  sheafStep op o (storeChecks s o) 1 (pcNext s) (storeEff f o) s

def execSt (o : Opnd) (s : State) : Out := .next (storeOp 0x18 (fun _ a => a) o s)
def execStn (o : Opnd) (s : State) : Out := .next (storeOp 0x19 (fun _ a => !a) o s)
def execSet (o : Opnd) (s : State) : Out := .next (storeOp 0x1A (fun d a => d || a) o s)
def execRst (o : Opnd) (s : State) : Out := .next (storeOp 0x1B (fun d a => d && !a) o s)
def execTgl (o : Opnd) (s : State) : Out := .next (storeOp 0x1C (fun d a => d != a) o s)

/-! Edges (R169, R170, R199) -/

/-- Checks of an instruction on the one space `sp`, in scalar or plane form. -/
def oneSpaceChecks (sp : Nat) (s : State) (o : Opnd) : Checks :=
  { space := o.space != sp || (o.p && !inTemplate s), range := rangeBad s o false }

/-- A plane of uninitialised marks, and a store to it. -/
def readMarks (s : State) (p : Nat) : Plane := BitVec.ofNat 64 (memNat s (imgMark + 8 * p) 8)
def writeMarks (p : Nat) (v : Plane) (s : State) : State := solStore (imgMark + 8 * p) (bytesLE 8 v.toNat) s

/-- An edge instruction: `f mem a` on the lanes whose mark is 0; every lane updated takes a as its memory and clears
its mark, where it is set; else only the memory is written (R170, R199). A scalar form acts on one element and broadcasts its result.
The records of the image writes come before that of ACC (DESIGN CHOICE, log entry 135). -/
def edgeEff (f : Bool → Bool → Bool) (o : Opnd) (s : State) : State :=
  let a := accA s o
  if o.p then
    let p := absPlane s o
    let m := mask s
    let mem := readPlane s spE p
    let mk := readMarks s p
    let r := ofLanes (fun k => lane m k && !lane mk k && f (lane mem k) (lane a k))
    s |> writePlane spE p m a |> when (mk &&& m != 0) (writeMarks p (mk &&& ~~~m))
      |> (fun t => (List.range 64).foldl (fun u k => when (lane m k) (recImage spE (64 * p + k) (b2n (lane a k))) u) t)
      |> setAcc r
  else
    let i := o.index
    let p := i / 64
    let mk := readMarks s p
    let r := !lane mk (i % 64) && f (readBit s spE i) (lane a 0)
    s |> writeBit spE i (lane a 0) |> when (lane mk (i % 64)) (writeMarks p (mk &&& ~~~(1#64 <<< (i % 64)))) |> recImage spE i (b2n (lane a 0))
      |> setAcc (broadcast r)

def execEdr (o : Opnd) (s : State) : Out :=
  .next (sheafStep 0x20 o (oneSpaceChecks spE s o) 1 (pcNext s) (edgeEff (fun m a => a && !m) o) s)
def execEdf (o : Opnd) (s : State) : Out :=
  .next (sheafStep 0x21 o (oneSpaceChecks spE s o) 1 (pcNext s) (edgeEff (fun m a => !a && m) o) s)

/-! Timers (R171, R197) -/

/-- A timer state word (Table 8.5), its fields. -/
structure TimerWord where
  long : Bool
  q : Bool
  inPrev : Bool
  run : Bool
  start : Nat
  et : Nat
  pt : Nat
  deriving DecidableEq, Repr

def TimerWord.ofPair (w : Nat × Nat) : TimerWord :=
  ⟨bit w.1 63, bit w.1 62, bit w.1 61, bit w.1 60, bits w.1 0 48, bits w.2 32 32, bits w.2 0 32⟩

def TimerWord.toPair (t : TimerWord) : Nat × Nat :=
  (b2n t.long * 2 ^ 63 + b2n t.q * 2 ^ 62 + b2n t.inPrev * 2 ^ 61 + b2n t.run * 2 ^ 60 + t.start % 2 ^ 48,
   t.et % 2 ^ 32 * 2 ^ 32 + t.pt % 2 ^ 32)

/-- The timer types. -/
inductive TimerType where
  | ton | tof | tp
  deriving DecidableEq, Repr

/-- One execution of a timer lane: the procedure of R197. -/
def timerExec (ty : TimerType) (m0 : Nat) (input : Bool) (w : TimerWord) : TimerWord :=
  let d0 := (m0 + 2 ^ 48 - w.start) % 2 ^ 48
  let sat := w.run && decide (d0 ≥ 2 ^ 42)
  let start0 := if sat then (m0 + 2 ^ 48 - 2 ^ 42) % 2 ^ 48 else w.start
  let d := if sat then 2 ^ 42 else d0
  let el0 := min (if w.long then d / 1000 else d) (2 ^ 32 - 1)
  let r : TimerWord :=
    if w.pt = 0 then { w with start := start0, q := input, et := 0, run := false }
    else match ty with
    | .ton =>
      if input then
        let el := if w.run then el0 else 0
        let et := min el w.pt
        { w with start := if w.run then start0 else m0, run := true, et := et, q := decide (et ≥ w.pt) }
      else { w with start := start0, q := false, et := 0, run := false }
    | .tof =>
      if input then { w with start := start0, q := true, et := 0, run := false }
      else
        let run1 := w.inPrev || w.run
        let start1 := if w.inPrev then m0 else start0
        let el := if w.inPrev then 0 else el0
        if run1 then
          let et := min el w.pt
          if et ≥ w.pt then { w with start := start1, et := et, q := false, run := false }
          else { w with start := start1, et := et, run := true }
        else { w with start := start1, run := false }
    | .tp =>
      let begin_ := !w.run && input && !w.inPrev
      let run1 := w.run || begin_
      let start1 := if begin_ then m0 else start0
      let el := if begin_ then 0 else el0
      let et1 := if run1 then min el w.pt else w.et
      let q1 := if run1 then decide (et1 < w.pt) else w.q
      let run2 := run1 && decide (et1 < w.pt)
      let et2 := if !run2 && !input && decide (et1 ≥ w.pt) then 0 else et1
      { w with start := start1, run := run2, et := et2, q := q1 }
  { r with inPrev := input }

/-- One timer element executed: its state word written, its output. -/
def timerElem (ty : TimerType) (i : Nat) (input : Bool) (s : State) : State × Bool :=
  let w := timerExec ty (rd s TMR_MONO_M0) input (TimerWord.ofPair (stateWord s (timerAddr i)))
  (s |> putStateWord (timerAddr i) w.toPair |> incSat I.TMR_TIMNOW 1 |> recState spT i w.toPair, w.q)

/-- A timer instruction (R169): in plane form the elements of the masked lanes; ACC takes the outputs, 0 outside the
mask. -/
def timerEff (ty : TimerType) (o : Opnd) (s : State) : State :=
  let a := accA s o
  if o.p then
    let p := absPlane s o
    let m := mask s
    let r := (List.range 64).foldl (fun (acc : State × Plane) k =>
      if lane m k then
        let e := timerElem ty (64 * p + k) (lane a k) acc.1
        (e.1, if e.2 then acc.2 ||| (1#64 <<< k) else acc.2)
      else acc) (s, 0)
    setAcc r.2 r.1
  else
    let e := timerElem ty o.index (lane a 0) s
    setAcc (broadcast e.2) e.1

/-- Clocks of a state-element or plane word instruction: scalar / plane. -/
def planeClk (o : Opnd) (sc pl : Nat) : Nat := if o.p then pl else sc

def timerOp (op : Nat) (ty : TimerType) (o : Opnd) (s : State) : State :=
  sheafStep op o (oneSpaceChecks spT s o) (planeClk o 2 16) (pcNext s) (timerEff ty o) s

def execTon (o : Opnd) (s : State) : Out := .next (timerOp 0x22 .ton o s)
def execTof (o : Opnd) (s : State) : Out := .next (timerOp 0x23 .tof o s)
def execTp (o : Opnd) (s : State) : Out := .next (timerOp 0x24 .tp o s)

/-! Counters (R172, R198) -/

/-- A counter state word (Table 8.6), its fields. -/
structure CounterWord where
  pv : Int
  cv : Int
  q : Bool
  qd : Bool
  cuMem : Bool
  cdMem : Bool
  deriving DecidableEq, Repr

def CounterWord.ofPair (w : Nat × Nat) : CounterWord :=
  ⟨toSigned 32 (bits w.1 32 32), toSigned 32 (bits w.1 0 32), bit w.2 63, bit w.2 62, bit w.2 61, bit w.2 60⟩

def CounterWord.toPair (c : CounterWord) : Nat × Nat :=
  (ofSigned 32 c.pv * 2 ^ 32 + ofSigned 32 c.cv,
   b2n c.q * 2 ^ 63 + b2n c.qd * 2 ^ 62 + b2n c.cuMem * 2 ^ 61 + b2n c.cdMem * 2 ^ 60)

/-- The counter types. -/
inductive CounterType where
  | ctu | ctd | ctud
  deriving DecidableEq, Repr

/-- Count up and down within the range of a signed word (R172). -/
def countUp (cv : Int) : Int := if cv < 0x7FFFFFFF then cv + 1 else cv
def countDown (cv : Int) : Int := if cv > -2147483648 then cv - 1 else cv

/-- One execution of a counter lane. R takes precedence over every count input, LD over counting; R over LD for CTUD
(R resets the count whatever else holds). -/
def counterExec (ty : CounterType) (cu cd r ld : Bool) (w : CounterWord) : CounterWord :=
  match ty with
  | .ctu =>
    let cv := if r then 0 else if cu && !w.cuMem then countUp w.cv else w.cv
    { w with cv := cv, q := decide (cv ≥ w.pv), qd := false, cuMem := cu }
  | .ctd =>
    let cv := if ld then w.pv else if cd && !w.cdMem then countDown w.cv else w.cv
    { w with cv := cv, q := decide (cv ≤ 0), qd := false, cdMem := cd }
  | .ctud =>
    let up := cu && !w.cuMem
    let dn := cd && !w.cdMem
    let cv := if r then 0 else if ld then w.pv
      else if up && dn then w.cv else if up then countUp w.cv else if dn then countDown w.cv else w.cv
    { w with cv := cv, q := decide (cv ≥ w.pv), qd := decide (cv ≤ 0), cuMem := cu, cdMem := cd }

/-- One counter element executed. -/
def counterElem (ty : CounterType) (i : Nat) (cu cd r ld : Bool) (s : State) : State × Bool :=
  let w := counterExec ty cu cd r ld (CounterWord.ofPair (stateWord s (counterAddr i)))
  (s |> putStateWord (counterAddr i) w.toPair |> incSat I.TMR_CNTNOW 1 |> recState spC i w.toPair, w.q)

/-- Inputs of a counter type on lane k: the count input from ACC, the others from the popped entries (Table 7.6). -/
def counterIn (ty : CounterType) (a : Plane) (ps : List Plane) (k : Nat) : Bool × Bool × Bool × Bool :=
  let e (j : Nat) := lane (ps.getD j 0) k
  match ty with
  | .ctu => (lane a k, false, e 0, false)
  | .ctd => (false, lane a k, false, e 0)
  | .ctud => (lane a k, e 0, e 1, e 2)

/-- Entries a counter type pops. -/
def counterPops : CounterType → Nat
  | .ctu => 1
  | .ctd => 1
  | .ctud => 3

/-- A counter instruction (R169, R172). -/
def counterEff (ty : CounterType) (o : Opnd) (s : State) : State :=
  let a := accA s o
  let n := counterPops ty
  let ps := (topB n s.sol.stack).getD []
  let s1 := dropStack n s
  if o.p then
    let p := absPlane s o
    let m := mask s
    let r := (List.range 64).foldl (fun (acc : State × Plane) k =>
      if lane m k then
        let i := counterIn ty a ps k
        let e := counterElem ty (64 * p + k) i.1 i.2.1 i.2.2.1 i.2.2.2 acc.1
        (e.1, if e.2 then acc.2 ||| (1#64 <<< k) else acc.2)
      else acc) (s1, 0)
    setAcc r.2 r.1
  else
    let i := counterIn ty a ps 0
    let e := counterElem ty o.index i.1 i.2.1 i.2.2.1 i.2.2.2 s1
    setAcc (broadcast e.2) e.1

def counterOp (op : Nat) (ty : CounterType) (o : Opnd) (s : State) : State :=
  let c := oneSpaceChecks spC s o
  sheafStep op o { c with unf := shortB s (counterPops ty) } (planeClk o 2 16) (pcNext s) (counterEff ty o) s

def execCtu (o : Opnd) (s : State) : Out := .next (counterOp 0x25 .ctu o s)
def execCtd (o : Opnd) (s : State) : Out := .next (counterOp 0x26 .ctd o s)
def execCtud (o : Opnd) (s : State) : Out := .next (counterOp 0x27 .ctud o s)

/-! Word operations (R173, R174) -/

/-- Checks of a word instruction: N 0; a space of `sps`; plane form only of W, where `pl` allows it, in template
context; index in range. -/
def wordChecks (sps : List Nat) (pl : Bool) (s : State) (o : Opnd) : Checks :=
  { illegal := o.n, space := !sps.contains o.space || (o.p && (!pl || o.space != spW || !inTemplate s)),
    range := rangeBad s o false }

def execWld (o : Opnd) (s : State) : Out :=
  .next (sheafStep 0x28 o (wordChecks [spW, spK, spT, spC] false s o) 1 (pcNext s) (setWacc (wordOperand s o)) s)

/-- Lane k is gated: ACC[k] = 1 and mask bit k = 1 (R174). -/
def gated (s : State) (k : Nat) : Bool := lane s.sol.acc k && lane (mask s) k

/-- The gated plane write Wk ← f Wk WACC. -/
def gatedWrite (f : Word → Word → Word) (o : Opnd) (s : State) : State :=
  let p := absPlane s o
  let g := s.sol.acc &&& mask s
  (List.range 64).foldl (fun t k =>
    let v := f (readW t (64 * p + k)) s.sol.wacc
    if lane g k then t |> writeW (64 * p + k) v |> recImage spW (64 * p + k) v.toNat else t) s

/-- WST: a W word, the preset of a timer or counter, or the gated lanes of a word plane. -/
def wstEff (o : Opnd) (s : State) : State :=
  let v := s.sol.wacc.toNat
  if o.p then gatedWrite (fun _ w => w) o s
  else if o.space = spT then
    let w := stateWord s (timerAddr o.index)
    let w1 := (w.1, setBits w.2 0 32 v)
    s |> putStateWord (timerAddr o.index) w1 |> recState spT o.index w1
  else if o.space = spC then
    let w := stateWord s (counterAddr o.index)
    let w1 := (setBits w.1 32 32 v, w.2)
    s |> putStateWord (counterAddr o.index) w1 |> recState spC o.index w1
  else s |> writeW o.index s.sol.wacc |> recImage spW o.index v

def execWst (o : Opnd) (s : State) : Out :=
  .next (sheafStep 0x29 o (wordChecks [spW, spT, spC] true s o) (planeClk o 1 8) (pcNext s) (wstEff o) s)

/-- A word arithmetic instruction: WACC ← f WACC v; in plane form Wk ← f Wk WACC where gated. -/
def wordOp (op : Nat) (f : Word → Word → Word) (o : Opnd) (s : State) : State :=
  sheafStep op o (wordChecks [spW, spK] true s o) (planeClk o 1 8) (pcNext s)
    (if o.p then gatedWrite f o else setWacc (f s.sol.wacc (wordOperand s o))) s

def execWadd (o : Opnd) (s : State) : Out := .next (wordOp 0x2A (fun a b => sat32 (wInt a + wInt b)) o s)
def execWsub (o : Opnd) (s : State) : Out := .next (wordOp 0x2B (fun a b => sat32 (wInt a - wInt b)) o s)
def execWmul (o : Opnd) (s : State) : Out := .next (wordOp 0x2C (fun a b => sat32 (wInt a * wInt b)) o s)

/-- The quotient of WDIV (R174): towards zero, with the stated results for a divisor of zero and for the overflow. -/
def wdiv (a b : Word) : Word :=
  if b = 0 then (if wInt a > 0 then 0x7FFFFFFF else if wInt a < 0 then 0x80000000 else 0)
  else if a = 0x80000000 ∧ b = 0xFFFFFFFF then 0x7FFFFFFF
  else BitVec.ofInt 32 (Int.tdiv (wInt a) (wInt b))

def execWdiv (o : Opnd) (s : State) : Out :=
  .next (sheafStep 0x2D o (wordChecks [spW, spK] false s o) 1 (pcNext s)
    (setWacc (wdiv s.sol.wacc (wordOperand s o))) s)

def execWand (o : Opnd) (s : State) : Out := .next (wordOp 0x2E (fun a b => a &&& b) o s)
def execWor (o : Opnd) (s : State) : Out := .next (wordOp 0x2F (fun a b => a ||| b) o s)

/-- A comparison of WACC: broadcast in scalar form, lane by lane under the mask in plane form. -/
def cmpOp (op : Nat) (f : Int → Int → Bool) (o : Opnd) (s : State) : State :=
  sheafStep op o (wordChecks [spW, spK] true s o) (planeClk o 1 8) (pcNext s)
    (setAcc (if o.p then
        ofLanes (fun k => lane (mask s) k && f (wInt s.sol.wacc) (wInt (readW s (64 * absPlane s o + k))))
      else broadcast (f (wInt s.sol.wacc) (wInt (wordOperand s o))))) s

def execWeq (o : Opnd) (s : State) : Out := .next (cmpOp 0x30 (fun a b => a == b) o s)
def execWne (o : Opnd) (s : State) : Out := .next (cmpOp 0x31 (fun a b => a != b) o s)
def execWlt (o : Opnd) (s : State) : Out := .next (cmpOp 0x32 (fun a b => decide (a < b)) o s)
def execWle (o : Opnd) (s : State) : Out := .next (cmpOp 0x33 (fun a b => decide (a ≤ b)) o s)
def execWgt (o : Opnd) (s : State) : Out := .next (cmpOp 0x34 (fun a b => decide (a > b)) o s)
def execWge (o : Opnd) (s : State) : Out := .next (cmpOp 0x35 (fun a b => decide (a ≥ b)) o s)

/-- WLIM (R174): W[i] below, W[i + 1] above; INDEX + 1 lies within W. -/
def execWlim (o : Opnd) (s : State) : Out :=
  let lo := wInt (readW s o.index)
  let hi := wInt (readW s (o.index + 1))
  let c := wordChecks [spW] false s o
  .next (sheafStep 0x36 o { c with range := decide (o.index + 1 ≥ scalarLimit s spW false) } 1 (pcNext s)
    (setWacc (BitVec.ofInt 32 (min (max (wInt s.sol.wacc) lo) hi))) s)

def execWsel (o : Opnd) (s : State) : Out :=
  .next (sheafStep 0x37 o (wordChecks [spW, spK] false s o) 1 (pcNext s)
    (when (lane s.sol.acc 0) (setWacc (wordOperand s o))) s)

/-! Control (R175 to R178) -/

/-- A K operand: SPACE is K and not in plane form; N is 0. -/
def kChecks (o : Opnd) : Checks := { illegal := o.n, space := o.space != spK || o.p }

/-- Selection recorded in the solver and in LSV_TSEL. -/
def setSel (x : Option Selection) (s : State) : State :=
  { s with sol := { s.sol with sel := x } }
    |> wr LSV_TSEL_VALID (b2n x.isSome)
    |> wr LSV_TSEL_TEMPLATE (match x with | some t => t.template | none => 0)

def execTsel (o : Opnd) (s : State) : Out :=
  let c := kChecks o
  .next (sheafStep 0x38 o
    { c with context := inTemplate s, range := decide (o.index > 511) || !tplValid s o.index } 4 (pcNext s)
    (setSel (some (tplLoad s o.index))) s)

def execTrun (o : Opnd) (s : State) : Out :=
  .next (sheafStep 0x39 o
    { illegal := targetBad o false, context := inTemplate s || s.sol.sel.isNone, range := !inProgram s o.index,
      ovf := full s } 2 o.index
    (fun t => t |> push (.r (pcNext s % 2 ^ 20) true) |> set1 LSV_STATUS_CTX) s)

/-- The condition of JMPC (R176). -/
def jmpcTaken (o : Opnd) (s : State) : Bool := anyLane (mask s) s.sol.acc != o.n

def execJmpc (o : Opnd) (s : State) : Out :=
  .next (sheafStep 0x3A o { illegal := targetBad o true, range := !inProgram s o.index }
    (if jmpcTaken o s then 2 else 1) (if jmpcTaken o s then o.index else pcNext s) id s)

def execJmp (o : Opnd) (s : State) : Out :=
  .next (sheafStep 0x3B o { illegal := targetBad o false, range := !inProgram s o.index } 2 o.index id s)

def execCall (o : Opnd) (s : State) : Out :=
  .next (sheafStep 0x3C o { illegal := targetBad o false, range := !inProgram s o.index, ovf := full s } 2 o.index
    (push (.r (pcNext s % 2 ^ 20) false)) s)

/-- The R entry on top of the stack. -/
def topR (s : State) : Option (Nat × Bool) :=
  match s.sol.stack with
  | .r ret t :: _ => some (ret, t)
  | _ => none

def execRet (o : Opnd) (s : State) : Out :=
  .next (sheafStep 0x3D o { illegal := noOperandBad o, unf := (topR s).isNone } 2 ((topR s).getD (0, false)).1
    (fun t => t |> dropStack 1 |> when ((topR s).getD (0, false)).2 (clr LSV_STATUS_CTX)) s)

def execMark (o : Opnd) (s : State) : Out :=
  .next (sheafStep 0x3E o (kChecks o) 1 (pcNext s) (wr LSV_MARK_TAG o.index) s)

def execEnd (o : Opnd) (s : State) : Out :=
  .next (sheafStep 0x3F o { illegal := noOperandBad o, context := inTemplate s || !s.sol.stack.isEmpty } 1 (pcNext s)
    (fun t => t |> setSel none |> clr LSV_STATUS_RUNNING |> set1 I.CYC_SOLVDONE) s)

/-- The reserved opcodes (Tables 7.3 and 7.5). -/
def reservedOpcodes : List Nat := [0x0E, 0x0F, 0x1D, 0x1E, 0x1F]

/-- A reserved opcode: fault ILLEGAL (R180). An opcode that is not reserved has a row of its own: nothing happens. -/
def execReservedOpcode (op : Nat) (o : Opnd) (s : State) : Out :=
  .next (if reservedOpcodes.contains op then sheafStep op o { illegal := true } 1 (pcNext s) id s else s)

/-- The fetch at a pc outside the active program: fault RANGE; LSV_FAULTPC names that pc modulo 2^20, LSV_FAULTINS and OPCODE read 0
(R176). Nothing happens at a pc inside it. -/
def execFetchOutsideProgram (s : State) : Out :=
  .next (if solverGoes s && !fetchOk s then
    progFault 3 (rd s LSV_STATUS_PC) 0 0 s else s)

end Sys2Proof.Machine
end

