-- ==== Sys2Proof/Machine/Ckp.lean ====
section
/-! DEFINITION. The checkpoint unit: the checkpoint store (R106), staged outputs and the register queue discarded (R109,
R110), replay (R120), rollback and failed commits (R120 to R124). -/

namespace Sys2Proof.Machine

open R

/-! The checkpoint store -/

/-- The architectural state as it stands (Table 5.1). -/
def snapshot (s : State) : Checkpoint :=
  ⟨s.cores, s.sol.acc, s.sol.wacc, s.sol.stack, rd s I.CYC_T0SEC, rd s I.CYC_T0NS⟩

/-- The state is captured into the bank that is not valid (Table 5.4, step 3), which then becomes valid (step 6). -/
def captureBank (s : State) : State :=
  let b := 1 - rd s I.CKP_BANK
  { s with banks := s.banks.set b (snapshot s) } |> wr I.CKP_BANK b

/-- The valid checkpoint. -/
def validBank (s : State) : Checkpoint := s.banks.getD (rd s I.CKP_BANK) Checkpoint.empty

/-- Context and template selection cleared (R156). -/
def clearContext (s : State) : State := s |> setSel none |> clr LSV_STATUS_CTX

/-- Cores and solvers are reset, their caches invalidated and their architectural state loaded from the valid bank (Table 5.5, step
2); no core holds a reservation after a reset. -/
def restoreArch (s : State) : State :=
  let b := validBank s
  { s with cores := b.cores.map (fun c => { c with resv := none }), sol := { s.sol with acc := b.acc, wacc := b.wacc } }
    |> cacheInval |> setStack b.stack |> clearContext |> clr LSV_STATUS_RUNNING
    |> clr (I.CORE_TASK 0) |> clr (I.CORE_TASK 1) |> clr (I.CORE_TASK 2) |> clr (I.CORE_TASK 3)

/-- Cores and solvers are reset without a checkpoint: ACC and WACC 0, stack empty, selection clear (Table 5.6,
LASTRES 3). -/
def resetArch (s : State) : State :=
  { s with cores := List.replicate 4 Core.reset, sol := { s.sol with acc := 0, wacc := 0 } }
    |> cacheInval |> setStack [] |> clearContext |> clr LSV_STATUS_RUNNING
    |> clr (I.CORE_TASK 0) |> clr (I.CORE_TASK 1) |> clr (I.CORE_TASK 2) |> clr (I.CORE_TASK 3)

/-- Staged outputs and the register queue are discarded (R109, R110); the slices are reset, and with them the stores they have
stalled on (R116). -/
def discardStaged (s : State) : State := { s with qDirty := [], regq := [], stalled := [] } |> clr CKP_REGQ_ENTRIES |> clr I.CKP_REGDIRECT

/-- One undo log entry written back: only entries of this window with the number the cycle carries. A page of image SRAM that a join
has copied is dirty (R97). -/
def replayEntry (s : State) (e : LogEntry) : State :=
  if e.valid && e.seqlo == (rd s CKP_SEQ + 1) % 65536 then
    s |> when (regionOf e.addr == .image) (joinMark (imgPage e.addr)) |> memWrite e.addr e.data
  else s

/-- The replay, newest first; the log is then empty (R120). The state of the safety runtime, which lies in logged lines, is
restored with them. -/
def replay (s : State) : State :=
  let s1 := s.undo.reverse.foldl replayEntry s
  { s1 with safe := s1.safeC } |> undoEmpty |> clr CKP_LOGUSE_ENTRIES

/-! Failed commits (R123, R124) -/

/-- FAILCOUNT after a failed commit: one more, or FAILLIM where the state is lost (Table 5.6). -/
def failCountAfter (lost : Bool) (s : State) : Nat :=
  if lost then rd s CKP_CTRL_FAILLIM else min 15 (rd s CKP_STATUS_FAILCOUNT + 1)

/-- The copy of a join, and the loading of a change, go on in the idle phase, unless the next cycle has begun (Table 4.6, R97, R150). -/
def copyResume (s : State) : State := when (!on s I.CYC_IN) (clr I.SLC_COPYSTOP) s

/-- Slice A, reset and restored, runs again after an uncorrectable ECC error; while its PLL is out of lock it does not (Table 5.6). -/
def soloRestart (s : State) : State := when (!on s (I.PLL_LOST 0)) (clr (I.SLC_STOPPED 0)) s

/-- The log window is closed, and what it held of slice deliveries is made, before any that this end brings (R456). -/
def windowEnds (s : State) : State := s |> clr CKP_STATUS_LOGOPEN |> deliverHeld

/-- A failed commit: event 64, at FAILLIM 70, and 72 where the state is lost, in ascending order (R454); LASTRES, counts; staged
outputs, register queue and log are discarded; at FAILLIM STOP with cause 0x02; else a pending STOP or HALT takes effect. LASTRES 6
finds the controller already in STOP and leaves FAILCOUNT alone. A slice A that LASTRES 7 reset with its state lost runs again. -/
def failedCommit (lastres : Nat) (lost : Bool) (s : State) : State :=
  let fc := failCountAfter lost s
  let limit := lastres != 6 && decide (fc ≥ rd s CKP_CTRL_FAILLIM)
  let s1 := s |> windowEnds |> raise 64 |> when limit (raise 70) |> when lost (raise 72)
    |> wr CKP_STATUS_LASTRES lastres |> incSat CKP_COUNT_FAILED 1
    |> when lost (fun t => t |> resetArch |> set1 CKP_STATUS_STATELOST)
    |> when (lost && lastres == 7) soloRestart
    |> discardStaged |> undoEmpty |> stepEnd |> endCycle |> clr CKP_STATUS_NONRB |> clr I.CYC_LATE
    |> clr I.CKP_WASROLLED |> clr I.CYC_CAUSE |> copyResume
  if lastres = 6 then s1
  else
    let s2 := wr CKP_STATUS_FAILCOUNT fc s1
    if limit then autoStop 2 s2 else pendingStopEffect s2

/-- The newest cycle, whose window has not opened, fails with LASTRES: it has executed nothing, and slice A, where it has stopped, is
reset and restored. The cycle before may still be in progress; it goes on. -/
def newestFails (lastres : Nat) (s : State) : State :=
  let s1 := s |> clr I.CYC_IN |> clr I.CYC_INRUN |> clr I.CYC_WAITPREV
  if rd s I.CYC_PH = 0 then s1 |> when (lastres == 7) (fun t => t |> restoreArch |> soloRestart) |> failedCommit lastres false
  else
    let fc := failCountAfter false s1
    s1 |> raise 64 |> wr CKP_STATUS_LASTRES lastres |> incSat CKP_COUNT_FAILED 1 |> wr CKP_STATUS_FAILCOUNT fc
      |> when (decide (fc ≥ rd s1 CKP_CTRL_FAILLIM)) (fun t => t |> raise 70 |> autoStop 2)

/-- Steps 1 and 2 of Table 5.5: capture stops, the slices are held and reset, and the checkpoint is loaded. For a rollback
(cause 0) event 65 is raised and counted; for the failed commits that only name the steps it is not (R123). -/
def beginRestore (cause : Nat) (s : State) : State :=
  s |> when (cause == 0) (fun t => t |> raise 65 |> incSat CKP_COUNT_ROLLBACK 1 |> set1 I.CKP_WASROLLED)
    |> wr I.CYC_PH 4 |> wr I.CYC_CAUSE cause |> wr I.CKP_TD (now s)
    |> clr CKP_STATUS_LOGOPEN |> clr I.CKP_VREQ |> clr I.CKP_PROGFAULT |> restoreArch |> discardStaged

/-- A result that needs the checkpoint: restore for `cause`, or, in a non-rollbackable cycle, a failed commit with the
state lost: LASTRES 3, 7 for a stopped slice A, 5 for an overrun (Table 5.6; DEDUCED, log entry 71). -/
def restoreOrLose (cause : Nat) (s : State) : State :=
  if on s CKP_STATUS_NONRB then failedCommit (if cause = 5 ∨ cause = 7 then cause else 3) true s else beginRestore cause s

/-- A cycle abandoned without commit, by the power-fail sequence (`restore` = false) or by a demotion, where a rollbackable
cycle's state is restored as for other failed commits (R123, Tables 5.6 and 2.5, R432; DESIGN CHOICE, log entry 60). LASTRES
and FAILCOUNT stay. -/
def abandonCycle (restore : Bool) (s : State) : State :=
  if rd s I.CYC_PH = 0 ∧ on s I.CYC_IN = false then s
  else
    s |> windowEnds |> raise 64 |> incSat CKP_COUNT_FAILED 1
      |> when (restore && !on s CKP_STATUS_NONRB && rd s I.CYC_PH != 0) (fun t => t |> restoreArch |> replay)
      |> discardStaged |> undoEmpty |> stepEnd |> endCycle |> clr I.CYC_IN |> clr CKP_STATUS_NONRB |> clr I.CYC_LATE
      |> clr I.CKP_WASROLLED |> clr I.CYC_CAUSE

/-- A cycle whose slices execute: solve, or the wait for its verdict. -/
def solving (s : State) : Bool := rd s I.CYC_PH == 1 || rd s I.CYC_PH == 2

/-- The verdict is requested at the end of solve: the log window closes (R105). -/
def requestVerdict (s : State) : State :=
  s |> clr CKP_STATUS_LOGOPEN |> set1 I.CKP_VREQ |> wr I.CYC_PH 2 |> wr I.CKP_TV (now s)

/-- The core and solver state of a checkpoint (Table 5.1): integer and floating-point registers, pc and CSRs of each core, ACC, WACC, the
stack, and the t0 stamp, in this order (DESIGN CHOICE, log entry 105: the spec gives the 4 KiB no layout). -/
def archData (c : Checkpoint) : List Nat :=
  c.cores.flatMap (fun k => k.x ++ k.f ++ [k.pc, b2n k.user] ++ k.csr.flatMap (fun p => [p.1, p.2]))
    ++ [c.acc.toNat, c.wacc.toNat]
    ++ c.stack.flatMap (fun e => match e with | .b v => [0, v.toNat] | .r ret t => [1, ret, b2n t])
    ++ [c.t0sec, c.t0ns]

end Sys2Proof.Machine
end

