-- ==== Sys2Proof/Machine/Slices.lean ====
section
/-! DEFINITION. The slices and the Winnower (R79 to R104): signatures and their vote, the handling of a divergence by
mode, joins, mode changes, self-test, scrub. The participating slices are one copy in this model (log entry 5): the
records of their cores in a window come with the command. -/

namespace Sys2Proof.Machine

open R

/-! Signatures (R85) -/

/-- One bit shifted into the CRC-64 register, most significant bit first. -/
def crc64Bit (c : Nat) (b : Bool) : Nat :=
  let top := bit c 63 != b
  let sh := c * 2 % 2 ^ 64
  if top then Nat.xor sh 0x42F0E1EBA9EA3693 else sh

/-- The top `n` bits of a record folded in, most significant first. -/
def crc64Rec (c : Nat) (r : Nat) : Nat → Nat
  | 0 => c
  | n + 1 => crc64Rec (crc64Bit c (bit r n)) r n

/-- The signature of the records of one stream in window `w`; records are `width` bits wide. -/
def signature (w width : Nat) (rs : List Nat) : Nat :=
  rs.foldl (fun c r => crc64Rec c r width) (Nat.xor 0xFFFFFFFFFFFFFFFF (w % 2 ^ 64))

/-- The records of the solver that a slice has delivered in the window: all of them, or, of a slice whose solver has stopped alone,
those before it stopped (R182). -/
def solverRecs (s : State) (a : SliceAct) : List CtlRec :=
  match a.fault with
  | some x => s.recs.take x.recs
  | none => s.recs

/-- Records of the cores with those of the solver among them: each of these comes with the number of core records that stand before
it. -/
def interleave : Nat → List CtlRec → List (Nat × CtlRec) → List CtlRec
  | _, [], sol => sol.map (·.2)
  | n, r :: rs, sol => (sol.takeWhile (·.1 ≤ n)).map (·.2) ++ r :: interleave (n + 1) rs (sol.dropWhile (·.1 ≤ n))

/-- Stream 3 of a slice in the order of R85: within a clock the solver's records stand after the cores'. A record whose place is not
told stands at the end. -/
def stream3 (s : State) (a : SliceAct) : List CtlRec :=
  interleave 0 a.control ((solverRecs s a).mapIdx (fun i r => (a.solver.getD i a.control.length, r)))

/-- The three signatures of slice `k` in the window that ends (Table 4.2: 96, 128 and 128 bits). An injected divergence inverts the signature of stream 1 (R104; DESIGN CHOICE, log entry 95). -/
def sliceSig (s : State) (o : WindowObs) (k : Nat) : Nat × Nat × Nat :=
  let a := o.acts.getD k SliceAct.still
  let w := rd s I.WNW_WINDOW
  let g := signature w 96 (a.arch.map archWord)
  (if rd s I.WNW_INJ = k + 1 then 2 ^ 64 - 1 - g else g, signature w 128 (a.stores.map storeWord),
   signature w 128 ((stream3 s a).map ctlWord))

/-- The first stream in which two slices differ, 1 to 3: the one that WNW_DIVINFO names where several differ (DESIGN CHOICE, log
entry 96). -/
def diffStream (x y : Nat × Nat × Nat) : Nat :=
  if x.1 != y.1 then 1 else if x.2.1 != y.2.1 then 2 else if x.2.2 != y.2.2 then 3 else 0

/-- The result of a window (R86). -/
inductive Vote where
  | clean
  /-- two slices equal, slice `k` different, first in stream `src` -/
  | minority (k src : Nat)
  /-- any other difference; the slices that differ as a mask -/
  | noMajority (slices src : Nat)
  deriving DecidableEq, Repr

/-- Slice `k` participates. -/
def participates (s : State) (k : Nat) : Bool := bit (rd s SLC_MODE_PART) k

/-- Participating slices. -/
def partCount (s : State) : Nat :=
  b2n (participates s 0) + b2n (participates s 1) + b2n (participates s 2)

/-- Execution mode codes (Table 4.4). -/
def solo (s : State) : Bool := rd s SLC_MODE == 2

/-- Slice A runs alone, in Solo mode or in Idle, and nothing is compared (R65, Table 4.4). -/
def uncompared (s : State) : Bool := solo s || decide (partCount s ≤ 1)

/-- The slice on probation is compared with its sources (Table 4.6, step 5). -/
def probation (s : State) (k : Nat) : Bool := rd s SLC_READMIT_PHASE == 4 && bit (rd s SLC_READMIT_SLICES) k

/-- The comparators' result for three participating slices, from their pairwise comparisons. -/
def voteThree (ab bc ca : Nat) : Vote :=
  if ab = 0 ∧ bc = 0 ∧ ca = 0 then .clean
  else if ab = 0 then .minority 2 (max bc ca)
  else if bc = 0 then .minority 0 (max ab ca)
  else if ca = 0 then .minority 1 (max ab bc)
  else .noMajority 7 ab

/-- The voted result of pairwise comparisons over the participating slices: which stream differs between A and B, B and C, C and A. -/
def voteOf (s : State) (ab bc ca : Nat) : Vote :=
  if uncompared s then .clean
  else if partCount s = 3 then voteThree ab bc ca
  else
    let d := if participates s 0 ∧ participates s 1 then ab else if participates s 1 then bc else ca
    if d = 0 then .clean else .noMajority (rd s SLC_MODE_PART) d

/-- The slices that a mask of three bits names, if it is one. -/
def oneSlice (m : Nat) : Option Nat := if m = 1 then some 0 else if m = 2 then some 1 else if m = 4 then some 2 else none

/-- The mask of the slices that a vote names. -/
def Vote.slices : Vote → Nat
  | .clean => 0
  | .minority k _ => 2 ^ k
  | .noMajority m _ => m

/-- A vote's source. -/
def Vote.source : Vote → Nat
  | .clean => 0
  | .minority _ src => src
  | .noMajority _ src => src

/-- Slices that the port check, the store vote or ECC has named are merged into the result of the window (R86): of three, one odd slice
is a minority; of two, either is a Duo mismatch. -/
def mergeNamed (s : State) (named src : Nat) (v : Vote) : Vote :=
  let m := Nat.lor v.slices (Nat.land named (rd s SLC_MODE_PART))
  let g := if v = .clean then src else v.source
  if uncompared s ∨ m = 0 then .clean
  else if partCount s = 3 ∧ (oneSlice m).isSome = true then .minority ((oneSlice m).getD 0) g
  else .noMajority m g

/-- The slices that a scrubbed line's old contents, or a window's lines, show as different, with what is named so far. -/
def namedNow (s : State) (o : WindowObs) : Nat := Nat.lor (rd s I.WNW_NAMED) o.lines

/-- Source of what is named: the first, or the store vote for the old line of an undo log entry (R113). -/
def namedSource (s : State) : Nat := if rd s I.WNW_NAMED = 0 then 5 else rd s I.WNW_NAMESRC

/-- The result of the window that ends (R86). -/
def voteWindow (s : State) (o : WindowObs) : Vote :=
  let g := sliceSig s o
  mergeNamed s (namedNow s o) (namedSource s) (voteOf s (diffStream (g 0) (g 1)) (diffStream (g 1) (g 2)) (diffStream (g 2) (g 0)))

/-- The first participating slice. -/
def firstPart (s : State) : Nat := if participates s 0 then 0 else if participates s 1 then 1 else 2

/-- Stream in which a slice on probation differs from the first participating slice in this window, or what it has been named for;
0: it agrees (Table 4.6, step 5). -/
def probationDiff (s : State) (o : WindowObs) (k : Nat) : Nat :=
  if !probation s k || participates s k then 0
  else
    let d := diffStream (sliceSig s o k) (sliceSig s o (firstPart s))
    if d ≠ 0 then d else if bit (namedNow s o) k then namedSource s else 0

/-- The record of a divergence (Tables 4.18 to 4.20): NOMAJ shows a no-majority result, its count takes Duo mismatches too, and
every slice named counts (DEDUCED, log entry 27). -/
def recordDiv (slices src : Nat) (nomaj count : Bool) (s : State) : State :=
  s |> wr WNW_DIVINFO_WINDOW (rd s I.WNW_WINDOW) |> wr WNW_DIVINFO_NOMAJ (b2n nomaj)
    |> wr WNW_DIVINFO_SOURCE src |> wr WNW_DIVINFO_SLICES slices
    |> wr WNW_DIVTIME_SEC (rd s TIM_SEC) |> wr WNW_DIVTIME_NSEC (rd s TIM_NSEC)
    |> when count (incSat WNW_DIVCNT_NOMAJ 1)
    |> when (bit slices 0) (incSat WNW_DIVCNT_A 1)
    |> when (bit slices 1) (incSat WNW_DIVCNT_B 1)
    |> when (bit slices 2) (incSat WNW_DIVCNT_C 1)

/-! Joins (R95, R96) -/

/-- The controller is in STOP or FAULT: joins and mode changes do not wait for a commit (R89, R94). -/
def ctlStopped (s : State) : Bool := ctlState s == stSTOP || ctlState s == stFAULT

/-- Slices that the mode leaves free, unless they join or wait to (Table 4.5, R65). -/
def freeSlices (s : State) : Nat :=
  let m := rd s SLC_MODE
  Nat.land (if m = 1 then 4 else if m = 2 then 6 else 0)
    (Nat.land (7 - rd s SLC_READMIT_SLICES) (7 - rd s I.SLC_REJOIN))

/-- A join starts at tJ: the joining slices are fenced and reset, and their own tasks end (Table 4.6, step 1; Table 4.5). Where the next
cycle has already begun, the copy waits for its idle phase. -/
def joinStart (s : State) : State :=
  let m := rd s I.SLC_REJOIN
  if m = 0 ∨ rd s SLC_READMIT_PHASE ≠ 0 then s
  else { s with joinDirty := [] }
    |> wr SLC_READMIT_SLICES m |> wr SLC_READMIT_PHASE 1 |> clr SLC_READMIT_CYCLES |> clr SLC_READMIT_DIRTY
    |> clr I.SLC_CPT |> clr I.SLC_COPIED |> wr I.SLC_COPYSTOP (rd s I.CYC_IN) |> clr I.SLC_REJOIN
    |> wr SLC_MODE_FENCED (Nat.lor (rd s SLC_MODE_FENCED) m) |> wr I.SLC_FREE (Nat.land (rd s I.SLC_FREE) (7 - m))
    |> eachSlice m sliceReset

/-- The mode takes its requested value: event 46, the MODE command completes (R93). Slices that leave are free at once where no cycle
start will come (R94). -/
def modeDone (s : State) : State :=
  s |> wr SLC_MODE (rd s SLC_MODE_REQMODE) |> clr SLC_MODE_REQPEND |> wr SLC_MODESTAT_RESULT 0 |> raise 46 |> sfuRecompute
    |> completeWait 0x26 cOK |> (fun t => when (ctlStopped t) (wr I.SLC_FREE (freeSlices t)) t)

/-- The joined slices participate from now on: event 37, and a mode change that waited for them is complete. -/
def joinComplete (s : State) : State :=
  let m := rd s SLC_READMIT_SLICES
  s |> wr SLC_MODE_PART (Nat.lor (rd s SLC_MODE_PART) m)
    |> wr SLC_MODE_FENCED (Nat.land (rd s SLC_MODE_FENCED) (7 - m))
    |> clr SLC_READMIT_PHASE |> clr SLC_READMIT_SLICES |> clr SLC_READMIT_TRIES |> clr SLC_READMIT_DIRTY |> raise 37
    |> when (on s SLC_MODE_REQPEND) modeDone

/-- A join attempt fails (R96): event 38 and a new attempt at the next commit, until which the slice stays as FENCED shows it (DESIGN
CHOICE, log entry 97). Slices that join together have one count of attempts, and fail together (DESIGN CHOICE, log entry 130). After MAXTRY failures the slices are marked
failed, event 39 with a critical entry, and a mode request that waited fails with JOINFAIL and event 47 (R93). -/
def joinFailed (s : State) : State :=
  let m := rd s SLC_READMIT_SLICES
  let n := rd s SLC_READMIT_TRIES + 1
  let s1 := s |> raise 38 |> clr SLC_READMIT_PHASE |> clr SLC_READMIT_SLICES |> clr SLC_READMIT_DIRTY
  if n ≥ max 1 (rd s SLC_READCFG_MAXTRY) then
    s1 |> clr SLC_READMIT_TRIES |> wr SLC_FAILED (Nat.lor (rd s SLC_FAILED) m) |> raiseCrit 39
      |> when (on s SLC_MODE_REQPEND) (fun t =>
          t |> clr SLC_MODE_REQPEND |> wr SLC_MODESTAT_RESULT 5 |> raise 47 |> completeWait 0x26 cJOINFAIL)
  else
    s1 |> wr SLC_READMIT_TRIES n |> wr I.SLC_REJOIN (Nat.lor (rd s I.SLC_REJOIN) m)
      |> when (ctlStopped s) joinStart

/-- A join in progress is abandoned because the sources diverged (R89, R96). -/
def joinAbandon (s : State) : State := when (rd s SLC_READMIT_PHASE != 0) joinFailed s

/-! Divergences (R89, R90, R18) -/

/-- A minority slice is fenced and joins again at the next commit, or at once while the controller is in STOP or FAULT (R89). A
slice marked failed is not joined again (R96). -/
def fenceMinority (k : Nat) (s : State) : State :=
  let m := 2 ^ k
  s |> sliceLeaves k |> wr SLC_MODE_PART (Nat.land (rd s SLC_MODE_PART) (7 - m))
    |> wr SLC_MODE_FENCED (Nat.lor (rd s SLC_MODE_FENCED) m)
    |> when (!bit (rd s SLC_FAILED) k) (fun t => wr I.SLC_REJOIN (Nat.lor (rd t I.SLC_REJOIN) m) t)
    |> when (ctlStopped s) joinStart

/-- A minority is reported and handled: at once, or, while a commit is in progress, after the commit point (R89, R119). Two slices that
are reported one after the other during one commit are both judged as minorities (DESIGN CHOICE, log entry 98). -/
def minority (k src : Nat) (s : State) : State :=
  s |> recordDiv (2 ^ k) src false false |> raise (32 + k)
    |> (if rd s I.CYC_PH = 3 then wr I.WNW_DEFERMIN (Nat.lor (rd s I.WNW_DEFERMIN) (2 ^ k)) else fenceMinority k)

/-- No majority (event 35) or Duo mismatch (event 36): the participating slices are reset and restored; a cycle that
executes rolls back, or fails with the state lost if it cannot; while a commit is in progress the report waits for the
commit point (R89, R90, R119). -/
def noMajority (ev slices src : Nat) (s : State) : State :=
  let s1 := s |> recordDiv slices src (ev == 35) true |> raise ev
  if rd s I.CYC_PH = 3 then set1 I.WNW_DEFERDUO s1
  else
    let s2 := joinAbandon s1
    if solving s2 then restoreOrLose 0 s2
    else if rd s2 I.CYC_PH = 4 then s2
    else restoreArch s2

/-- A slice that stops in Solo mode (R18, R80): slice A fails the cycle in progress with LASTRES 7, and one that has only started with
it; slices B and C end only their own tasks. -/
def soloStop (k : Nat) (s : State) : State :=
  let s1 := set1 (I.SLC_STOPPED k) s
  if k = 0 then
    s1 |> when (solving s1) (restoreOrLose 7) |> (fun t => when (on t I.CYC_IN) (newestFails 7) t)
  else s1

/-- The attempt of a slice on probation that differs fails (R96). -/
def probationFails (k src : Nat) (s : State) : State := s |> recordDiv (2 ^ k) src false false |> joinFailed

/-- Slice `k` is divergent from now on (R18): one that does not participate is only reported. -/
def divergentNow (k src : Nat) (s : State) : State :=
  if probation s k && !participates s k then probationFails k src s
  else if uncompared s then soloStop k s
  else if !participates s k then s
  else if partCount s = 3 then minority k src s
  else noMajority 36 (2 ^ k) src s

/-- Slices of a mask are named divergent by the port check, the store vote or ECC; the window in which this happens shows it (R86). -/
def nameDivergent (m src : Nat) (s : State) : State :=
  let n := Nat.land m (Nat.lor (rd s SLC_MODE_PART) (if rd s SLC_READMIT_PHASE = 4 then rd s SLC_READMIT_SLICES else 0))
  if n = 0 then s
  else s |> when (rd s I.WNW_NAMED == 0) (wr I.WNW_NAMESRC src) |> wr I.WNW_NAMED (Nat.lor (rd s I.WNW_NAMED) n)

/-- A voted result is handled by mode (R89, R90). With two participating slices the difference is a Duo mismatch. -/
def handleVote (v : Vote) (s : State) : State :=
  match v with
  | .clean => s
  | .minority k src => minority k src s
  | .noMajority m src => noMajority (if partCount s = 3 then 35 else 36) m src s

/-! ECC and PLL (R80, R18) -/

/-- ECC_CORRECTED: a single-bit error of slice `k` corrected in line (R80). -/
def execEccCorrected (k : Fin 3) (s : State) : Out :=
  .next (s |> incSat (SLC_ECC_CORR k) 1 |> raise 44)

/-- Slice `k` reports itself divergent (R80): in Solo mode it stops. -/
def eccUncorrectable (k : Fin 3) (s : State) : State :=
  s |> raise 45 |> incSat (SLC_ECC_UNCORR k) 1
    |> (fun t => if uncompared t && !probation t k then soloStop k t else nameDivergent (2 ^ k.val) 6 t)

/-- PLL_RELOCK: the PLL of slice `k` has locked again; slice A, stopped in Solo mode, runs again (Table 5.6, LASTRES 7), and so does
slice B or C with its own tasks, from its cores as they stood (DESIGN CHOICE, log entry 127). -/
def execPllRelock (k : Fin 3) (s : State) : Out :=
  .next (s |> clr (I.PLL_LOST k) |> clr (I.SLC_STOPPED k))

/-! Mode changes (R92 to R94) -/

/-- Slices that a mode names. -/
def modeSlices (m : Nat) : Nat := if m = 0 then 7 else if m = 1 then 3 else 1

/-- Slices that join when the mode changes: those of the new mode that the old one does not have (Table 4.5). -/
def modeJoins (s : State) (m : Nat) : Nat := Nat.land (modeSlices m) (7 - modeSlices (rd s SLC_MODE))

/-- The accepted request takes effect at tH (R93, R94): leaving slices leave and the mode changes, or the joining slices
start their join. Where a remaining slice is fenced at tH, those of the new mode that participate are the ones that did before
(DESIGN CHOICE, log entry 99). -/
def modeEffect (s : State) : State :=
  let m := rd s SLC_MODE_REQMODE
  let j := modeJoins s m
  if j = 0 then
    s |> eachSlice (Nat.land (rd s SLC_MODE_PART) (7 - modeSlices m)) sliceLeaves
      |> wr SLC_MODE_PART (Nat.land (rd s SLC_MODE_PART) (modeSlices m))
      |> wr SLC_MODE_FENCED (Nat.land (rd s SLC_MODE_FENCED) (modeSlices m))
      |> wr I.SLC_REJOIN (Nat.land (rd s I.SLC_REJOIN) (modeSlices m)) |> modeDone
  else s |> wr I.SLC_REJOIN (Nat.lor (rd s I.SLC_REJOIN) j) |> joinStart

/-- Joins and mode changes that waited for a commit go on without one once the controller stands (R89, R94); a join that had its
copy needs no probation cycle any more (DEDUCED, log entry 40). -/
def stoppedSlices (s : State) : State :=
  if ctlStopped s && rd s I.CYC_PH == 0 then
    s |> when (decide (3 ≤ rd s SLC_READMIT_PHASE)) joinComplete
      |> (fun t => when (on t SLC_MODE_REQPEND && rd t SLC_READMIT_PHASE == 0) modeEffect t) |> joinStart
  else s

/-! Loss of a PLL (R18) -/

/-- No verdict can be formed: the controller stops with its cause, and every cycle in progress, one that has only started with it,
fails with LASTRES 6 (R18, R59, R123, Table 5.6). -/
def noVerdictStop (cause : Nat) (s : State) : State :=
  s |> autoStop cause |> when (rd s I.CYC_PH != 0) (failedCommit 6 false) |> when (on s I.CYC_IN) (failedCommit 6 false)

/-- The PLL of slice `k`'s core or solver island (`k` < 3), or of the Winnower or the slice reference (`k` = 3), loses its lock
(R18). The stop after an OCXO loss keeps cause 0x04. -/
def pllLockLost (k : Fin 4) (s : State) : State :=
  if k.val = 3 then
    (if rd s CYC_STATE_STOPCAUSE = 4 then s else noVerdictStop 3 s)
  else s |> set1 (I.PLL_LOST k) |> raise 48 |> divergentNow k 0

/-! Mode requests (R92) -/

/-- The result of a mode request as R92 checks it, in the order of its list. -/
def modeCheck (sess mode : Nat) (s : State) : Nat :=
  if !isOwner s sess || sessRole s sess < 2 then 1
  else if mode = 2 ∧ sfuRunning s then 2
  else if mode < 3 ∧ Nat.land (modeJoins s mode) (rd s SLC_FAILED) ≠ 0 then 3
  else if on s SLC_MODE_REQPEND || rd s SLC_READMIT_PHASE != 0 || rd s CYC_CHG_PHASE == 3 then 4
  else if mode = 3 then 6
  else 0

/-- Completion status of a SLC_MODESTAT result (Table 13.4). -/
def modeStatus (r : Nat) : Nat :=
  match r with
  | 0 => cOK | 1 => cROLE | 2 => cSAFETY | 3 => cSLICE | 4 => cBUSY | 5 => cJOINFAIL | _ => cBADARG

/-- A mode request (R92): refused with its result, or accepted; in STOP or FAULT it takes effect at once, and else at the next commit,
a request of the mode in force as any other (Table 4.5). -/
def modeRequest (ref : Option CmdRef) (sess mode : Nat) (s : State) : State :=
  let r := modeCheck sess mode s
  let s1 := s |> wr SLC_MODESTAT_SESSION sess |> wr SLC_MODESTAT_RESULT r
    |> audit 0x0D (r != 0) sess mode (rd s SLC_MODE) mode
  if r ≠ 0 then finish ref 0x26 (modeStatus r) s1
  else
    let s2 := s1 |> waitOpt ref 0x26 |> set1 SLC_MODE_REQPEND |> wr SLC_MODE_REQMODE mode
    if ctlStopped s then modeEffect s2 else s2

/-! Join steps -/

/-- COPY_GUARD_REACHED: t0 − COPYGUARD is reached and the copy, and the loading of a change, stop until the cycle's
commit (Table 4.6, R150). -/
def execCopyGuardReached (s : State) : Out :=
  .next (if rd s SLC_READMIT_PHASE = 1 ∨ rd s SLC_READMIT_PHASE = 2 ∨ rd s CYC_CHG_PHASE = 1 then set1 I.SLC_COPYSTOP s else s)

/-- The copy is complete: the caches of all participating and joining slices are invalidated (Table 4.6, step 4). With the controller
in STOP or FAULT there is no probation cycle (R94). -/
def copyComplete (s : State) : State :=
  s |> cacheInval |> (if ctlStopped s then joinComplete else wr SLC_READMIT_PHASE 3)

/-- JOIN_COPY_COMPLETE: all pages are copied and none is dirty; `differ` tells that the copies of two sources differed, which fails
the attempt whenever it is found (Table 4.6 step 4, R95). -/
def execJoinCopyComplete (differ : Bool) (s : State) : Out :=
  .next (if rd s SLC_READMIT_PHASE = 2 ∧ on s I.SLC_COPYSTOP = false then
    if differ = true ∧ 2 ≤ partCount s then joinFailed s
    else if copyDone s then copyComplete s else s
  else s)

/-- JOIN_TIMEOUT: the copy has not reached step 4 within 64 cycles of tJ (R96). -/
def execJoinTimeout (s : State) : Out :=
  .next (if (rd s SLC_READMIT_PHASE = 1 ∨ rd s SLC_READMIT_PHASE = 2) ∧ 64 ≤ rd s SLC_READMIT_CYCLES then joinFailed s else s)

/-- SLICE_FAILED_CLEAR: writing 1 to SLC_FAILED bits clears them and starts one new series of attempts (R96). The slices
that the mode names and that do not participate are joined at the next commit, or at once in STOP or FAULT; for a slice that the mode
does not name nothing starts (DESIGN CHOICE, log entry 130). -/
def sliceFailedClear (m : Nat) (s : State) : State :=
  let c := Nat.land (rd s SLC_FAILED) m
  let j := Nat.land (Nat.land c (modeSlices (rd s SLC_MODE))) (7 - rd s SLC_MODE_PART)
  if c = 0 then s
  else s |> wr SLC_FAILED (rd s SLC_FAILED - c) |> clr SLC_READMIT_TRIES
    |> wr I.SLC_REJOIN (Nat.lor (rd s I.SLC_REJOIN) j) |> when (ctlStopped s) joinStart

/-! Winnower faults (R98, R99) -/

/-- The Winnower stops the controller: event 41 with a critical entry, cause 0x03 (Table 4.7). -/
def winnowerStop (s : State) : State := s |> set1 WNW_STATUS_STOPPED |> raiseCrit 41 |> noVerdictStop 3

/-- Comparator `k` is faulty (Table 4.7); it stays so until a module reset. -/
def comparatorFault (k : Nat) (s : State) : State :=
  if !bit (rd s WNW_STATUS_CMP_OK) k then s
  else
    let first := rd s WNW_STATUS_CMP_OK == 7
    let s1 := wr WNW_STATUS_CMP_OK (rd s WNW_STATUS_CMP_OK - 2 ^ k) s
    if solo s then raise 40 s1
    else if first ∧ partCount s = 3 then s1 |> set1 WNW_STATUS_MASKED |> raise 40
    else winnowerStop s1

/-- WINNOWER_SELF_TEST: the difference injected on the test lane; `miss` holds the comparators that did not flag it, and
`rail` those whose rail pair was not complementary (R98). -/
def winnowerSelfTest (miss rail : Fin 8) (s : State) : State :=
  let bad := Nat.lor miss.val rail.val
  s |> when (bit miss.val 0) (incSat WNW_TESTCNT_CMP0 1)
    |> when (bit miss.val 1) (incSat WNW_TESTCNT_CMP1 1)
    |> when (bit miss.val 2) (incSat WNW_TESTCNT_CMP2 1)
    |> wr I.WNW_TESTSLICE ((rd s I.WNW_TESTSLICE + 1) % 3)
    |> when (bit bad 0) (comparatorFault 0)
    |> when (bit bad 1) (comparatorFault 1)
    |> when (bit bad 2) (comparatorFault 2)

/-- A parity error of the FIFO that feeds slice `k` (R98, Table 4.7). -/
def staggerParityError (k : Fin 3) (s : State) : State :=
  let s1 := s |> set1 WNW_STATUS_PARITY |> raise 42
  if probation s k && !participates s k then probationFails k 0 s1
  else if uncompared s then soloStop k s1
  else if !participates s k then s1
  else if partCount s = 3 then minority k 0 s1
  else s1 |> recordDiv (2 ^ k.val) 0 false false |> winnowerStop

/-! The window (R85 to R87) -/

/-- The slices are neither reset nor held nor without clock, and slice A has not stopped in Solo mode. -/
def slicesUp (s : State) : Bool :=
  !on s I.HELD && islandPowered s 1 && rd s I.CYC_PH != 4 && partCount s != 0 && !(uncompared s && on s (I.SLC_STOPPED 0))

/-- The participating slices execute: the commit does not hold them (R119), nor a program fault (R181), nor a store that waits for an
undo log entry (R116). -/
def slicesRun (s : State) : Bool :=
  slicesUp s && rd s I.CYC_PH != 3 && !(rd s I.CYC_PH == 2 && on s I.CKP_PROGFAULT) && s.stalled.isEmpty

/-- Slice `k` runs tasks of its own (R91, Table 4.4). -/
def ownRuns (s : State) (k : Nat) : Bool :=
  !on s I.HELD && islandPowered s (k + 1) && bit (rd s I.SLC_FREE) k && !on s (I.SLC_STOPPED k)

/-- Solvers of the participating slices that have stopped in this window by themselves. -/
def faultedSolvers (s : State) (o : WindowObs) : Nat :=
  (List.range 3).foldl (fun m k =>
    if participates s k && (o.acts.getD k SliceAct.still).fault.isSome then m + 2 ^ k else m) 0

/-- A fault of some of the participating solvers is recorded, as the first of them reports it (R182). Where all stop by themselves, at
different places or with different codes, the record stays as it is (DESIGN CHOICE, log entry 130). -/
def solverFaults (o : WindowObs) (s : State) : State :=
  let m := faultedSolvers s o
  let one := (List.range 3).findSome? (fun k => if bit m k then (o.acts.getD k SliceAct.still).fault else none)
  match one with
  | some x =>
    if m = rd s SLC_MODE_PART ∨ solo s = true then s
    else s |> wr LSV_FAULT_OPCODE (x.word.toNat / 2 ^ 26) |> wr LSV_FAULT_DEPTH x.depth |> wr LSV_FAULT_CTX (b2n x.ctx)
      |> wr LSV_FAULT_SLICES m |> wr LSV_FAULT_CODE x.code |> wr LSV_FAULTPC_PC x.pc.toNat |> wr LSV_FAULTINS_INSTR x.word.toNat
      |> wr LSV_FAULTMARK_TAG x.mark.toNat
  | none => s

/-- What the slices' records leave in their cores: of the participating slices, the activity of one that is not odd; of a slice with
tasks of its own, its own. -/
def windowActs (o : WindowObs) (v : Vote) (s : State) : State :=
  let act := fun k => o.acts.getD k SliceAct.still
  let odd := match v with | .minority k _ => k | _ => 3
  let k := if odd = firstPart s then (if odd = 0 then 1 else 0) else firstPart s
  let voted := match v with | .noMajority _ _ => false | _ => true
  s |> when (slicesUp s && rd s I.CYC_PH != 3 && voted) (actApply none (act k))
    |> when (ownRuns s 1) (actApply (some 1) (act 1)) |> when (ownRuns s 2) (actApply (some 2) (act 2))

/-- The window ends: the next one begins, with nothing recorded or named (R85). -/
def nextWindow (s : State) : State :=
  { s with recs := [] } |> inc I.WNW_WINDOW |> clr I.WNW_NAMED |> clr I.WNW_NAMESRC |> clr I.WNW_INJ

/-- Comparators whose rail pairs were not complementary are faulty (R98). -/
def railFaults (m : Nat) (s : State) : State := (List.range 3).foldl (fun t k => when (bit m k) (comparatorFault k) t) s

/-- Slices on probation that differ in the window. -/
def probationVote (o : WindowObs) (s : State) : State :=
  (List.range 3).foldl (fun t k =>
    let d := probationDiff s o k
    when (d != 0 && rd t SLC_READMIT_PHASE == 4) (probationFails k d) t) s

/-- The comparators' result of the window, before it is handled. In Idle the Winnower compares nothing (R65). -/
def windowVote (s : State) (o : WindowObs) : Vote := if rd s PWR_STATE = 0 then voteWindow s o else .clean

/-- The window closes: records reach the cores, faults of single solvers and of rails are noted, the attempt of a slice on probation may
fail, and the voted result is handled (R85 to R87). -/
def windowClose (o : WindowObs) (s : State) : State :=
  let v := windowVote s o
  s |> windowActs o v |> solverFaults o |> railFaults o.rails
    |> when (rd s PWR_STATE == 0) (probationVote o) |> handleVote v |> nextWindow

/-- SIGNATURE_WINDOW_END. -/
def signatureWindowEnd (o : WindowObs) (s : State) : State := windowClose o s

/-! Scrub (R100, R101) -/

/-- The signature of a scrub block as a slice reads it: its 64-bit words by the procedure of R85, without those that execution wrote
while the block was read (R100). -/
def scrubSig (s : State) (pick : ScrubWord → BitVec 64) (block : List ScrubWord) : Nat :=
  signature (rd s I.WNW_WINDOW) 64 ((block.filter (fun x => !x.written)).map (fun x => (pick x).toNat))

/-- The comparison of the participating slices' signatures of a block. -/
def scrubVote (s : State) (block : List ScrubWord) : Vote :=
  let a := scrubSig s ScrubWord.a block
  let b := scrubSig s ScrubWord.b block
  let c := scrubSig s ScrubWord.c block
  voteOf s (if a = b then 0 else 7) (if b = c then 0 else 7) (if c = a then 0 else 7)

/-- The program store's page `p` as the master image in DDR has it (R101); a copy to a joining slice takes the page again. -/
def reloadPage (p : Nat) (s : State) : State :=
  let here := fun x : Nat × Nat => x.1 / 1024 == p
  joinMark p { s with prog := (s.master.filter here).foldl (fun l x => Assoc.put x.1 x.2 l) (s.prog.filter (fun x => !here x)) }

/-- Pages that a scrub mismatch has named are reloaded in the idle phase. -/
def scrubReload (s : State) : State :=
  if rd s I.CYC_PH = 0 ∧ on s I.CYC_IN = false then s.reload.foldl (fun t p => reloadPage p t) { s with reload := [] } else s

/-- A scrub mismatch (R101). With two participating slices one that is repaired in place is no Duo mismatch, and is not recorded as a
divergence (DEDUCED, log entry 27). -/
def scrubMismatch (kind : ScrubKind) (v : Vote) (s : State) : State :=
  let s1 := s |> raise 43 |> incSat WNW_SCRUB_RESYNC 1
  match v with
  | .clean => s
  | .minority k src => minority k src s1
  | .noMajority m src =>
    if partCount s = 3 then noMajority 35 m src s1
    else match kind with
    | .cleanLines l => if linesClean s l then { s1 with inval := s1.inval ++ l } else noMajority 36 m src s1
    | .programStore p => scrubReload { s1 with reload := s1.reload ++ [p.val] }
    | .other => noMajority 36 m src s1

/-- One scrubbed block, read in every participating slice; `passMs` is the duration of the pass in ms where this block ends one. In
Solo mode nothing is compared. -/
def scrubBlock (kind : ScrubKind) (block : List ScrubWord) (passMs : Option Nat) (s : State) : State :=
  if !on s WNW_CTRL_SCRUB_EN then s
  else s |> (fun t => match scrubVote t block with | .clean => t | v => scrubMismatch kind v t)
    |> (fun t => match passMs with | some d => wr WNW_SCRUB_PASS_MS (min d 1000) t | none => t)

/-- WINNOWER_INJECT: a divergence injected in stream 1 of INJ_SLICE, which the end of the window shows as a genuine one; values 3 to 7
name no slice (R104). The right is a maker session's, with the ownership that an RWO field needs (R9). -/
def winnowerInject (s : State) : State :=
  let k := rd s WNW_CTRL_INJ_SLICE
  if k < 3 then wr I.WNW_INJ (k + 1) s else s

end Sys2Proof.Machine
end

