-- ==== Sys2Proof/Machine/Forces.lean ====
section
/-! DEFINITION. Forcing (R147 to R149), and online change with its migration (R150 to R153, R187,
R194, R203). -/

namespace Sys2Proof.Machine

open R

/-! Setting and releasing a force -/

/-- A force takes effect: entered in the list, event 86. -/
def forceSet (space index value : Nat) (s : State) : State :=
  ((forceFind s space index).orElse (fun _ => forceFree s)).elim s (fun i =>
    s |> set1 (CYC_FORCE_VALID i) |> wr (CYC_FORCE_UNBOUND i) (b2n (!isBound s space index))
      |> wr (CYC_FORCE_SPACE i) space |> wr (CYC_FORCE_INDEX i) index |> wr (CYC_FORCE_VALUE i) value
      |> forceCount |> raise 86)

/-- A release takes effect: event 87; nothing happens for an address without a force (R147). -/
def forceRelease (space index : Nat) (s : State) : State :=
  (forceFind s space index).elim s (fun i =>
    s |> clr (CYC_FORCE_VALID i) |> clr (CYC_FORCE_UNBOUND i) |> clr (CYC_FORCE_SPACE i) |> clr (CYC_FORCE_INDEX i)
      |> clr (CYC_FORCE_VALUE i) |> forceCount |> raise 87)

/-- A force or release takes effect, and its command completes. -/
def forceApply (q : ForceReq) (s : State) : State :=
  s |> (if q.release then forceRelease q.space q.index else forceSet q.space q.index q.value)
    |> finish q.ref (if q.release then 0x31 else 0x30) cOK

/-- Every accepted force and release takes effect at a cycle start (R148). -/
def forcesAtStart (s : State) : State :=
  s.forcePend.foldl (fun t q => forceApply q t) { s with forcePend := [] }

/-- Every forced I, M and W value is written after step 4 and before the log window opens (R148). -/
def forcesWriteAll (s : State) : State :=
  (List.range forceMax).foldl (fun t i =>
    if on s (CYC_FORCE_VALID i) then
      forceWrite (rd s (CYC_FORCE_SPACE i)) (rd s (CYC_FORCE_INDEX i)) (rd s (CYC_FORCE_VALUE i)) t
    else t) s

/-- The list as the accepted requests that wait will leave it. -/
def forcesAfter (s : State) : State :=
  s.forcePend.foldl (fun t q => if q.release then forceRelease q.space q.index t else forceSet q.space q.index q.value t) s

/-- A cycle is in progress for the purposes of R148: RUN, or HALT with a STEP cycle. -/
def forceWaits (s : State) : Bool := ctlState s == stRUN || (ctlState s == stHALT && on s I.CYC_STEPPING)

/-- What waited for a cycle start takes effect once no cycle is in progress (R148; DEDUCED, log entry 42). -/
def forcesFlush (s : State) : State :=
  if forceWaits s || s.forcePend.isEmpty then s else s |> forcesAtStart |> forcesWriteAll

/-- Whether a force may lie on a space (R147). -/
def forceSpaceOk (space : Nat) : Bool := space == spI || space == spQ || space == spM || space == spW

/-- The refusal of a force, or 0: SPACE, BADARG, SAFETY, FULL, the first of them that applies (R147; the order is a DESIGN CHOICE, log
entry 101). Accepted forces that wait count for FULL. -/
def forceCheck (space index : Nat) (s : State) : Nat :=
  if !forceSpaceOk space then cSPACE
  else if index ≥ scalarLimit s space false then cBADARG
  else if sfuBinds s space index then cSAFETY
  else if (forceFind (forcesAfter s) space index).isNone && (forceFree (forcesAfter s)).isNone then cFULL
  else 0

/-- The value a force on an address now holds; 0 without one. -/
def forceOld (s : State) (space index : Nat) : Nat :=
  (forceFind s space index).elim 0 (fun i => rd s (CYC_FORCE_VALUE i))

/-- OBJECT of an audit entry about a force (Table 20.3). -/
def forceObject (space index : Nat) : Nat := space * 2 ^ 21 + index % 2 ^ 21

/-- What a force holds: a word on W, else one bit (R147, Table 6.22). -/
def forceWord (space value : Nat) : Nat := if space = spW then value else value % 2

/-- A force whose session may set it: refused, or in effect at once, or at the next cycle start (R147, R148). -/
def forceRequest (ref : CmdRef) (space index word : Nat) (s0 : State) : State :=
  let s := forcesFlush s0
  let value := forceWord space word
  let r := forceCheck space index s
  let s1 := audit 0x04 (r != 0) ref.session (forceObject space index) (forceOld s space index) value s
  if r ≠ 0 then complete ref 0x30 r s1
  else
    let q : ForceReq := ⟨some ref, false, space, index, value⟩
    if forceWaits s then { s1 with forcePend := s1.forcePend ++ [q] }
    else s1 |> forceApply q |> forceWrite space index value

/-- A release whose session may make it; one of an address without a force completes at once. -/
def unforceRequest (ref : CmdRef) (space index : Nat) (s0 : State) : State :=
  let s := forcesFlush s0
  let s1 := audit 0x05 false ref.session (forceObject space index) (forceOld s space index) 0 s
  let q : ForceReq := ⟨some ref, true, space, index, 0⟩
  if forceWaits s ∧ (forceFind (forcesAfter s) space index).isSome then { s1 with forcePend := s1.forcePend ++ [q] }
  else forceApply q s1

/-! Migration (R203, Table 8.8) -/

/-- Region of a bit space as the migration sees it: Q is the committed copy. -/
def migRegion (space : Nat) : Nat := if space = spQ then imgQC else bitRegion space

/-- One bit of a region, and that bit written. -/
def regBit (s : State) (r i : Nat) : Bool := bit (memNat s (r + i / 8) 1) (i % 8)
def putRegBit (r i : Nat) (b : Bool) (s : State) : State :=
  memPut (r + i / 8) 1 (setBits (memNat s (r + i / 8) 1) (i % 8) 1 (b2n b)) s

/-- MOVE: one element with its whole state; an edge with memory and mark. -/
def migMove (sp fr to_ : Nat) (s : State) : State :=
  if sp = spW then memWrite (imgW + 4 * to_) (memRead s (imgW + 4 * fr) 4) s
  else if sp = spT then memWrite (timerAddr to_) (memRead s (timerAddr fr) 16) s
  else if sp = spC then memWrite (counterAddr to_) (memRead s (counterAddr fr) 16) s
  else s |> putRegBit (migRegion sp) to_ (regBit s (migRegion sp) fr)
    |> when (sp == spE) (putRegBit imgMark to_ (regBit s imgMark fr))

/-- MOVEPL: one bit plane; an edge plane with its marks. -/
def migMovePl (sp fr to_ : Nat) (s : State) : State :=
  s |> memWrite (migRegion sp + 8 * to_) (memRead s (migRegion sp + 8 * fr) 8)
    |> when (sp == spE) (memWrite (imgMark + 8 * to_) (memRead s (imgMark + 8 * fr) 8))

/-- RESET: one element cleared; LONG of a timer set from the entry; an edge with memory and mark. -/
def migReset (sp to_ : Nat) (long : Bool) (s : State) : State :=
  if sp = spW then memPut (imgW + 4 * to_) 4 0 s
  else if sp = spT then memPut (timerAddr to_) 16 (b2n long * 2 ^ 63) s
  else if sp = spC then memPut (counterAddr to_) 16 0 s
  else s |> putRegBit (migRegion sp) to_ false |> when (sp == spE) (putRegBit imgMark to_ false)

/-- RESETPL: one Q or M plane cleared. -/
def migResetPl (sp to_ : Nat) (s : State) : State := memPut (migRegion sp + 8 * to_) 8 0 s

/-- UNINIT: the mark of an edge set and its memory cleared. -/
def migUninit (to_ : Nat) (s : State) : State := s |> putRegBit imgMark to_ true |> putRegBit imgE to_ false

/-- UNINITPL: the same for the 64 edges of a plane. -/
def migUninitPl (to_ : Nat) (s : State) : State :=
  s |> memPut (imgMark + 8 * to_) 8 (2 ^ 64 - 1) |> memPut (imgE + 8 * to_) 8 0

/-- One migration entry executed. -/
def migEntry (s : State) (e : Nat) : State :=
  let sp := bits e 57 3
  let fr := bits e 21 21
  let to_ := bits e 0 21
  match bits e 60 4 with
  | 1 => migMove sp fr to_ s
  | 2 => migMovePl sp fr to_ s
  | 3 => migReset sp to_ (bit e 56) s
  | 4 => migResetPl sp to_ s
  | 5 => migUninit to_ s
  | 6 => migUninitPl to_ s
  | _ => s

/-- Spaces that an OP permits (Table 8.8). -/
def migSpaces (op : Nat) : List Nat :=
  match op with
  | 1 => [0, 1, 2, 5, 6, 3, 4]
  | 2 => [0, 1, 2, 5]
  | 3 => [1, 2, 5, 6, 3, 4]
  | 4 => [1, 2]
  | 5 => [5]
  | 6 => [5]
  | _ => []

/-- A migration entry that LOAD accepts under the new sizes. -/
def migEntryOk (sizes : List Nat) (e : Nat) : Bool :=
  let op := bits e 60 4
  let sp := bits e 57 3
  let lim := if op = 2 ∨ op = 4 ∨ op = 6 then sizes.getD sp 0 else 64 * sizes.getD sp 0
  (migSpaces op).contains sp && decide (bits e 0 21 < lim)
    && (!(op == 1 || op == 2) || decide (bits e 21 21 < lim))

/-- The migration list executed in order: 1 µs and 10 ns per entry, event 100 (R203, Table 6.6). -/
def migrate (s : State) : State :=
  match s.chg with
  | some c =>
    c.migration.foldl migEntry s |> wr IMG_MIGR_ENTRIES c.migration.length
      |> wr IMG_MIGR_TIME (min (10 + c.migration.length / 10) 65535) |> clr IMG_STATUS_MIGR |> clr I.CHG_MIGPEND
      |> raise 100
  | none => clr I.CHG_MIGPEND s

/-! LOAD and ARM (R150, R151) -/

/-- The sizes lie within Table 8.2. -/
def sizesOk (z : List Nat) : Bool :=
  decide (z.getD 0 0 + z.getD 1 0 ≤ 4096 ∧ z.getD 2 0 ≤ 1024 ∧ z.getD 3 0 ≤ 256 ∧ z.getD 4 0 ≤ 128
    ∧ z.getD 5 0 ≤ 1024 ∧ z.getD 6 0 ≤ 512)

/-- Plane range of a space in a descriptor given as bytes: base and count. -/
def descPlanes (d : List Byte) (sp : Nat) : Nat × Nat :=
  let w (k : Nat) := leBytes ((d.drop (8 * k)).take 8)
  let f (k lo : Nat) := (bits (w k) lo 16, bits (w k) (lo + 16) 16)
  match sp with
  | 0 => f 1 0 | 1 => f 1 32 | 2 => f 2 0 | 3 => f 3 0 | 4 => f 3 32 | 5 => f 2 32 | _ => f 4 0

/-- A descriptor given as bytes is valid; its COUNT. -/
def descValid (d : List Byte) : Bool := bit (leBytes (d.take 8)) 63
def descCount (d : List Byte) : Nat := bits (leBytes (d.take 8)) 56 7

/-- Two plane ranges overlap; an empty one overlaps none. -/
def overlap (a b : Nat × Nat) : Bool := decide (0 < a.2 ∧ 0 < b.2 ∧ a.1 < b.1 + b.2 ∧ b.1 < a.1 + a.2)

/-- An instruction word is a TSEL of a template above 511 (Table 7.8). -/
def tselAbove (w : Nat) : Bool := bits w 26 6 == 0x38 && decide (bits w 0 21 > 511)

/-- The checks of R194: COUNT 1 to 64, no overlap of Q, M, E, T, C and W ranges between templates, no TSEL above 511. -/
def templatesOk (c : ChangeSet) : Bool :=
  let v := c.templates.filter (fun t => descValid t.2)
  v.all (fun t => decide (1 ≤ descCount t.2 ∧ descCount t.2 ≤ 64)) && !c.pages.any (fun p => p.2.any tselAbove)
    && v.all (fun t => v.all (fun u => t.1 == u.1 ||
        [1, 2, 3, 4, 5, 6].all (fun sp => !overlap (descPlanes t.2 sp) (descPlanes u.2 sp))))

/-- The checks of R202 on a binding table: SYMID rising and not 0, ranges within the sizes, whole planes of a template of the set where
TPL = 1, at least one element, K not permitted. -/
def bindingsOk (c : ChangeSet) : Bool :=
  let ids := c.bindings.map (fun e => bits e 0 32)
  ids.all (fun i => i != 0) && (ids.zip ids.tail).all (fun p => decide (p.1 < p.2))
    && c.bindings.all (fun e =>
        let sp := bits e 61 3
        sp != 7 && decide (1 ≤ bits e 64 21) && (
          if bit e 60 then bits e 32 21 % 64 == 0 && bits e 64 21 % 64 == 0 && c.templates.any (fun t =>
            t.1 == bits e 86 9 && decide (64 * (descPlanes t.2 sp).1 + bits e 32 21 + bits e 64 21 ≤ 64 * c.sizes.getD sp 0))
          else decide (bits e 32 21 + bits e 64 21 ≤ 64 * c.sizes.getD sp 0)))

/-- The check value of the set, and the checks of R187, R194, R202 and R203 that give CHECK. -/
def changeOk (c : ChangeSet) : Bool :=
  c.verifies && sizesOk c.sizes && templatesOk c && bindingsOk c && c.migration.all (migEntryOk c.sizes)

/-- The last VALID stage of a list of stage entries, as its place and what it runs (R391); a stage entry has the bits of CYC_STAGE. -/
def lastStage (l : List Nat) : Nat := (l.reverse.find? (fun v => bit v 63)).getD 0

/-- What a safety stage runs: whether the solver, the cores, the sheaf, and for each core entry and argument of its task. -/
def safetyRuns (v : Nat) (task : Nat → Nat × Nat) : Bool × Nat × Nat × List (Nat × Nat) :=
  (bit v 62, bits v 58 4, if bit v 62 then bits v 32 20 else 0,
   ((List.range 4).filter (fun c => bit (bits v 58 4) c)).map (fun c => task (bits v 0 16 + c)))

/-- A stage entry of a bank. -/
def stageOf (s : State) (b n : Nat) : Nat :=
  rd s (CYC_STAGE_TASK b n) + rd s (CYC_STAGE_SHEAF b n) * 2 ^ 32 + rd s (CYC_STAGE_CORES b n) * 2 ^ 58
    + rd s (CYC_STAGE_SOLVER b n) * 2 ^ 62 + rd s (CYC_STAGE_VALID b n) * 2 ^ 63

/-- A stage entry of the active bank. -/
def stageEntry (s : State) (n : Nat) : Nat := stageOf s (rd s CYC_CHG_BANK) n

/-- The safety stage of the active bank. -/
def safetyNow (s : State) : Bool × Nat × Nat × List (Nat × Nat) :=
  let a := 16 * rd s (CYC_TASKTAB_BASE (rd s CYC_CHG_BANK))
  safetyRuns (lastStage ((List.range 32).map (stageEntry s))) (fun t => (memNat s (a + 16 * t) 8, memNat s (a + 16 * t + 8) 8))

/-- The set alters the safety configuration: its recorded check value, or its safety stage, differs from the commissioned one; where
nothing is commissioned there is none to differ from (R420; DEDUCED, log entry 134). -/
def altersSafety (c : ChangeSet) (s : State) : Bool :=
  on s I.SFU_STORED && (c.safetyCv != rd s I.SFU_STOREDCV
    || safetyRuns (lastStage c.stages) (fun t => c.tasks.getD t (0, 0)) != safetyNow s)

/-- A page that the set writes is not free: the program in force has it (R150; DESIGN CHOICE, log entry 134: answered SPACE). -/
def pagesTaken (c : ChangeSet) (s : State) : Bool := c.pages.any (fun p => s.progPages.contains p.1)

/-- CYC_CHG.RESULT of a LOAD, in the order of R150: ROLE, STATE, BUSY, BASE, LIMIT, CHECK, SAFETY, SPACE. A change that is loading, or
whose first cycle has not committed, counts as loaded (DESIGN CHOICE, log entry 102). -/
def loadCheck (c : ChangeSet) (s : State) : Nat :=
  if ctlState s = stHALT ∨ ctlState s = stFAULT ∨ rd s CYC_CHG_PHASE ≠ 0 then 2
  else if on s SLC_MODE_REQPEND || rd s SLC_READMIT_PHASE != 0 then 6
  else if c.baseId ≠ rd s CYC_CHGID then 5
  else if c.migration.length > 65535 then 8
  else if !changeOk c then 7
  else if altersSafety c s then 3
  else if decide (s.progPages.length + c.pages.length > 1024) || pagesTaken c s then 4
  else 0

/-- Completion status of a CYC_CHG.RESULT. -/
def chgStatus (r : Nat) : Nat :=
  match r with
  | 0 => cOK | 1 => cROLE | 2 => cSTATE | 3 => cSAFETY | 4 => cSPACE | 5 => cBASE | 6 => cBUSY | 7 => cCHECK
  | _ => cLIMIT

/-- LOAD is refused with a result and event 91 (R150). -/
def loadRefused (ref : CmdRef) (r id len : Nat) (s : State) : State :=
  s |> wr CYC_CHG_RESULT r |> audit 0x0C true ref.session 0 0 id |> raise 91 |> completeMoved ref 0x32 (chgStatus r) len

/-- LOAD by a session that may: refused, or the loader begins; in RUN and HALT it writes from the next commit point or failed commit on
where a cycle is in progress (R150). -/
def loadRequest (ref : CmdRef) (c : ChangeSet) (s : State) : State :=
  let r := loadCheck c s
  if r ≠ 0 then loadRefused ref r c.newId (cmdBuflen s ref) s
  else { s |> wr CYC_CHG_RESULT 0 |> audit 0x0C false ref.session 0 0 c.newId with chg := some c } |> wr CYC_CHG_PHASE 1 |> wr CYC_CHG_MIGR c.migration.length
      |> when (rd s I.CYC_PH != 0 || on s I.CYC_IN) (set1 I.SLC_COPYSTOP) |> wait ref 0x32

/-- The loader has written everything: pages, into the slices and the master image, the inactive stage bank and task table with the code
of its tasks, template descriptors and binding table (R150, R189, R192, R202). -/
def loadWrite (c : ChangeSet) (s : State) : State :=
  let b := 1 - rd s CYC_CHG_BANK
  let words := c.pages.flatMap (fun p => (p.2.zipIdx).map (fun w => (1024 * p.1 + w.2, w.1)))
  let put := fun l => words.foldl (fun l w => Assoc.put w.1 (w.2 % 2 ^ 32) l) l
  let s0 := c.pages.foldl (fun t p => joinMark p.1 t) { s with prog := put s.prog, master := put s.master }
  let s1 := (c.tasks.zipIdx).foldl (fun t k =>
    t |> memPut (16 * c.taskBase + 16 * k.2) 8 k.1.1 |> memPut (16 * c.taskBase + 16 * k.2 + 8) 8 k.1.2)
    (c.code.foldl (fun t k => memWrite k.1 k.2 t) s0)
  let s2 := (List.range 32).foldl (fun t n =>
    let v := c.stages.getD n 0
    t |> wr (CYC_STAGE_VALID b n) (bits v 63 1) |> wr (CYC_STAGE_SOLVER b n) (bits v 62 1)
      |> wr (CYC_STAGE_CORES b n) (bits v 58 4) |> wr (CYC_STAGE_SHEAF b n) (bits v 32 20)
      |> wr (CYC_STAGE_TASK b n) (bits v 0 16)) s1
  let s3 := c.templates.foldl (fun t d => memWrite (imgTpl + 0x8000 * b + 64 * d.1) (d.2.take 64) t) s2
  let s4 := (c.bindings.zipIdx).foldl (fun t e => memPut (16 * c.bindBase + 16 * e.2) 16 e.1 t) s3
  s4 |> wr (CYC_TASKTAB_BASE b) c.taskBase |> wr (IMG_BIND_BASE b) c.bindBase
    |> wr (IMG_BIND_ENTRIES b) c.bindings.length

/-- The set is loaded: event 89, and LOAD completes (R150). -/
def loadDone (s : State) : State :=
  s |> wr CYC_CHG_PHASE 2 |> clr I.CHG_LOCALDONE |> clr I.CHG_STANDBYDONE |> raise 89 |> completeWaitMoved 0x32 cOK

/-- Forces that lose their bound symbol become unbound, event 88 each; forces bound again lose the mark (R151, R152). -/
def forcesRebind (s : State) : State :=
  (List.range forceMax).foldl (fun t i =>
    if on s (CYC_FORCE_VALID i) then
      let bnd := isBound s (rd s (CYC_FORCE_SPACE i)) (rd s (CYC_FORCE_INDEX i))
      t |> wr (CYC_FORCE_UNBOUND i) (b2n (!bnd)) |> when (!bnd && !on s (CYC_FORCE_UNBOUND i)) (raise 88)
    else t) s |> forceCount

/-- The space sizes take their new values (R187), and LSV_PROGSIZE follows the active pages. -/
def applySizes (c : ChangeSet) (s : State) : State :=
  { s with progPages := c.active }
    |> wr IMG_SIZE0_IPL (c.sizes.getD 0 0) |> wr IMG_SIZE0_QPL (c.sizes.getD 1 0) |> wr IMG_SIZE1_MPL (c.sizes.getD 2 0)
    |> wr IMG_SIZE2_TPL (c.sizes.getD 3 0) |> wr IMG_SIZE2_CPL (c.sizes.getD 4 0) |> wr IMG_SIZE1_EPL (c.sizes.getD 5 0)
    |> wr IMG_SIZE2_WPL (c.sizes.getD 6 0) |> wr LSV_PROGSIZE_SIZE (1024 * c.active.length)

/-- The switch at tC (Table 6.6, steps 1 and 2): the bank toggles, the identity changes, FIO checks its map (R372). -/
def changeSwitch (s : State) : State :=
  match s.chg with
  | none => s
  | some c =>
    s |> wr CYC_CHG_BANK (1 - rd s CYC_CHG_BANK) |> wr CYC_CHGID c.newId |> wr CYC_CHGSEQ (rd s CKP_SEQ)
      |> applySizes c |> wr CYC_CHG_PHASE 4 |> set1 I.CHG_MIGPEND |> clr I.CHG_ARMED |> raise 90
      |> forcesRebind |> fioMapCheck |> completeWait 0x33 cOK

/-- The first commit of the new program frees the pages of the old one (Table 6.6, step 5). -/
def changeFirstCommit (s : State) : State :=
  if rd s CYC_CHG_PHASE = 4 then { s with chg := none } |> clr CYC_CHG_PHASE else s

/-- A program or stage bank that fails verification: event 95, critical, and FAULT with cause 0x11 (Table 6.4). -/
def programVerifyFail (atSwitch : Bool) (s : State) : State :=
  s |> raiseWith 95 (b2n atSwitch) true |> endPending cSUPERSEDED |> wr CYC_STATE_STOPCAUSE 0x11 |> enterFault

/-- ARM: refused with STATE unless a change is loaded, and in HALT; in STOP and FAULT the switch is at once, in RUN at the
next commit point (R151, R144). `verifies` tells whether the new program and stage bank verify at the switch; where they do not, the
change stays loaded, and ARM completes with CHECK (DESIGN CHOICE, log entry 103). -/
def armRequest (ref : CmdRef) (roleOk verifies : Bool) (s : State) : State :=
  let r := if !roleOk then 1 else if rd s CYC_CHG_PHASE ≠ 2 ∨ ctlState s = stHALT then 2 else 0
  let id := match s.chg with | some c => c.newId | none => 0
  let s1 := s |> wr CYC_CHG_RESULT r |> audit 0x0C (r != 0) ref.session 1 0 id
  if r ≠ 0 then s1 |> raise 91 |> complete ref 0x33 (chgStatus r)
  else if ctlState s = stRUN then s1 |> wr CYC_CHG_PHASE 3 |> set1 I.CHG_ARMED |> wait ref 0x33
  else if verifies then s1 |> wait ref 0x33 |> changeSwitch
  else s1 |> complete ref 0x33 cCHECK |> raise 91 |> when (ctlState s == stSTOP) (programVerifyFail true)

end Sys2Proof.Machine
end

