-- ==== Sys2Proof/Machine/Sessions.lean ====
section
/-! DEFINITION. Host rings, sessions and ownership (R305 to R324), with LOGIN and the remote certificates of R475: the right
to a command, taking descriptors, completions and interrupts, opening and closing sessions, ownership. -/

namespace Sys2Proof.Machine

open R

/-! The right to a command (Table 13.5, R321, R450, R487) -/

/-- Opcodes that Table 13.5 marks O. -/
def ownerOp (op : Nat) : Bool :=
  op == 0x05 || op == 0x06 || decide (0x20 ≤ op ∧ op ≤ 0x29) || decide (0x30 ≤ op ∧ op ≤ 0x36)

/-- The least role of an opcode; POWER by Table 3.5. -/
def opRole (op : Nat) : Nat :=
  if op = 0x08 ∨ (0x22 ≤ op ∧ op ≤ 0x26) ∨ op = 0x28 ∨ (0x30 ≤ op ∧ op ≤ 0x36) then 2 else 1

/-- Opcodes that Table 13.5 defines. -/
def opDefined (op : Nat) : Bool :=
  decide ((1 ≤ op ∧ op ≤ 0x0A) ∨ (0x10 ≤ op ∧ op ≤ 0x13) ∨ (0x20 ≤ op ∧ op ≤ 0x29) ∨ (0x30 ≤ op ∧ op ≤ 0x36)
    ∨ (0x40 ≤ op ∧ op ≤ 0x44))

/-- Opcodes served in the ROM of R62. -/
def romOp (op : Nat) : Bool := decide (0x40 ≤ op ∧ op ≤ 0x44) || op == 0x01 || op == 0x02 || op == 0x0A

/-- The module is the standby of a pair: JOINING to PROMOTING of Table 18.1. -/
def pairStandby (s : State) : Bool := decide (4 ≤ rd s PAIR_STATUS_STATE ∧ rd s PAIR_STATUS_STATE ≤ 8)

/-- Owner commands that a standby accepts (R450). -/
def standbyMay (op : Nat) : Bool := op == 0x05 || op == 0x06 || op == 0x28

/-- The session holds the role, and the ownership, of an opcode. -/
def roleOk (s : State) (sess op : Nat) : Bool :=
  decide (sessRole s sess ≥ opRole op) && (!ownerOp op || isOwner s sess)

/-- The place of the first listed command with a reference that has not been passed on: a host may use a TAG again. -/
def cmdIndex (s : State) (ref : CmdRef) : Option Nat := s.cmds.findIdx? (fun c => c.ref == ref && !c.passed)

/-- Listed commands before place `i` of the ring of `ref`. -/
def earlierCmds (s : State) (i : Nat) (ref : CmdRef) : List InCmd :=
  (s.cmds.take i).filter (fun e => e.ref.session == ref.session && e.ref.ring == ref.ring)

/-- Every earlier command of the ring has completed: its completion waits to be written. -/
def earlierDone (s : State) (i : Nat) (ref : CmdRef) : Bool :=
  let l := earlierCmds s i ref
  l.all (fun e => decide (l.countP (fun x => x.ref == e.ref) ≤ s.cpls.countP (fun x => x.ref == e.ref)))

/-- Every earlier command of the ring has started (R312). A FENCE of a remote session has from the time it is taken: it waits for the
others to complete (R331). -/
def earlierStarted (s : State) (i : Nat) (ref : CmdRef) : Bool :=
  (earlierCmds s i ref).all (fun e => e.passed || (e.desc.opcode == 0x09 && e.ref.session.val != 0))

/-- The command at place `i` is at the arbiter: with WAIT every earlier command of its ring has completed. -/
def atArbiter (s : State) (i : Nat) (c : InCmd) : Bool := !c.passed && (!c.desc.wait || earlierDone s i c.ref)

/-- A QUENCH waits at the arbiter: it is taken ahead of every other command (R312). -/
def quenchWaits (s : State) : Bool := (s.cmds.zipIdx).any (fun p => p.1.desc.opcode == 0x29 && atArbiter s p.2 p.1)

/-- A command may start: it has not been passed on and is at the arbiter, where a QUENCH goes first, and the others of a ring in
ring order. A command that no ring lists comes straight from firmware's service of a remote session. -/
def cmdReady (s : State) (ref : CmdRef) : Bool :=
  match cmdIndex s ref with
  | none => !s.cmds.any (fun c => c.ref == ref)
  | some i => (s.cmds[i]?).any (fun c =>
      atArbiter s i c && (c.desc.opcode == 0x29 || (earlierStarted s i ref && !quenchWaits s)))

/-- The list of commands with one of them passed on. -/
def passAt (i : Option Nat) (l : List InCmd) : List InCmd := i.elim l (fun k => l.modify k (fun c => { c with passed := true }))

/-- A command of a reserved opcode is at its turn: it completes with BADOP without a target (R321, R312; log entry 137). -/
def badTurn (s : State) (i : Nat) (c : InCmd) : Bool :=
  !opDefined c.desc.opcode && atArbiter s i c && earlierStarted s i c.ref && !quenchWaits s

/-- Commands of reserved opcodes complete whose turn it is: at their taking, or at the clock in which their turn comes. -/
def badServe (s : State) : State :=
  (List.range s.cmds.length).foldl (fun t i => (t.cmds[i]?).elim t (fun c =>
    when (badTurn t i c) (fun u => complete c.ref c.desc.opcode cBADOP { u with cmds := passAt (some i) u.cmds }) t)) s

/-- The command is passed to its target. -/
def markPassed (ref : CmdRef) (s : State) : State := { s with cmds := passAt (cmdIndex s ref) s.cmds }

/-- A command starts; in the ROM only the update commands, NOP, LOGIN and CLOSE are served. -/
def cmdRun (ref : CmdRef) (op : Nat) (act : State → State) (s : State) : State :=
  if !cmdReady s ref then s
  else
    let s1 := markPassed ref s
    if on s I.ROM && !romOp op then complete ref op cSTATE s1 else act s1

/-- A command with the right of Table 13.5; `refused` is what a refusal leaves beside its completion. -/
def cmdGate (ref : CmdRef) (op : Nat) (refused act : State → State) (s : State) : State :=
  cmdRun ref op (fun t =>
    if !roleOk t ref.session op then t |> refused |> complete ref op cROLE
    else if ownerOp op && pairStandby t && !standbyMay op then t |> refused |> complete ref op cSTATE
    else act t) s

/-- The buffer of a command can be reached: the host's memory only while Bus Master Enable is 1 (R306). -/
def bufReach (s : State) (ref : CmdRef) : Bool := ref.session.val != 0 || on s HBR_LINK_BME

/-- What the buffer of a command holds: `b` is what the host's memory gives; a command in a unit has BUFLEN bytes of the unit's data from
BUF on (R316). None where they cannot be read. -/
def cmdBytes (s : State) (ref : CmdRef) (b : Option (List Byte)) : Option (List Byte) :=
  if ref.session.val = 0 then (if on s HBR_LINK_BME then b else none)
  else match cmdOf s ref with
    | none => b
    | some c => if c.desc.buf + c.desc.buflen ≤ c.data.length then some ((c.data.drop c.desc.buf).take c.desc.buflen) else none

/-- The slices execute nothing: between the verdict and the commit point, after a program fault, from a rollback to the re-execution,
and while a store waits for its undo log entry (R116, R119, R120). -/
def slicesHeld (s : State) : Bool :=
  rd s I.CYC_PH == 3 || rd s I.CYC_PH == 4 || (rd s I.CYC_PH == 2 && on s I.CKP_PROGFAULT) || !s.stalled.isEmpty

/-- A command of which firmware of the slices writes registers of a block waits: for the slices, or for a lock of the host. -/
def fwBlockWaits (s : State) (b : Nat) : Bool := slicesHeld s || blockLocked s b

/-! Opening and closing sessions (R314 to R316, R320) -/

/-- What still waited for a session that has closed is not heard of again: its completions, and the outcome of its commands
already passed on. -/
def sessForget (n : Nat) (s : State) : State :=
  { s with cmds := s.cmds.filter (fun c => c.ref.session.val != n), cpls := s.cpls.filter (fun c => c.ref.session.val != n) }
    |> dropRefs (fun r => r.session.val == n) |> (fun t => { t with notices := t.notices.filter (fun x => x.1 != n) })

/-- A session opens: event 321. A remote session starts with nothing of the one before it. -/
def sessOpen (n ident role : Nat) (ro : Bool) (s : State) : State :=
  s |> when (n != 0) (sessForget n) |> set1 (HBR_SESS_OPEN n) |> wr (HBR_SESS_READONLY n) (b2n ro) |> wr (HBR_SESS_ROLE n) role
    |> wr (HBR_SESS_IDENT n) ident |> wr (I.HBR_LASTRX n) (upNow s) |> wr (I.HBR_LASTTX n) (upNow s) |> raise 321

/-- Identity of the owner, or of the orphaned owner; 0 without either. -/
def ownerIdent (s : State) : Nat := rd s HBR_OWNER_IDENT

/-- A change of owner to a session, or to none: HBR_OWNSEQ, audit entry with both identities, event 322 (R317). -/
def ownerChange (action actor : Nat) (new : Option Nat) (s : State) : State :=
  let old := ownerIdent s
  let id := match new with | some n => sessIdent s n | none => 0
  let s1 := match new with
    | some n => s |> set1 HBR_OWNER_VALID |> wr HBR_OWNER_SESSION n |> wr HBR_OWNER_ROLE (sessRole s n)
    | none => s |> clr HBR_OWNER_VALID |> clr HBR_OWNER_SESSION |> clr HBR_OWNER_ROLE
  s1 |> clr HBR_OWNER_ORPHAN |> wr HBR_OWNER_IDENT id |> inc HBR_OWNSEQ_SEQ
    |> audit action false actor old old id |> raise 322

/-- Nobody owns the module, and no ownership is orphaned. -/
def ownerNone (s : State) : Bool := !on s HBR_OWNER_VALID && !on s HBR_OWNER_ORPHAN

/-- A session that never becomes owner: a read-only one, and session 0 in the ROM (R317). -/
def neverOwns (s : State) (n : Nat) : Bool := on s (HBR_SESS_READONLY n) || (n == 0 && on s I.ROM)

/-- A refused action on ownership is audited (R477). -/
def auditOwner (action sess : Nat) (s : State) : State := audit action true sess (ownerIdent s) (ownerIdent s) 0 s

/-- The first of a list of waiting CLAIMs that may own is granted; one that has become read-only meanwhile is refused. -/
def claimsFrom : List CmdRef → State → State
  | [], s => s
  | r :: l, s =>
    if neverOwns s r.session then claimsFrom l ({ s with claims := l } |> auditOwner 0x02 r.session |> complete r 0x04 cROLE)
    else { s with claims := l } |> ownerChange 0x02 r.session (some r.session) |> complete r 0x04 cOK

/-- The first waiting CLAIM is granted once there is no owner (R317). -/
def claimsServe (s : State) : State := if ownerNone s then claimsFrom s.claims s else s

/-- The pending offer ends, and its HANDOVER completes with a status (R318). -/
def offerEnd (status : Nat) (s : State) : State :=
  when (on s HBR_OFFER_VALID)
    (fun t => t |> clr HBR_OFFER_VALID |> clr HBR_OFFER_TO |> clr HBR_OFFER_REMAIN |> completeWait 0x06 status) s

/-- The owner closes without RELEASE: ownership is orphaned for HOLD seconds, or ends at once with HOLD = 0 (R320). -/
def ownerOrphan (n : Nat) (s : State) : State :=
  let s1 := offerEnd cCANCELLED s
  if rd s HBR_OWNCFG_HOLD = 0 then s1 |> ownerChange 0x02 n none |> claimsServe
  else s1 |> clr HBR_OWNER_VALID |> set1 HBR_OWNER_ORPHAN |> inc HBR_OWNSEQ_SEQ
    |> wr I.HBR_HOLDEND (upNow s + rd s HBR_OWNCFG_HOLD * nsPerS)
    |> audit 0x02 false n (ownerIdent s) (ownerIdent s) 0 |> raise 322

/-- The staging lock is released, and what is staged stays (R486). -/
def stageUnlock (s : State) : State := s |> clr UPD_STATUS_LOCKED |> clr UPD_STATUS_LOCKSESS

/-- A session closes: event 321; its waiting CLAIMs, subscriptions and staging lock end, its commands not yet passed on are
discarded, and its ownership is orphaned. The waiting CLAIMs of session 0, whose rings may stay in use, complete with
CANCELLED (DESIGN CHOICE, log entry 58). -/
def sessClose (n : Nat) (s : State) : State :=
  if !on s (HBR_SESS_OPEN n) then s
  else
    { s with claims := s.claims.filter (fun r => r.session.val != n), subs := s.subs.filter (fun b => b.1 != n),
             cmds := if n = 0 then s.cmds else s.cmds.filter (fun c => c.ref.session.val != n || c.passed) }
      |> when (n == 0) (fun t => (s.claims.filter (fun r => r.session.val == 0)).foldl (fun u r => complete r 0x04 cCANCELLED u) t)
      |> when (isOwner s n) (ownerOrphan n)
      |> when (on s UPD_STATUS_LOCKED && rd s UPD_STATUS_LOCKSESS == n) stageUnlock
      |> clr (HBR_SESS_OPEN n) |> clr (HBR_SESS_READONLY n) |> clr (HBR_SESS_ROLE n) |> clr (HBR_SESS_RINGS n)
      |> clr (HBR_SESS_IDENT n) |> (fun t => { t with notices := t.notices.filter (fun x => x.1 != n) }) |> raise 321

/-- Ownership is released without orphaning (R320). -/
def ownerRelease (s : State) : State := if on s HBR_OWNER_VALID || on s HBR_OWNER_ORPHAN then
  s |> offerEnd cCANCELLED |> ownerChange 0x02 (rd s HBR_OWNER_SESSION) none else s

/-! Ring pairs of session 0 (R309 to R312) -/

/-- Ring pairs in use. -/
def ringsInUse (s : State) : Nat := ((List.range 16).filter (fun r => on s (HBR_RP_CFG_EN r))).length

/-- Commands in progress of a ring pair. -/
def inflight (s : State) (sess ring : Nat) : Nat :=
  (s.cmds.filter (fun c => c.ref.session.val == sess && c.ref.ring == ring)).length

/-- INFLIGHT of a ring pair of session 0 as its register shows it. -/
def showInflight (r : Nat) (s : State) : State := wr (HBR_RP_CNT_INFLIGHT r) (inflight s 0 r) s

/-- A ring pair stops with an error (event 320). -/
def ringStop (r err : Nat) (s : State) : State := s |> wr (HBR_RP_STAT_ERR r) err |> raise 320

/-- A command is taken into a session's ring, with the data of its unit (R312, R316). -/
def takeCmd (sess : Fin 8) (r : Nat) (d : Desc) (data : List Byte) (s : State) : State :=
  badServe { s with cmds := s.cmds ++ [⟨⟨sess, r, d.tag % 65536, d.ci⟩, d, false, data⟩] }

/-- A ring pair may take a descriptor now; not in Drowse and Fallow (R310). -/
def ringTakes (s : State) (r : Nat) : Bool :=
  decide (rd s PWR_STATE < 2) && on s (HBR_RP_CFG_EN r) && rd s (HBR_RP_STAT_ERR r) == 0 && on s HBR_LINK_BME && decide (inflight s 0 r < 64)
    && !on s (I.HBR_STALLED r)

/-- Host address of the command descriptor at HEAD, and of the completion slot at CPLNEXT. -/
def descAddr (s : State) (r : Nat) : Nat := 32 * rd s (HBR_RP_CBASE_BASE r) + 32 * rd s (HBR_RP_STAT_HEAD r)
def slotAddr (s : State) (r : Nat) : Nat := 32 * rd s (HBR_RP_QBASE_BASE r) + 32 * rd s (HBR_RP_STAT_CPLNEXT r)

/-- The next announced descriptor of a ring pair is read and taken, and OWN cleared in its word 0, or it stops the pair (R311). -/
def ringTakeOne (r : Nat) (s : State) : State :=
  match s.ringq.find? (fun e => e.1 == r) with
  | none => s
  | some (_, od) =>
    if !ringTakes s r then s
    else if !obLink s then s |> obError 4 17 (descAddr s r) |> raise 331 |> ringStop r 1
    else match od with
      | none => ringStop r 1 s
      | some d =>
        if !d.own then ringStop r 3 s
        else { s with ringq := s.ringq.eraseP (fun e => e.1 == r) }
          |> emit (.hostWrite (descAddr s r) (bytesLE 4 ((descWords { d with own := false }).getD 0 0)))
          |> wr (HBR_RP_STAT_HEAD r) ((rd s (HBR_RP_STAT_HEAD r) + 1) % max 1 (rd s (HBR_RP_CFG_CMDENT r)))
          |> takeCmd 0 r d [] |> showInflight r

/-- The module takes descriptors of a ring pair from HEAD to TAIL − 1 while it may: at most 64 at once. -/
def ringTake (r : Nat) (s : State) : State := (List.range 64).foldl (fun t _ => ringTakeOne r t) s

/-- Every ring pair takes what it may. -/
def ringTakeAll (s : State) : State := (List.range 16).foldl (fun t r => ringTake r t) s

/-- A doorbell is discarded: HBR_DBERR, a failed posted write with event 324, and event 325 (R310, R330). -/
def doorbellDiscard (d : Nat) (s : State) : State :=
  s |> incSat HBR_DBERR_COUNT 1 |> wr HBR_DBERR_INDEX d |> hostWriteFails 1 fDECODE (8 * d) |> raise 325

/-- A command ring doorbell: TAIL and the descriptors it announces; a position the host has not filled has OWN = 0. -/
def ringDoorbell (r idx : Nat) (filled : List (Option (List Word))) (s : State) : State :=
  if !on s (HBR_RP_CFG_EN r) ∨ idx ≥ rd s (HBR_RP_CFG_CMDENT r) then doorbellDiscard r s
  else
    let ent := rd s (HBR_RP_CFG_CMDENT r)
    let n := (idx + ent - rd s (I.HBR_TAIL r)) % ent
    let ds := (List.range n).map (fun i => (r, (filled.getD i (some [])).map descOf))
    { s with ringq := s.ringq ++ ds } |> wr (I.HBR_TAIL r) idx |> ringTake r

/-- EN = 1 on a ring pair (R309); counts outside 2 to 4,095 leave it out of use (DESIGN CHOICE, log entry 35). Session 0 opens on
its first pair (R314). -/
def ringEnable (r : Nat) (s : State) : State :=
  if on s (HBR_RP_CFG_EN r) ∨ rd s (HBR_RP_CFG_CMDENT r) < 2 ∨ rd s (HBR_RP_CFG_CPLENT r) < 2 then s
  else
    { s with ringq := s.ringq.filter (fun e => e.1 != r), cpls := s.cpls.filter (fun c => !(c.ref.session.val == 0 && c.ref.ring == r)) }
      |> set1 (HBR_RP_CFG_EN r) |> clr (HBR_RP_STAT_HEAD r) |> clr (HBR_RP_STAT_CPLNEXT r) |> clr (HBR_RP_STAT_ERR r)
      |> clr (I.HBR_TAIL r) |> clr (I.HBR_STALLED r) |> clr (I.HBR_VPEND r) |> clr (I.HBR_ICNT r) |> clr (I.HBR_VLAST r)
      |> when (!on s (HBR_SESS_OPEN 0)) (sessOpen 0 0 1 false)
      |> (fun t => wr (HBR_SESS_RINGS 0) (ringsInUse t) t)

/-- A reference of a ring pair. -/
def ofRing (sess ring : Nat) (r : CmdRef) : Bool := r.session.val == sess && r.ring == ring

/-- BUS_MASTER_ENABLE_CHANGE: what the host sets in configuration space; vectors that it unmasks are raised (R305, R306, R313). -/
def execBusMasterEnableChange (c : PcieCtl) (s : State) : Out :=
  .next (s |> wr HBR_LINK_BME (b2n c.bme) |> wr I.HBR_MSIXEN (b2n c.msixEn) |> wr I.HBR_FMASK (b2n c.fmask) |> wr I.HBR_MRRS c.maxRead.val
    |> msixServeAll |> when c.bme ringTakeAll)

/-! Completions and interrupts (R312, R313) -/

/-- A ring's vector is raised. -/
def ringVector (r : Nat) (s : State) : State :=
  s |> msixRaise (rd s (HBR_RP_CFG_VEC r)) |> clr (I.HBR_ICNT r) |> wr (I.HBR_VLAST r) (upNow s + 1) |> clr (I.HBR_VPEND r)

/-- The interrupt of a completion just written: with CI, or the ICOUNT-th without; inside ITIME it is deferred. -/
def ringInterrupt (r : Nat) (ci : Bool) (s : State) : State :=
  let k := rd s (I.HBR_ICNT r) + 1
  let ic := rd s (HBR_RP_MOD_ICOUNT r)
  if ci || (ic != 0 && decide (k ≥ ic)) then
    (if rd s (I.HBR_VLAST r) ≠ 0 ∧ upNow s + 1 < rd s (I.HBR_VLAST r) + 1000 * rd s (HBR_RP_MOD_ITIME r) then
      set1 (I.HBR_VPEND r) s
    else ringVector r s)
  else wr (I.HBR_ICNT r) k s

/-- The oldest completion of a ring is written: words 1 to 7, then word 0 with OWN = 0. -/
def cplPut (r : Nat) (c : Completion) (s : State) : State :=
  { s with cpls := s.cpls.erase c, cmds := s.cmds.eraseP (fun d => d.ref == c.ref) }
    |> emit (.completion (slotAddr s r) (cplWords c))
    |> wr (HBR_RP_STAT_CPLNEXT r) ((rd s (HBR_RP_STAT_CPLNEXT r) + 1) % max 1 (rd s (HBR_RP_CFG_CPLENT r)))
    |> clr (I.HBR_STALLED r) |> showInflight r |> ringInterrupt r c.ref.ci |> ringTake r

/-- A posted write of the ring engine that the bridge cannot send is discarded (R332). -/
def ringLost (addr : Nat) (s : State) : State := s |> obError 5 17 addr |> raise 332

/-- EN = 0 on a ring pair stops it at once (R309). What waits to be written, and after it a CANCELLED for each command
taken but not passed on, goes into the free slots as far as they reach, unless the module may not write (R306); the rest is
discarded, and commands already passed on are not heard of again. Session 0 closes with its last pair. -/
def ringDisable (r : Nat) (slotsFree : Nat) (s : State) : State :=
  if !on s (HBR_RP_CFG_EN r) then s
  else
    let writes := on s HBR_LINK_BME
    let old := s.cpls.filter (fun c => ofRing 0 r c.ref)
    let drop := (s.cmds.filter (fun c => ofRing 0 r c.ref && !c.passed)).map (fun c : InCmd =>
      (⟨c.ref, c.desc.opcode, cCANCELLED, 0, false, rd s CKP_SEQ, 0, rd s TIM_SEC % 2 ^ 32, rd s TIM_NSEC, []⟩ : Completion))
    let s1 := clr (HBR_RP_CFG_EN r)
      { s with cmds := s.cmds.filter (fun c => !ofRing 0 r c.ref), ringq := s.ringq.filter (fun e => e.1 != r),
               cpls := s.cpls.filter (fun c => !ofRing 0 r c.ref) }
    ((old ++ drop).take slotsFree).foldl (fun t c =>
        when writes (if obLink t then cplPut r c else ringLost (slotAddr t r)) t) s1
      |> dropRefs (ofRing 0 r) |> showInflight r |> (fun t => wr (HBR_SESS_RINGS 0) (ringsInUse t) t)
      |> when (ringsInUse s == 1) (sessClose 0)

/-- RING_ENABLE: EN of ring pair `r` is written 1. -/
def execRingEnable (w : Writer) (r : Fin 16) (s : State) : Out :=
  .next (gateWrite w (HBR_RP_CFG_EN r) 1 (ringEnable r) s)

/-- RING_DISABLE: EN of ring pair `r` is written 0; `slotsFree` completion slots from CPLNEXT on are free. -/
def execRingDisable (w : Writer) (r : Fin 16) (slotsFree : Nat) (s : State) : Out :=
  .next (gateWrite w (HBR_RP_CFG_EN r) 0 (ringDisable r slotsFree) s)

/-- A completion of session 0 meets its slot: free, not free, or a write that fails (R312); nothing is written while Bus
Master Enable is 0 or the pair is stopped (R306). -/
def cplSession0 (r : Nat) (c : Completion) (slotFree ok : Bool) (s : State) : State :=
  if !on s HBR_LINK_BME || !on s (HBR_RP_CFG_EN r) || rd s (HBR_RP_STAT_ERR r) != 0 then s
  else if !slotFree then
    when (!on s (I.HBR_STALLED r)) (fun t => t |> set1 (I.HBR_STALLED r) |> incSat (HBR_RP_CNT_STALL r) 1) s
  else if !ok || !obLink s then s |> ringLost (slotAddr s r) |> ringStop r 2
  else cplPut r c s

/-- A completion of a remote session goes out as a unit (R316). -/
def cplRemote (c : Completion) (s : State) : State :=
  { s with cpls := s.cpls.erase c, cmds := s.cmds.eraseP (fun d => d.ref == c.ref) }
    |> emit (.unit c.ref.session.val (unitCompletion c)) |> wr (I.HBR_LASTTX c.ref.session.val) (upNow s)

/-- The oldest completion of a session's ring that waits to be written. -/
def cplOf (s : State) (sess : Fin 8) (ring : Nat) : Option Completion :=
  s.cpls.find? (fun c => ofRing sess.val ring c.ref)

/-- COMPLETION_WRITE: of the oldest completion of ring `ring` of session `sess`; `slotFree` is OWN of its slot, and `ok` tells
whether the writes to host memory succeed. -/
def execCompletionWrite (sess : Fin 8) (ring : Fin 16) (slotFree ok : Bool) (s : State) : Out :=
  .next (match cplOf s sess ring with
    | none => s
    | some c => if sess.val = 0 then cplSession0 ring c slotFree ok s else cplRemote c s)

/-- COMPLETION_SLOT_RETURN: the host returns the slot that stalls ring pair `ring`. -/
def execCompletionSlotReturn (ring : Fin 16) (s : State) : Out :=
  .next (if on s (I.HBR_STALLED ring) then
    (match cplOf s 0 ring with
      | none => clr (I.HBR_STALLED ring) s
      | some c => cplSession0 ring c true true s)
  else s)

/-- INTERRUPT_MODERATION_EXPIRY: at the end of the interval of ITIME µs (R313). -/
def execInterruptModerationExpiry (ring : Fin 16) (s : State) : Out :=
  .next (if on s (I.HBR_VPEND ring) && decide (rd s (I.HBR_VLAST ring) + 1000 * rd s (HBR_RP_MOD_ITIME ring) ≤ upNow s + 1) then ringVector ring s else s)

/-! Plain commands -/

/-- NOP. -/
def execNop (ref : CmdRef) (s : State) : Out := .next (cmdGate ref 0x01 id (complete ref 0x01 cOK) s)

/-- CLOSE: the session is closed, and the command completes. -/
def execClose (ref : CmdRef) (s : State) : Out :=
  .next (cmdGate ref 0x0A id (fun t => t |> sessClose ref.session |> complete ref 0x0A cOK) s)

/-! LOGIN and LOGOUT (R314, R475) -/

/-- The credential of KIND 0 that a LOGIN buffer presents. -/
def loginEntry (s : State) (ident : Nat) (pass : List Byte) : Option Credential :=
  if ident = 0 ∨ ident = 0xFFFF then none
  else s.creds.entries.find? (fun e =>
    e.kind == 0 && e.ident == ident && e.digest == Config.sha256 (e.salt ++ pass.map (·.toNat)))

/-- A LOGIN fails: event 327, audit entry, the lockout at the third in 60 s; the status is a failure that the spec does not name
(log entry 3). -/
def loginFail (ref : CmdRef) (len : Nat) (s : State) : State :=
  let third := rd s (I.HBR_FAILT 1) != 0 && decide (upNow s + 1 < rd s (I.HBR_FAILT 1) + 60 * nsPerS)
  s |> raise 327 |> audit 0x01 true 0 0 0 0
    |> wr (I.HBR_FAILT 1) (rd s (I.HBR_FAILT 0)) |> wr (I.HBR_FAILT 0) (upNow s + 1)
    |> when third (fun t => t |> set1 I.HBR_LOCKOUT |> wr I.HBR_LOCKEND (upNow s + 60 * nsPerS) |> clr (I.HBR_FAILT 0) |> clr (I.HBR_FAILT 1))
    |> useFree |> completeMoved ref 0x02 (1 + Config.freeValue s.freeCtr % 25) len

/-- Session 0 takes the role of a credential: event 480. -/
def loginOk (ref : CmdRef) (e : Credential) (len : Nat) (s : State) : State :=
  s |> wr (HBR_SESS_ROLE 0) e.role |> wr (HBR_SESS_IDENT 0) e.ident |> wr (HBR_SESS_READONLY 0) (b2n e.readOnly)
    |> when (isOwner s 0) (fun t => t |> wr HBR_OWNER_ROLE e.role |> wr HBR_OWNER_IDENT e.ident)
    |> raise 480 |> audit 0x01 false 0 0 0 0 |> completeMoved ref 0x02 cOK len

/-- A LOGIN or LOGOUT that its checks turn away: audited as refused (R477), and no event 327. -/
def loginBad (ref : CmdRef) (op status len : Nat) (s : State) : State :=
  s |> audit 0x01 true ref.session 0 0 0 |> completeMoved ref op status len

/-- LOGIN checked: session 0 only; a buffer too small, a length outside 8 to 64, the lockout, the credential. -/
def login (ref : CmdRef) (buf : List Byte) (s : State) : State :=
  let ident := leBytes (buf.take 2)
  let n := (buf.getD 2 0).toNat
  if ref.session.val ≠ 0 then loginBad ref 0x02 cBADOP 0 s
  else if on s I.HBR_LOCKOUT then s |> raise 327 |> audit 0x01 true 0 0 0 0 |> complete ref 0x02 cLOCKOUT
  else if buf.length < 3 then loginBad ref 0x02 cBUFERR 0 s
  else if n < 8 ∨ 64 < n then loginBad ref 0x02 cBADARG 3 s
  else if buf.length < 3 + n then loginBad ref 0x02 cBUFERR 0 s
  else match loginEntry s ident ((buf.drop 3).take n) with
    | some e => loginOk ref e (3 + n) s
    | none => loginFail ref (3 + n) s

/-- LOGIN with the contents of its buffer, none where it could not be read. -/
def execLogin (ref : CmdRef) (buf : Option (List Byte)) (s : State) : Out :=
  .next (cmdGate ref 0x02 id (fun t => login ref ((cmdBytes t ref buf).getD []) t) s)

/-- LOGOUT: session 0 returns to operator with identity 0. -/
def logout (ref : CmdRef) (s : State) : State :=
  if ref.session.val ≠ 0 then loginBad ref 0x03 cBADOP 0 s
  else s |> audit 0x01 false 0 1 0 0 |> wr (HBR_SESS_ROLE 0) 1 |> clr (HBR_SESS_IDENT 0) |> clr (HBR_SESS_READONLY 0)
    |> when (isOwner s 0) (fun t => t |> wr HBR_OWNER_ROLE 1 |> clr HBR_OWNER_IDENT)
    |> raise 480 |> complete ref 0x03 cOK

/-- LOGOUT. -/
def execLogout (ref : CmdRef) (s : State) : Out := .next (cmdGate ref 0x03 id (logout ref) s)

/-- LOGIN_LOCKOUT_END: 60 s after the lockout began. -/
def execLoginLockoutEnd (s : State) : Out := .next (if upNow s < rd s I.HBR_LOCKEND then s else clr I.HBR_LOCKOUT s)

/-! Ownership (R317 to R320) -/

/-- CLAIM: taken, refused, or waiting. A CLAIM by the owner itself changes nothing (DESIGN CHOICE, log entry 36). -/
def claim (ref : CmdRef) (waits : Bool) (s : State) : State :=
  let n := ref.session.val
  if neverOwns s n then s |> auditOwner 0x02 n |> complete ref 0x04 cROLE
  else if isOwner s n then complete ref 0x04 cOK s
  else if ownerNone s || (on s HBR_OWNER_ORPHAN && ownerIdent s == sessIdent s n) then
    s |> ownerChange 0x02 n (some n) |> complete ref 0x04 cOK
  else if waits then { s with claims := s.claims ++ [ref] }
  else s |> auditOwner 0x02 n |> complete ref 0x04 cOWNED

/-- CLAIM with ARG0[0]. -/
def execClaim (ref : CmdRef) (waits : Bool) (s : State) : Out := .next (cmdGate ref 0x04 id (claim ref waits) s)

/-- RELEASE: ownership ends, and a waiting CLAIM takes it. -/
def execRelease (ref : CmdRef) (s : State) : Out :=
  .next (cmdGate ref 0x05 (auditOwner 0x02 ref.session) (fun t =>
    t |> offerEnd cCANCELLED |> ownerChange 0x02 ref.session none |> claimsServe |> complete ref 0x05 cOK) s)

/-- HANDOVER: ownership offered to a target that is open and not read-only; an offer to the owner itself is refused likewise
(DESIGN CHOICE, log entry 36). -/
def handover (ref : CmdRef) (target : Nat) (s : State) : State :=
  if !on s (HBR_SESS_OPEN target) || on s (HBR_SESS_READONLY target) || target == ref.session.val then
    complete ref 0x06 cBADARG s
  else s |> offerEnd cSUPERSEDED |> set1 HBR_OFFER_VALID |> wr HBR_OFFER_TO target
    |> wr HBR_OFFER_REMAIN (rd s HBR_OWNCFG_OFFERTO) |> wr I.HBR_OFFEREND (upNow s + rd s HBR_OWNCFG_OFFERTO * nsPerS) |> wait ref 0x06

/-- HANDOVER with ARG0[2:0]. -/
def execHandover (ref : CmdRef) (target : Fin 8) (s : State) : Out :=
  .next (cmdGate ref 0x06 id (handover ref target) s)

/-- ACCEPT: by the target, ownership moves at once; a target that has become read-only is refused (R317). -/
def execAccept (ref : CmdRef) (s : State) : Out :=
  .next (cmdGate ref 0x07 id (fun t =>
    if neverOwns t ref.session then t |> auditOwner 0x02 ref.session |> complete ref 0x07 cROLE
    else if on t HBR_OFFER_VALID && rd t HBR_OFFER_TO == ref.session.val then
      t |> ownerChange 0x02 ref.session (some ref.session.val) |> offerEnd cOK |> complete ref 0x07 cOK
    else t |> auditOwner 0x02 ref.session |> complete ref 0x07 cSTATE) s)

/-- Commands of the old owner marked O that have not been passed on complete with ROLE (Table 13.6, step 2). -/
def dropOwnerCmds (old : Nat) (s : State) : State :=
  let hit := fun (c : InCmd) => c.ref.session.val == old && !c.passed && ownerOp c.desc.opcode
  (s.cmds.filter hit).foldl (fun t c => complete c.ref c.desc.opcode cROLE t)
    { s with cmds := s.cmds.map (fun c => if hit c then { c with passed := true } else c) }

/-- Steps 1 and 2 of a forced takeover. -/
def takeover (ref : CmdRef) (s : State) : State :=
  let n := ref.session.val
  if on s (HBR_SESS_READONLY n) ∨ ((on s HBR_OWNER_VALID ∨ on s HBR_OWNER_ORPHAN) ∧ sessRole s n < rd s HBR_OWNER_ROLE) then
    s |> auditOwner 0x03 n |> complete ref 0x08 cROLE
  else if isOwner s n then complete ref 0x08 cOK s
  else
    let old := rd s HBR_OWNER_SESSION
    let had := on s HBR_OWNER_VALID
    s |> ownerChange 0x03 n (some n) |> raise 323 |> offerEnd cCANCELLED |> when had (dropOwnerCmds old)
      |> when had (fun t => { t with notices := t.notices ++ [(old, upNow s)] }) |> complete ref 0x08 cOK

/-- TAKEOVER. -/
def execTakeover (ref : CmdRef) (s : State) : Out :=
  .next (cmdGate ref 0x08 (auditOwner 0x03 ref.session) (takeover ref) s)

/-- The NOTICE unit for an old owner: the spec gives no layout of its data, whose number and values are free (log entry 138). -/
def ownerNotice (n : Nat) (s : State) : State :=
  { s with freeCtr := s.freeCtr + 32 } |> emit (.unit n (unitNotice ((List.range 32).map (fun i => BitVec.ofNat 8 (Config.freeValue (s.freeCtr + i))))))
    |> wr (I.HBR_LASTTX n) (upNow s)

/-- TAKEOVER_NOTICE: 1 ms after a takeover its old owner receives a NOTICE, or for session 0 the vector of event 323. -/
def execTakeoverNotice (s : State) : Out :=
  .next (match s.notices with
    | [] => s
    | (n, t0) :: rest =>
      if upNow s < t0 + 1000000 then s
      else { s with notices := rest } |> (if n = 0 then msixRaise (rd s (EVC_ROUTE_VEC 323)) else ownerNotice n))

/-- OFFER_TIMEOUT: the offer lapses after OFFERTO seconds. -/
def execOfferTimeout (s : State) : Out := .next (if upNow s < rd s I.HBR_OFFEREND then s else offerEnd cTIMEOUT s)

/-- ORPHAN_HOLD_EXPIRY: after HOLD seconds orphaned ownership ends, and waiting CLAIMs are served. -/
def execOrphanHoldExpiry (s : State) : Out :=
  .next (when (on s HBR_OWNER_ORPHAN && decide (rd s I.HBR_HOLDEND ≤ upNow s)) (fun t =>
    t |> clr HBR_OWNER_ORPHAN |> clr HBR_OWNER_SESSION |> clr HBR_OWNER_ROLE |> clr HBR_OWNER_IDENT |> claimsServe) s)

/-! Remote sessions (R315, R316) -/

/-- The lowest remote session that is not open. -/
def freeSession (s : State) : Option Nat := [1, 2, 3, 4, 5, 6, 7].find? (fun n => !on s (HBR_SESS_OPEN n))

/-- The entry of KIND 1 whose digest is a certificate's fingerprint. -/
def certEntry (s : State) (fp : Nat) : Option Credential :=
  s.creds.entries.find? (fun e => e.kind == 1 && e.digest == fp && e.ident != 0 && e.ident != 0xFFFF)

/-- The cipher suites, key exchange groups and version of R315, by the numbers that TLS gives them (PRESUMED, log entry 138):
TLS_AES_128_GCM_SHA256 and TLS_AES_256_GCM_SHA384, x25519 and secp256r1, TLS 1.3. -/
def tlsSuites : List Nat := [0x1301, 0x1302]
def tlsGroups : List Nat := [0x001D, 0x0017]
def tlsVersion : Nat := 0x0304

/-- A handshake succeeds (R315). 0-RTT data and a session to resume are refused: nothing is taken from them, and the handshake goes its
full way (DESIGN CHOICE, log entry 138). -/
def handshakeOk (h : TlsHello) : Bool :=
  h.versions.contains tlsVersion && h.suites.any tlsSuites.contains && h.groups.any tlsGroups.contains && h.p256 && h.verified

/-- A connection is refused by a TLS alert: event 327. -/
def tlsRefuse (s : State) : State := s |> emit .tlsAlert |> raise 327

/-- The address that a client connects to answers: the service address only on the active (R426). -/
def tlsAnswers (h : TlsHello) (s : State) : Bool := !h.service || rd s PAIR_STATUS_STATE == 3

/-- The sessions on the service address end (R444). -/
def serviceSessionsEnd (s : State) : State :=
  [1, 2, 3, 4, 5, 6, 7].foldl (fun t n => when (on t (I.HBR_SVC n)) (fun u => u |> sessClose n |> clr (I.HBR_SVC n)) t) s

/-- TLS_CONNECT: `anchor` is the CA certificate that the client certificate chains to, and `fp` its fingerprint. -/
def execTlsConnect (hello : TlsHello) (anchor : List Nat) (fp : Nat) (s : State) : Out :=
  .next (if !tlsAnswers hello s then s
    else match freeSession s, certEntry s fp with
    | some n, some e =>
      if handshakeOk hello && s.creds.anchors.contains anchor && !on s I.ROM then
        s |> sessOpen n e.ident e.role e.readOnly |> wr (I.HBR_SVC n) (b2n hello.service)
      else tlsRefuse s
    | _, _ => tlsRefuse s)

/-- TLS_CONNECTION_CLOSED. -/
def execTlsConnectionClosed (sess : Fin 8) (s : State) : Out := .next (if sess.val = 0 then s else sessClose sess s)

/-- A unit of an open remote session arrives. -/
def unitArrives (sess : Nat) (s : State) : State := wr (I.HBR_LASTRX sess) (upNow s) s

/-- A COMMAND unit: taken, FULL, or BADARG for a ring pair not in use. -/
def unitCommand (sess : Fin 8) (ring : Nat) (d : Desc) (data : List Byte) (s : State) : State :=
  let ref : CmdRef := ⟨sess, ring, d.tag % 65536, d.ci⟩
  if ring ≥ rd s (HBR_SESS_RINGS sess) then complete ref d.opcode cBADARG s
  else if inflight s sess ring ≥ 64 then complete ref d.opcode cFULL s
  else takeCmd sess ring d data s

/-- A COMMAND unit as R316 has it: OWN = 1, and at most 65,536 bytes of data. -/
def unitOk (u : CmdUnit) : Bool := (descOf u.words).own && decide (u.dlen.toNat ≤ 65536)

/-- UNIT_COMMAND: a unit of TYPE `ty`; RINGS must have come first, and a unit of another type closes the session, as does one with OWN = 0
or too many data (DESIGN CHOICE, log entry 138). -/
def execUnitCommand (sess : Fin 8) (ty : Byte) (ring : Byte) (u : CmdUnit) (s : State) : Out :=
  .next (if sess.val = 0 ∨ !on s (HBR_SESS_OPEN sess) then s
    else if ty ≠ 1 ∨ rd s (HBR_SESS_RINGS sess) = 0 ∨ unitOk u = false then sessClose sess s
    else s |> unitArrives sess |> unitCommand sess ring.toNat (descOf u.words) (u.data.take u.dlen.toNat))

/-- UNIT_KEEPALIVE. -/
def execUnitKeepalive (sess : Fin 8) (s : State) : Out :=
  .next (if sess.val = 0 ∨ !on s (HBR_SESS_OPEN sess) then s
    else if rd s (HBR_SESS_RINGS sess) = 0 then sessClose sess s else unitArrives sess s)

/-- UNIT_RINGS: the first unit of a session, with DLEN = 0, sets its number of ring pairs, 1 to 16; any other closes it (DESIGN CHOICE, log
entry 138). -/
def execUnitRings (sess : Fin 8) (u : RingsUnit) (s : State) : Out :=
  .next (if sess.val = 0 ∨ !on s (HBR_SESS_OPEN sess) then s
    else if rd s (HBR_SESS_RINGS sess) ≠ 0 ∨ u.ring.toNat = 0 ∨ 16 < u.ring.toNat ∨ u.dlen ≠ 0 then sessClose sess s
    else s |> unitArrives sess |> wr (HBR_SESS_RINGS sess) u.ring.toNat)

/-- KEEPALIVE_SEND: the module has sent an open session nothing for 2 s. -/
def execKeepaliveSend (sess : Fin 8) (s : State) : Out :=
  .next (if sess.val = 0 ∨ !on s (HBR_SESS_OPEN sess) ∨ upNow s < rd s (I.HBR_LASTTX sess) + 2 * nsPerS then s
    else s |> emit (.unit sess unitKeepalive) |> wr (I.HBR_LASTTX sess) (upNow s))

/-- SESSION_IDLE_TIMEOUT: a session that has sent nothing for 10 s is closed. -/
def execSessionIdleTimeout (sess : Fin 8) (s : State) : Out :=
  .next (if sess.val = 0 ∨ upNow s < rd s (I.HBR_LASTRX sess) + 10 * nsPerS then s else sessClose sess s)

/-- SUBSCRIBE: the mask of event sources of a remote session; sessions 1 to 7 only. -/
def subscribe (ref : CmdRef) (mask : List Byte) (s : State) : State :=
  let n := ref.session.val
  if n = 0 then complete ref 0x12 cBADOP s
  else if mask.length < 64 then complete ref 0x12 cBUFERR s
  else
    let src := (List.range 512).filter (fun i => (mask.getD (i / 8) 0).getLsbD (i % 8))
    { s with subs := s.subs.filter (fun b => b.1 != n) ++ src.map (fun i => (n, i)) } |> completeMoved ref 0x12 cOK 64

/-- SUBSCRIBE with the contents of its buffer, none where it could not be read. -/
def execSubscribe (ref : CmdRef) (mask : Option (List Byte)) (s : State) : Out :=
  .next (cmdGate ref 0x12 id (fun t => subscribe ref ((cmdBytes t ref mask).getD []) t) s)

/-! FENCE (R331) -/

/-- FENCE: of session 0 it carries and clears HBR_FENCE.FAIL; of a remote session it completes after every earlier command of
its ring, with PWFAIL = 0. -/
def fence (ref : CmdRef) (s : State) : State :=
  let pw := ref.session.val == 0 && on s HBR_FENCE_FAIL
  s |> when (ref.session.val == 0) (clr HBR_FENCE_FAIL) |> incSat HBR_FENCE_FENCES 1
    |> completeWith ref 0x09 cOK 0 (rd s CKP_SEQ) 0 pw

/-- An earlier command of the same ring has not completed. -/
def earlierOpen (s : State) (ref : CmdRef) : Bool :=
  !earlierDone s ((cmdIndex s ref).getD s.cmds.length) ref

/-- FENCE. -/
def execFence (ref : CmdRef) (s : State) : Out :=
  .next (if ref.session.val ≠ 0 ∧ earlierOpen s ref = true then s else cmdGate ref 0x09 id (fence ref) s)

/-! RDLOG (R466) -/

/-- A LOGSEQ lies before `first`, both counted modulo 2^31 (R466). -/
def seqBefore (seq first : Nat) : Bool :=
  let d := (first + 2 ^ 31 - seq % 2 ^ 31) % 2 ^ 31
  decide (0 < d ∧ d < 2 ^ 30)

/-- Entries of the ring from LOGSEQ `first` on, or of the critical area from place `first`, up to `n` of them; the ring is
read in LOGSEQ order from its oldest entry. `first` has 31 bits, so that LOGSEQ is compared modulo 2^31 (DEDUCED, log entry 133). -/
def logEntries (s : State) (crit : Bool) (first n : Nat) : List Byte :=
  if crit then
    (List.range (min n (rd s EVC_LOGSTAT_CRITUSED - first))).flatMap (fun i => memRead s (critAddr s (first + i)) 32)
  else
    let cnt := rd s I.EVC_RINGCOUNT
    let h := rd s EVC_LOGSTAT_HEAD
    let ps := (List.range cnt).map (fun i => (h + 4096 - cnt + i) % 4096)
    let from_ := ps.dropWhile (fun p => seqBefore (memNat s (ringAddr s p + 0x10) 4) first)
    (from_.take n).flatMap (fun p => memRead s (ringAddr s p) 32)

end Sys2Proof.Machine
end

