-- ==== Sys2Proof/Machine/JlaFrames.lean ====
section
/-! DEFINITION. What the Jalora controllers share (chapters 9 and 10): their state, round layout and slots, the claim table,
line delays, the header check and the frames that the module sends. -/

namespace Sys2Proof.Machine

open R

/-- The controller of channel c. -/
def jch (s : State) (c : Nat) : JlaCh := s.jla.getD c JlaCh.off

/-- The controller of channel c changed. -/
def jset (c : Nat) (f : JlaCh → JlaCh) (s : State) : State := { s with jla := s.jla.set c (f (jch s c)) }

/-- Event i of channel c (R235, R262). -/
def jraise (c i : Nat) (s : State) : State := raise (128 + 32 * c + i) s

/-! Protocol states (Table 10.9) -/

def jlOFF : Nat := 0
def jlLISTEN : Nat := 1
def jlCOLD : Nat := 2
def jlBACK : Nat := 3
def jlNORMAL : Nat := 4
def jlRESTART : Nat := 5

def jState (s : State) (c : Nat) : Nat := rd s (JLA_SYNCSTAT_STATE c)

/-- The standby's channels run in MIRROR and build no frames of their own (R442). -/
def jMirror (s : State) (c : Nat) : Bool := on s (I.JLA_MIRROR c)

/-- The module sends its own frames in COLDSTART and NORMAL (Table 10.2). -/
def jSends (s : State) (c : Nat) : Bool := (jState s c == jlCOLD || jState s c == jlNORMAL) && (jch s c).live && !jMirror s c

/-! Round layout (Table 9.1, R212) -/

/-- Πmt = ceil(PREC / 100 ns). -/
def jPmt (s : State) (c : Nat) : Nat := (rd s (JLA_TIMING_PREC c) + 99) / 100

/-- Slot capacity in bytes. -/
def jCap (s : State) (c : Nat) : Nat := min ((25 * (rd s (JLA_SLOTCFG_SLOTLEN c) - 2 * jPmt s c)) / 2 - 50) 1488

/-- Round length in ns. -/
def jRoundNs (s : State) (c : Nat) : Nat := 100 * rd s (JLA_ROUNDCFG_ROUNDLEN c)

/-- Action point of static slot `k` and of minislot `m`, in ns from the round start. -/
def jAp (s : State) (c k : Nat) : Nat := 100 * ((k - 1) * rd s (JLA_SLOTCFG_SLOTLEN c) + rd s (JLA_TIMING_APO c))
def jDs (s : State) (c : Nat) : Nat := 100 * (rd s (JLA_SLOTCFG_NSTATIC c) * rd s (JLA_SLOTCFG_SLOTLEN c))
def jMiniStart (s : State) (c m : Nat) : Nat := jDs s c + 100 * ((m - 1) * rd s (JLA_DYNCFG_MINISLOT c))

/-! Slots (R211, R256, R260) -/

/-- Address of claim table entry i, and whether it holds a grant. -/
def claimAddr (s : State) (c i : Nat) : Nat := 64 * rd s (JLA_CLAIMTAB_BASE c) + 16 * i
def claimCount (s : State) (c : Nat) : Nat := min (rd s (JLA_CLAIMCFG_ENTRIES c)) 64
def claimValid (s : State) (c i : Nat) : Bool := bit (memNat s (claimAddr s c i) 4) 31
def claimSlot (s : State) (c i : Nat) : Nat := bits (memNat s (claimAddr s c i) 4) 16 11
def claimLen (s : State) (c i : Nat) : Nat := bits (memNat s (claimAddr s c i) 4) 0 11
def claimMac (s : State) (c i : Nat) : Nat :=
  memNat s (claimAddr s c i + 4) 4 * 0x10000 + bits (memNat s (claimAddr s c i + 8) 4) 16 16
def claimIdle (s : State) (c i : Nat) : Nat := bits (memNat s (claimAddr s c i + 8) 4) 0 16

/-- The grant of a slot. -/
def grantOf (s : State) (c slot : Nat) : Option Nat :=
  (List.range (claimCount s c)).find? (fun i => claimValid s c i && claimSlot s c i == slot)

/-- Slots of the module: management, beacon, output. -/
def moduleSlot (s : State) (c slot : Nat) : Bool :=
  slot == 1 || slot == 2
    || decide (rd s (JLA_OUTSLOT_FIRST c) ≤ slot ∧ slot < rd s (JLA_OUTSLOT_FIRST c) + rd s (JLA_OUTSLOT_COUNT c))

/-- A slot is assigned to the module, a node entry or a grant. -/
def slotAssigned (s : State) (c slot : Nat) : Bool :=
  moduleSlot s c slot || (nodeOfSlot s c slot).isSome || (grantOf s c slot).isSome

/-- A slot is free: a spare slot without grant, and not in its release period. -/
def slotFree (s : State) (c slot : Nat) : Bool :=
  decide (1 ≤ slot ∧ slot ≤ rd s (JLA_SLOTCFG_NSTATIC c)) && !slotAssigned s c slot
    && !((jch s c).releasing.any (fun p => p.1 == slot))

/-- The slots of the sync list, in register order (R242). -/
def syncList (s : State) (c : Nat) : List Nat :=
  (((List.range 7).map (fun n => [rd s (JLA_SYNCLIST_SLOTA c n), rd s (JLA_SYNCLIST_SLOTB c n)])).flatten).filter (· != 0)

/-- The sync set: slot 1 and the sync list. -/
def syncSet (s : State) (c : Nat) : List Nat := 1 :: syncList s c

/-! Line delays (R239) -/

def delayAddr (s : State) (c n : Nat) : Nat := 64 * rd s (JLA_DELAYTAB_BASE c) + 16 * n
def delayUp (s : State) (c path n : Nat) : Nat := bits (memNat s (delayAddr s c n) 4) (16 * path) 11
def delayInc (s : State) (c path n : Nat) : Nat := memNat s (delayAddr s c n + 4 + 4 * path) 4
def delayTrim (s : State) (c path n : Nat) : Int := toSigned 16 (memNat s (delayAddr s c n + 12 + 2 * path) 2)

/-- δx of node n in units of 1/16 ns, along the chain of upstream neighbours. -/
def lineDelay (s : State) (c path : Nat) : Nat → Nat → Int
  | 0, _ => 0
  | fuel + 1, n =>
    (delayInc s c path n : Int) + delayTrim s c path n
      + (if delayUp s c path n = 0 then 0
         else match nodeOfSlot s c (delayUp s c path n) with
           | some u => lineDelay s c path fuel u
           | none => 0)

/-- Content of the DELAY page of node n (Table 10.4). -/
def delayPage (s : State) (c n : Nat) : Nat :=
  let d := fun path => if bit (nodeAttach s c n) path then ofSigned 32 (lineDelay s c path 512 n) else 0xFFFFFFFF
  d 0 * 2 ^ 32 + d 1

/-! Frames (R213 to R215) -/

/-- One bit of the CRC-16 with polynomial 0x1021. -/
def crcBit (v : Nat) : Nat := if v % 65536 < 0x8000 then v * 2 % 65536 else Nat.xor (v * 2 % 65536) 0x1021

/-- CRC-16 of R215. -/
def crc16 (bs : List Byte) : Nat :=
  bs.foldl (fun v b => (List.range 8).foldl (fun u _ => crcBit u) (Nat.xor v (b.toNat * 256))) 0xFFFF

/-- The flags of header byte 1 beside PATH. -/
structure JFlags where
  sync : Bool := false
  startup : Bool := false
  claim : Bool := false
  safe : Bool := false

/-- The 12-byte header (Table 9.3). -/
def jHeader (typ : Nat) (fl : JFlags) (path chan slot round len info : Nat) : List Byte :=
  let h := [BitVec.ofNat 8 (16 + typ % 16),
      BitVec.ofNat 8 (128 * b2n fl.sync + 64 * b2n fl.startup + 32 * b2n fl.claim + 16 * b2n fl.safe + 8 * path)]
    ++ bytesBE 2 (chan * 16384 + slot % 2048) ++ bytesBE 2 round ++ bytesBE 2 (len % 2048) ++ bytesBE 2 info
  h ++ bytesBE 2 (crc16 h)

/-- A frame of the module, from the destination address to the end of the padded payload. -/
def jBytes (s : State) (c : Nat) (hdr payload : List Byte) : List Byte :=
  bytesBE 6 (0x034A4C520000 + c) ++ bytesBE 6 (rd s SYS_MAC) ++ bytesBE 2 0x88B5 ++ hdr
    ++ payload ++ List.replicate (34 - payload.length) 0

/-- One bit of the CRC-32 of IEEE 802.3, least significant bit first. -/
def fcsBit (v : Nat) : Nat := if v % 2 = 0 then v / 2 else Nat.xor (v / 2) 0xEDB88320

/-- The frame check sequence of IEEE 802.3 (PRESUMED, log entry 112). -/
def fcs (bs : List Byte) : Nat :=
  0xFFFFFFFF - bs.foldl (fun v b => (List.range 8).foldl (fun u _ => fcsBit u) (Nat.xor v b.toNat)) 0xFFFFFFFF

/-- What a MAC puts on the wire: preamble and SFD, the frame, FCS (R213). -/
def macFrame (bs : List Byte) : List Byte := List.replicate 7 0x55 ++ [0xD5] ++ bs ++ bytesLE 4 (fcs bs)

/-- The active gives a module frame of a round to the mirroring channel, for the other path (R442). -/
def moduleRelay (c typ : Nat) (fl : JFlags) (slot round info : Nat) (payload : List Byte) (s : State) : State :=
  when (rd s PAIR_STATUS_STATE == 3 && on s PAIR_STATUS_PLINK)
    (emit (.frame 0x27 (4 + c) (jBytes s c
      (jHeader typ fl (if on s (JLA_CTRL_PATHA_EN c) then 1 else 0) c slot round payload.length info) payload))) s

/-- Send a frame on every path port in use (R217). -/
def jSend (c typ : Nat) (fl : JFlags) (slot info : Nat) (payload : List Byte) (s : State) : State :=
  let f := fun path => jBytes s c
    (jHeader typ fl path c slot (rd s (JLA_STATUS_ROUND c)) payload.length info) payload
  s |> when (on s (JLA_CTRL_PATHA_EN c)) (emit (.frame (0x10 + c) 0 (macFrame (f 0))))
    |> when (on s (JLA_CTRL_PATHB_EN c)) (emit (.frame (0x10 + c) 1 (macFrame (f 1))))

/-! The MGMT frame (R229 to R231) -/

/-- The QUENCH ranges with MODE ≠ 0, in register order. -/
def quenchSet (s : State) (c : Nat) : List (Nat × Nat × Nat) :=
  ((List.range 8).map (fun n => (rd s (JLA_QUENCH_MODE c n), rd s (JLA_QUENCH_FIRST c n), rd s (JLA_QUENCH_LAST c n)))).filter
    (fun q => q.1 != 0)

/-- The QUENCH TLV of a range. -/
def quenchTlv (q : Nat × Nat × Nat) : List Byte := [0x01, 5, BitVec.ofNat 8 q.1] ++ bytesBE 2 q.2.1 ++ bytesBE 2 q.2.2

/-- The mailbox bytes. -/
def mboxBytes (s : State) (c n : Nat) : List Byte :=
  (((List.range 16).map (fun i => bytesLE 4 (rd s (JLA_MBOX_DATA c i)))).flatten).take n

/-- Key under which a QUENCH command of register n waits for the management slot of channel c (R322). -/
def quenchKey (c n : Nat) : Nat := 0x2900 + 8 * c + n

/-- How many QUENCH ranges the MGMT frame of a channel has room for. -/
def quenchRoom (s : State) (c : Nat) : Nat := (jCap s c - 1) / 7

/-- The MGMT frame carries what QUENCH register n holds: its range, or that it names none. -/
def quenchCarried (s : State) (c n : Nat) : Bool :=
  rd s (JLA_QUENCH_MODE c n) == 0 || (((List.range 8).filter (fun k => rd s (JLA_QUENCH_MODE c k) != 0)).take (quenchRoom s c)).contains n

/-- The QUENCH commands of register n of channel c complete. -/
def quenchDoneAt (c n : Nat) (s : State) : State :=
  (s.waiting.filter (fun w => w.1 == quenchKey c n)).foldl (fun t w => complete w.2 0x29 cOK t)
    { s with waiting := s.waiting.filter (fun w => w.1 != quenchKey c n) }

/-- The QUENCH commands of channel c complete whose register the MGMT frame carries. -/
def quenchDone (c : Nat) (s : State) : State :=
  (List.range 8).foldl (fun t n => when (quenchCarried s c n) (quenchDoneAt c n) t) s

/-- What a MGMT frame sent now carries: the QUENCH ranges whose TLVs fit whole with the end byte, and whether the mailbox does (R229). -/
def mgmtSet (s : State) (c : Nat) : List (Nat × Nat × Nat) := (quenchSet s c).take (quenchRoom s c)
def mgmtBox (s : State) (c : Nat) : Bool :=
  on s (JLA_MBOXCTL_BUSY c) && !on s (I.JLA_HOLD c)
    && decide (((mgmtSet s c).map quenchTlv).flatten.length + (jch s c).mboxLen + 1 ≤ jCap s c)

/-- Its payload and flags. -/
def mgmtBody (s : State) (c : Nat) : List Byte :=
  ((mgmtSet s c).map quenchTlv).flatten ++ (if mgmtBox s c then mboxBytes s c (jch s c).mboxLen else []) ++ [0]
def mgmtFlags (s : State) (c : Nat) : JFlags := { sync := true, startup := jState s c == jlCOLD }

/-- MGMT_SEND (R229). Event 11 with the first round that carries a changed set (R230). -/
def mgmtSend (c : Nat) (s : State) : State :=
  s |> jSend c 3 (mgmtFlags s c) 1 0 (mgmtBody s c)
    |> when (mgmtBox s c) (clr (JLA_MBOXCTL_BUSY c))
    |> jset c (fun j => { j with qsent := mgmtSet s c })
    |> wr (JLA_STATUS_QUENCH c) (b2n (!(mgmtSet s c).isEmpty))
    |> when (mgmtSet s c != (jch s c).qsent) (jraise c 11) |> quenchDone c

/-- The active relays the MGMT frame of the next round, as it would send it now (R442; DESIGN CHOICE, log entry 105). -/
def mgmtRelay (c : Nat) (s : State) : State :=
  when (jSends s c) (moduleRelay c 3 (mgmtFlags s c) 1 ((rd s (JLA_STATUS_ROUND c) + 1) % 65536) 0 (mgmtBody s c)) s

def execMgmtSend (c : Fin 4) (s : State) : Out := .next (if jSends s c then mgmtSend c s else s)

/-! The beacon (R255 to R257) -/

/-- Payload bytes 2 to 25 (Table 10.3). -/
def beaconFixed (s : State) (c : Nat) : List Byte :=
  bytesBE 4 (rd s (JLA_ROUNDCFG_ROUNDLEN c)) ++ bytesBE 2 (rd s (JLA_SLOTCFG_NSTATIC c))
    ++ bytesBE 2 (rd s (JLA_SLOTCFG_SLOTLEN c)) ++ bytesBE 2 (rd s (JLA_DYNCFG_NMINI c))
    ++ bytesBE 1 (rd s (JLA_DYNCFG_MINISLOT c)) ++ bytesBE 1 (rd s (JLA_TIMING_APO c)) ++ bytesBE 2 (rd s (JLA_TIMING_PREC c))
    ++ bytesBE 2 (rd s (JLA_OUTSLOT_FIRST c)) ++ bytesBE 2 (rd s (JLA_OUTSLOT_COUNT c)) ++ bytesBE 1 (rd s (JLA_OUTSLOT_OWD c))
    ++ bytesBE 1 (ofSigned 8 (jch s c).steer) ++ bytesBE 2 (rd s (JLA_SYNCCFG_OFFLIM c)) ++ bytesBE 2 (rd s (JLA_SYNCCFG_RATELIM c))

/-- SCHEDID: CRC-16 over payload bytes 2 to 20 and 22 to 25. -/
def schedId (s : State) (c : Nat) : Nat :=
  let b := beaconFixed s c
  crc16 (b.take 19 ++ b.drop 20)

/-- The 64-bit map of free slots of SPARE page `p`; 0 while claims are not granted. -/
def sparePage (s : State) (c p : Nat) : Nat :=
  if on s (JLA_CLAIMCFG_CLAIM_EN c) then
    (List.range 64).foldl (fun v k => if slotFree s c (64 * p + k + 1) then v + 2 ^ (63 - k) else v) 0
  else 0

/-- Four entries of the sync set, entry 0 of page 0 being slot 1. -/
def syncPage (s : State) (c p : Nat) : Nat :=
  (List.range 4).foldl (fun v e => v * 65536 + (syncSet s c).getD (4 * p + e) 0) 0

/-- Valid node entries in node table order. -/
def validNodes (s : State) (c : Nat) : List Nat := (List.range (nodeCount s c)).filter (nodeValid s c)

/-- A beacon page: PAGETYPE, PAGE and content. -/
structure JPage where
  typ : Nat
  page : Nat
  content : Nat

/-- The page of node n's line delays, which is noted as sent. -/
def delayPageSend (c n : Nat) (s : State) : JPage × State :=
  (⟨3, nodeSlot s c n, delayPage s c n⟩,
   jset c (fun j => { j with delaySent := Assoc.put (nodeSlot s c n) (delayPage s c n) j.delaySent }) s)

/-- The next page of the rotation (R257, rule 3). -/
def rotationPage (c : Nat) (s : State) : JPage × State :=
  let j := jch s c
  let vs := validNodes s c
  let spare := if j.firstRot then 0 else (rd s (JLA_SLOTCFG_NSTATIC c) + 63) / 64
  let total := 4 + spare + vs.length
  let s1 := jset c (fun j => if j.rot + 1 < total then { j with rot := j.rot + 1 }
    else { j with rot := 0, firstRot := false }) s
  if j.rot < 4 then (⟨1, j.rot, syncPage s c j.rot⟩, s1)
  else if j.rot < 4 + spare then (⟨2, j.rot - 4, sparePage s c (j.rot - 4)⟩, s1)
  else match vs[j.rot - 4 - spare]? with
    | some n => delayPageSend c n s1
    | none => (⟨0, 0, 0⟩, s1)

/-- The page of the next beacon by R257; in hold only SYNC pages, and the rotation stands still (R489). -/
def choosePage (c : Nat) (s : State) : JPage × State :=
  let j := jch s c
  if on s (I.JLA_HOLD c) then (⟨1, rd s (JLA_STATUS_ROUND c) % 4, syncPage s c (rd s (JLA_STATUS_ROUND c) % 4)⟩, s)
  else match j.pages with
    | g :: gs =>
      let g' := { g with sent := g.sent + 1 }
      (⟨4, g.slot, g.mac * 65536 + g.len⟩,
       jset c (fun j => { j with pages := if g'.sent < 4 then g' :: gs else gs }) s)
    | [] =>
      match (validNodes s c).find? (fun n => match Assoc.find (nodeSlot s c n) j.delaySent with
          | some v => v != delayPage s c n
          | none => false) with
      | some n => delayPageSend c n s
      | none => rotationPage c s

/-- INFO and payload of a beacon with a page. -/
def beaconInfo (p : JPage) : Nat := p.typ * 4096 + p.page % 4096
def beaconBody (s : State) (c : Nat) (p : JPage) : List Byte := bytesBE 2 (schedId s c) ++ beaconFixed s c ++ bytesBE 8 p.content

/-- BEACON_SEND. -/
def beaconSend (c : Nat) (s : State) : State :=
  let (p, s1) := choosePage c s
  s1 |> jSend c 4 {} 2 (beaconInfo p) (beaconBody s c p)
    |> wr (JLA_STEER c) (ofSigned 8 (jch s c).steer)

def execBeaconSend (c : Fin 4) (s : State) : Out := .next (if jSends s c then beaconSend c s else s)

/-! OUTPUT frames (R225, R226, R489) -/

/-- The frame of output slot FIRST + k: flags and payload, the sequence number and the 64 bytes of the positions; in hold SAFE = 1 and a
zero payload. -/
def outputFlags (s : State) (c : Nat) : JFlags := { safe := on s (I.JLA_HOLD c) || on s (JLA_STATUS_SAFE c) }
def outputBody (s : State) (c k : Nat) : List Byte :=
  bytesBE 8 (rd s (JLA_TXSEQ_SEQ c))
    ++ (if on s (I.JLA_HOLD c) then List.replicate 64 0 else memRead s (txBase s c (rd s (JLA_STATUS_TXBUF c)) + 64 * k) 64)

/-- OUTPUT_SEND. -/
def outputSend (c k : Nat) (s : State) : State :=
  jSend c 2 (outputFlags s c) (rd s (JLA_OUTSLOT_FIRST c) + k) (rd s (JLA_OUTSLOT_OWD c) * 256) (outputBody s c k) s

/-- At a round start the active relays the BEACON and OUTPUT frames of the round, as it would send them now (R442; DESIGN CHOICE, log entry
105). -/
def roundRelay (c : Nat) (s : State) : State :=
  let p := (choosePage c s).1
  let r := rd s (JLA_STATUS_ROUND c)
  when (jSends s c && rd s PAIR_STATUS_STATE == 3) (fun t =>
    (List.range (min 512 (rd s (JLA_OUTSLOT_COUNT c)))).foldl (fun u k => when (!on s (I.JLA_EMPTY c))
        (moduleRelay c 2 (outputFlags s c) (rd s (JLA_OUTSLOT_FIRST c) + k) r (rd s (JLA_OUTSLOT_OWD c) * 256) (outputBody s c k)) u)
      (moduleRelay c 4 {} 2 r (beaconInfo p) (beaconBody s c p) t)) s

def execOutputSend (c : Fin 4) (k : Fin 512) (s : State) : Out :=
  .next (if jSends s c && !on s (I.JLA_EMPTY c) && decide (k.val < rd s (JLA_OUTSLOT_COUNT c)) then outputSend c k s else s)

end Sys2Proof.Machine
end

