-- ==== Sys2Proof/Machine/JlaRx.lean ====
section
/-! DEFINITION. Reception on a Jalora channel (R218 to R227, R230, R240, R242, R243, R252, R253, R258 to R260). The copy whose
FCS check completes first is the one whose command comes first (R220). -/

namespace Sys2Proof.Machine

open R

/-- A received frame taken apart: destination, EtherType, source, header fields, whether HCRC is correct, payload bytes. -/
structure JFrame where
  dst : Nat
  ether : Nat
  src : Nat
  ver : Nat
  typ : Nat
  sync : Bool
  startup : Bool
  claim : Bool
  safe : Bool
  chan : Nat
  slot : Nat
  round : Nat
  len : Nat
  info : Nat
  hcrcOk : Bool
  payload : List Byte

/-- Bytes [k, k + n) as a number, most significant first. -/
def beAt (bs : List Byte) (k n : Nat) : Nat := beBytes ((bs.drop k).take n)

/-- The bytes from the destination address to the end of the payload (R213, Table 9.3). -/
def jParse (bs : List Byte) : JFrame :=
  let h := (bs.drop 14).take 12
  let b0 := beAt h 0 1
  let b1 := beAt h 1 1
  ⟨beAt bs 0 6, beAt bs 12 2, beAt bs 6 6, b0 / 16, b0 % 16, bit b1 7, bit b1 6, bit b1 5, bit b1 4, beAt h 2 2 / 16384,
   beAt h 2 2 % 2048, beAt h 4 2, beAt h 6 2 % 2048, beAt h 8 2, h.length == 12 && crc16 h == 0, bs.drop 26⟩

/-! Counting (R218, R232) -/

/-- Add 1 to a pending count of node n: 0 CRC, 1 BOUND, 2 MISMATCH, 3 CHAFF, 4 PATHDIFF. -/
def jCount (c n k : Nat) (s : State) : State :=
  jset c (fun j =>
    let l := (Assoc.find n j.cnts).getD [0, 0, 0, 0, 0]
    { j with cnts := Assoc.put n (l.set k (l.getD k 0 + 1)) j.cnts }) s

/-- Set an error flag of node n's record for this round (Table 9.7, word 1): bit 2 BOUND, 1 CRC, 0 MISMATCH. -/
def jFlag (c n k : Nat) (s : State) : State :=
  jset c (fun j => { j with flags := Assoc.put n (setBits ((Assoc.find n j.flags).getD 0) k 1 1) j.flags }) s

/-- A frame counted against a check: for the node whose slot it names, and in the channel totals. -/
def jCrcErr (c slot : Nat) (s : State) : State :=
  (match nodeOfSlot s c slot with | some n => s |> jCount c n 0 |> jFlag c n 1 | none => s)
    |> incSat (JLA_ERRCNT_CRC c) 1 |> glnAdd (32 + c) 1 |> jraise c 7

def jBoundErr (c slot : Nat) (s : State) : State :=
  (match nodeOfSlot s c slot with | some n => s |> jCount c n 1 |> jFlag c n 2 | none => s)
    |> incSat (JLA_ERRCNT_BOUND c) 1 |> glnAdd (36 + c) 1 |> jraise c 6

def jMismatch (c slot : Nat) (s : State) : State :=
  match nodeOfSlot s c slot with | some n => s |> jCount c n 2 |> jFlag c n 0 | none => s

/-! Where a frame arrived -/

/-- The place of a start: a static slot, or a minislot whose window it lies in (R221). -/
inductive JPlace where
  | static (slot : Nat)
  | mini (m : Nat)
  | none
  deriving DecidableEq

/-- The start lies within `ap` ± PREC (R219). -/
def inWindow (s : State) (c : Nat) (t : Int) (ap : Nat) : Bool := decide ((t - (ap : Int)).natAbs ≤ rd s (JLA_TIMING_PREC c))

/-- The static slot or minislot in which a frame starts, `t` ns after the round start. -/
def jPlace (s : State) (c : Nat) (t : Int) : JPlace :=
  if t < 0 then .none
  else
    let u := t.toNat
    let sl := 100 * rd s (JLA_SLOTCFG_SLOTLEN c)
    let ml := 100 * rd s (JLA_DYNCFG_MINISLOT c)
    if u < jDs s c then .static (u / sl + 1)
    else
      let m := (u - jDs s c) / ml + 1
      if m ≤ rd s (JLA_DYNCFG_NMINI c) && inWindow s c t (jMiniStart s c m + 100 * rd s (JLA_TIMING_APO c)) then .mini m
      else .none

/-- The dynamic counter of a path advances by a frame that starts in minislot m and ends at `e` ns, and the counter value
of that frame; none if the frame starts inside the one before it (R221). -/
def dynAdvance (c path m e : Nat) (s : State) : Option Nat × State :=
  let j := jch s c
  let (mi, dc) := if path = 0 then (j.miniA, j.dcA) else (j.miniB, j.dcB)
  if m < mi then (none, s)
  else
    let ml := 100 * rd s (JLA_DYNCFG_MINISLOT c)
    let next := (e + rd s (JLA_TIMING_PREC c) - jDs s c + ml - 1) / ml + 1
    let here := dc + (m - mi)
    (some here, jset c (fun j => if path = 0 then { j with miniA := next, dcA := here + 1 }
      else { j with miniB := next, dcB := here + 1 }) s)

/-! Claims (R259) -/

/-- The GRANT page of entry i is queued. -/
def pageQueue (c slot mac len : Nat) (s : State) : State :=
  jset c (fun j => { j with pages := j.pages ++ [⟨slot, mac, len, 0⟩] }) s

/-- A claim is refused without a page. -/
def claimRefuse (c : Nat) (s : State) : State := s |> incSat (JLA_CLAIMCNT_REFUSED c) 1 |> jraise c 26

/-- A claim in a valid frame, also where the other path's copy, of another sender, is the one kept (R259): its page is resent to the holder of a grant; in a free slot (`isFree`) it is granted; any other is
refused. -/
def claimTake (c slot : Nat) (isFree : Bool) (f : JFrame) (s : State) : State :=
  let want := beAt f.payload 0 2
  let holder := (List.range (claimCount s c)).find? (fun i => claimValid s c i && claimMac s c i == f.src)
  let free := (List.range (claimCount s c)).find? (fun i => !claimValid s c i)
  if on s (I.JLA_HOLD c) then claimRefuse c s
  else match holder, free with
    | some i, _ => pageQueue c (claimSlot s c i) (claimMac s c i) (claimLen s c i) s
    | none, some i =>
      if isFree && on s (JLA_CLAIMCFG_CLAIM_EN c) && decide (want ≤ jCap s c) then
        let a := claimAddr s c i
        s |> jlaStore a (bytesLE 4 (2 ^ 31 + slot * 65536 + want % 2048))
          |> jlaStore (a + 4) (bytesLE 4 (f.src / 65536))
          |> jlaStore (a + 8) (bytesLE 4 (f.src % 65536 * 65536))
          |> jlaStore (a + 12) (bytesLE 4 (beAt f.payload 4 4))
          |> inc (JLA_CLAIMCNT_GRANTED c) |> pageQueue c slot f.src want |> jraise c 25
      else claimRefuse c s
    | none, none => claimRefuse c s

/-! The dynamic receive ring (R227, R260) -/

/-- A kept frame is written to the next entry of the ring, or dropped if that entry is not the controller's. -/
def dynStore (c slot sender path start round : Nat) (payload : List Byte) (s : State) : State :=
  let n := rd s (JLA_DYNIDX_NEXT c)
  let a := 64 * rd s (JLA_DYNRX_BASE c) + 1536 * n
  let cnt := rd s (JLA_DYNRX_ENTRIES c)
  if on s (I.JLA_HOLD c) then incSat (JLA_DYNIDX_DROP c) 1 s
  else if cnt = 0 ∨ bit (memNat s a 4) 31 = false then s |> incSat (JLA_DYNIDX_DROP c) 1 |> jraise c 12
  else
    s |> jlaStore (a + 16) payload
      |> jlaStore (a + 4) (bytesLE 4 (round * 65536 + sender % 2048))
      |> jlaStore (a + 8) (bytesLE 4 start)
      |> jlaStore a (bytesLE 4 (path * 2 ^ 30 + slot * 65536 + payload.length))
      |> wr (JLA_DYNIDX_NEXT c) ((n + 1) % cnt)

/-! Keeping a valid frame (R220) -/

/-- The copy kept of a slot. -/
def keptOf (s : State) (c : Nat) (dyn : Bool) (slot : Nat) : Option JKept :=
  (jch s c).kept.find? (fun k => k.dyn == dyn && k.slot == slot)

/-- A delay sample of node n on a path (R240). -/
def delaySample (c n path : Nat) (e : Int) (s : State) : State :=
  jset c (fun j =>
    let p := (Assoc.find (2 * n + path) j.samples).getD (0, 0)
    { j with samples := Assoc.put (2 * n + path) (p.1 + e, p.2 + 1) j.samples }) s

/-- The second valid copy is chaff: it is counted and compared (R220). -/
def jChaff (c path : Nat) (k : JKept) (payload : List Byte) (s : State) : State :=
  let diff := payload != k.payload
  let node := if k.dyn then none else nodeOfSlot s c k.slot
  let k' := { k with seenA := k.seenA || path == 0, seenB := k.seenB || path == 1, differ := k.differ || diff }
  jset c (fun j => { j with kept := j.kept.map (fun x => if x.dyn == k.dyn && x.slot == k.slot then k' else x) }) s
    |> incSat (JLA_CHAFF c) 1 |> glnAdd (28 + c) 1
    |> (fun t => match node with | some n => t |> jCount c n 3 |> when diff (jCount c n 4) | none => t)
    |> when diff (jraise c 8)

/-- The frame is named by a MODE 2 range of the set in force (R230). -/
def quenched (s : State) (c slot : Nat) : Bool :=
  (jch s c).qsent.any (fun q => decide (q.1 ≥ 2 ∧ q.2.1 ≤ slot ∧ slot ≤ q.2.2))

/-- A copy relayed to the partner over the pair link carries its start (R443). -/
def jRelay (c : Nat) (t : Int) (bytes : List Byte) (relayed : Bool) (s : State) : State :=
  when (!relayed && on s PAIR_STATUS_PLINK && rd s PAIR_STATUS_POS != 3)
    (emit (.frame 0x27 c (bytesLE 8 (ofSigned 64 t) ++ bytes))) s

/-- A SYNC frame of a slot outside the sync set is counted: event 28. What counts it, no register shows (R242). -/
def syncOther (c : Nat) (s : State) : State := s |> jset c (fun j => { j with syncOther := j.syncOther + 1 }) |> jraise c 28

/-- The copy that is kept of a slot: claim, receive ring, relay. -/
def jKeep (c : Nat) (k : JKept) (f : JFrame) (bytes : List Byte) (relayed : Bool) (s : State) : State :=
  let isFree := !k.dyn && slotFree s c k.slot
  s |> jset c (fun j => { j with kept := j.kept ++ [k] })
    |> when (!k.dyn && f.claim) (claimTake c k.slot isFree f)
    |> when (!k.dyn && f.typ == 1 && (nodeOfSlot s c k.slot).isNone && (grantOf s c k.slot).isSome)
        (dynStore c k.slot k.slot k.path k.start f.round k.payload)
    |> when k.dyn (dynStore c k.slot (f.info % 2048) k.path k.start f.round k.payload)
    |> jRelay c k.start bytes relayed

/-- A valid frame in slot or with dynamic counter `slot`; `dev` is its start less the expected arrival. In NORMAL the startup frame of
another station is ignored (R252). -/
def jValid (c path : Nat) (dyn : Bool) (slot : Nat) (t dev : Int) (f : JFrame) (bytes : List Byte) (relayed : Bool)
    (s : State) : State :=
  let payload := f.payload.take f.len
  let node := if dyn then none else nodeOfSlot s c slot
  if quenched s c (if dyn then f.info % 2048 else slot) then s
  else if f.startup && !dyn && decide (slot > 1) && jState s c == jlNORMAL then jraise c 29 s
  else
    let s1 := match node with
      | some n => when (!on s (I.JLA_HOLD c)) (delaySample c n path dev) s
      | none => s
    let s2 := when (f.sync && !dyn && !(syncSet s c).contains slot) (syncOther c) s1
    match keptOf s2 c dyn slot with
    | some k => s2 |> jChaff c path k payload |> when (!dyn && f.claim && f.src != k.mac) (claimTake c slot false f)
    | none => jKeep c ⟨dyn, slot, f.typ, f.sync, f.startup, f.claim, f.safe, f.round, f.info, f.len, f.src, path, payload,
        path == 0, path == 1, false, dev, t.toNat⟩ f bytes relayed s2

/-! The checks (Table 9.5) -/

/-- TYPE is permitted in a static slot (Table 9.4, R258). -/
def typeInSlot (s : State) (c slot : Nat) (f : JFrame) : Bool :=
  if slot = 1 then f.typ == 3
  else if slot = 2 then f.typ == 4
  else if moduleSlot s c slot then f.typ == 2
  else if (nodeOfSlot s c slot).isSome || (grantOf s c slot).isSome then f.typ == 1 || f.typ == 6
  else slotFree s c slot && f.typ == 6 && f.claim

/-- Checks 5 to 8 of a frame for the slot or counter `want`. -/
def jRest (s : State) (c : Nat) (typeOk : Bool) (want : Option Nat) (f : JFrame) : Option Nat :=
  if f.ver != 1 || f.chan != c || !typeOk then some 5
  else if want != some f.slot then some 6
  else if f.round != rd s (JLA_STATUS_ROUND c) then some 7
  else if f.len > jCap s c || f.len > f.payload.length then some 8
  else none

/-- A collision of the module in COLDSTART (R253): BACKOFF, event 17. -/
def jCollision (c : Nat) (s : State) : State :=
  if jState s c = jlCOLD then
    s |> wr (JLA_SYNCSTAT_STATE c) jlBACK |> jset c (fun j => { j with live := false, kept := [] }) |> jraise c 17
      |> incSat (JLA_STARTCNT_COLLISION c) 1
  else s

/-- A valid frame but for its place: checks 5 and 8 without slot and round. -/
def jIntact (s : State) (c : Nat) (f : JFrame) : Bool :=
  f.ver == 1 && f.chan == c && decide (1 ≤ f.typ ∧ f.typ ≤ 6) && decide (f.len ≤ jCap s c ∧ f.len ≤ f.payload.length)

/-- Reception without a round in progress: checks 1 to 3, 5 and 8; a valid frame is noted in LISTEN (R251, R253). -/
def jListen (c : Nat) (fcsOk : Bool) (f : JFrame) (s : State) : State :=
  if !fcsOk then jCrcErr c f.slot s
  else if f.dst ≠ 0x034A4C520000 + c ∨ f.ether ≠ 0x88B5 then incSat (JLA_MISCCNT_FOREIGN c) 1 s
  else if !f.hcrcOk then jCrcErr c f.slot s
  else if jIntact s c f then when (jState s c == jlLISTEN) (jset c (fun j => { j with heard := true })) s
  else jMismatch c f.slot s

/-- Reception in a round (Table 9.5). -/
def jInRound (c path : Nat) (t : Int) (fcsOk : Bool) (bytes : List Byte) (relayed : Bool) (s0 : State) : State :=
  let f := jParse bytes
  let place := jPlace s0 c t
  let (dc, s) := match place with
    | .mini m => dynAdvance c path m (t.toNat + 8 * (bytes.length + 4)) s0
    | _ => (none, s0)
  let own := inWindow s c t (jAp s c 1)
  if !fcsOk then s |> jCrcErr c f.slot |> jCollision c
  else if f.dst ≠ 0x034A4C520000 + c ∨ f.ether ≠ 0x88B5 then s |> incSat (JLA_MISCCNT_FOREIGN c) 1 |> when own (jCollision c)
  else if !f.hcrcOk then s |> jCrcErr c f.slot |> jCollision c
  else
    let higher := f.startup && decide (f.slot > 1) && jIntact s c f && !inWindow s c t (jAp s c f.slot)
    let fail := fun (k : Nat) (u : State) =>
      u |> jMismatch c f.slot
        |> when (k == 6 && !slotAssigned u c f.slot && !f.claim) (incSat (JLA_MISCCNT_UNASSIGNED c) 1)
    let r := match place with
      | .static slot =>
        if !inWindow s c t (jAp s c slot) then jBoundErr c f.slot s
        else match jRest s c (typeInSlot s c slot f) (some slot) f with
          | some k => fail k s
          | none => jValid c path false slot t (t - jAp s c slot) f bytes relayed s
      | .mini m =>
        match jRest s c (f.typ == 5) dc f with
        | some k => fail k s
        | none => jValid c path true f.slot t (t - (jMiniStart s c m + 100 * rd s (JLA_TIMING_APO c) : Nat)) f bytes relayed s
      | .none => jBoundErr c f.slot s
    when (own || higher) (jCollision c) r

/-- A frame whose start was observed `t` ns after the round start on a path. -/
def jReceive (c path : Nat) (t : Int) (fcsOk : Bool) (bytes : List Byte) (relayed : Bool) (s : State) : State :=
  if !on s (JLA_CTRL_EN c) || jState s c == jlOFF then s
  else if (jch s c).live then jInRound c path t fcsOk bytes relayed s
  else jListen c fcsOk (jParse bytes) s

/-- FRAME_RECEIVE: path, MAC stamp of the start in ns from the round start in network time, whether the FCS is correct, and the bytes
from the destination address to the end of the payload. The start is referred to the connector (R279), rounded down to ns. -/
def execFrameReceive (c : Fin 4) (path : Fin 2) (t : Int) (fcsOk : Bool) (bytes : List Byte) (s : State) : Out :=
  .next (if on s (if path.val = 0 then JLA_CTRL_PATHA_EN c else JLA_CTRL_PATHB_EN c) then
    jReceive c path ((t * 65536 - ingressCorr s (4 + 2 * c + path)) / 65536) fcsOk bytes false s else s)

end Sys2Proof.Machine
end

