-- ==== Sys2Proof/Machine/JlaRound.lean ====
section
/-! DEFINITION. The end of node slots, of the static segment and of the round on a Jalora channel (R210, R224, R226, R232,
R237 to R240, R244, R246, R247, R250, R260). -/

namespace Sys2Proof.Machine

open R

/-! Node records and counters (R224, R232) -/

/-- A counter of `w` bits at bit `lo` of the 32-bit word at `a` counts up by `k`, saturating. -/
def ctrAdd (a lo w k : Nat) (s : State) : State :=
  let v := memNat s a 4
  if k = 0 then s else jlaStore a (bytesLE 4 (setBits v lo w (satAdd w (bits v lo w) k))) s

/-- The counter block of node n takes the counts of this slot (Table 9.8): EMPTYA, EMPTYB, and those pending. -/
def ctrBlock (c n ea eb : Nat) (s : State) : State :=
  let a := 64 * rd s (JLA_CNTBASE_BASE c) + 16 * n
  let l := (Assoc.find n (jch s c).cnts).getD [0, 0, 0, 0, 0]
  s |> ctrAdd a 0 16 ea |> ctrAdd a 16 16 eb
    |> ctrAdd (a + 4) 0 16 (l.getD 0 0) |> ctrAdd (a + 4) 16 16 (l.getD 1 0)
    |> ctrAdd (a + 8) 0 32 (l.getD 3 0)
    |> ctrAdd (a + 12) 0 16 (l.getD 2 0) |> ctrAdd (a + 12) 16 16 (l.getD 4 0)
    |> jset c (fun j => { j with cnts := Assoc.drop n j.cnts })

/-- Numbers of lost and of present nodes. -/
def nodeCounts (c : Nat) (s : State) : State :=
  let l := (jch s c).lost.length
  s |> wr (JLA_NODECNT_LOST c) l |> wr (JLA_NODECNT_PRESENT c) ((validNodes s c).length - l)

/-- Liveness of node n after its slot: a kept frame makes a lost node present again (event 5), LOSTN empty rounds in
succession make it lost (event 4). -/
def liveness (c n : Nat) (got : Bool) (s : State) : State :=
  let j := jch s c
  let b := rd s (JLA_STATUS_RXBUF c)
  let hold := on s (I.JLA_HOLD c)
  if got then
    let s1 := jset c (fun j => { j with miss := Assoc.drop n j.miss, lost := j.lost.filter (· != n) }) s
    if j.lost.contains n then
      s1 |> when (!hold) (putRxBit c b 0x80 n true) |> wr (JLA_NODEEV_LASTBACK c) n |> jraise c 5
    else s1
  else
    let m := (Assoc.find n j.miss).getD 0 + 1
    let s1 := jset c (fun j => { j with miss := Assoc.put n m j.miss }) s
    if decide (m ≥ nodeLostN s c n) && !j.lost.contains n then
      s1 |> jset c (fun j => { j with lost := n :: j.lost }) |> when (!hold) (putRxBit c b 0x80 n false)
        |> wr (JLA_NODEEV_LASTLOST c) n |> jraise c 4 |> canNodeLost c n
    else s1

/-- Word 0 of a record (Table 9.7). -/
def recWord0 (k : JKept) : Nat :=
  k.round * 2 ^ 48 + k.typ * 2 ^ 44 + b2n k.sync * 2 ^ 43 + b2n k.startup * 2 ^ 42 + b2n k.claim * 2 ^ 41 + b2n k.safe * 2 ^ 40
    + k.path * 2 ^ 39 + b2n k.seenB * 2 ^ 38 + b2n k.seenA * 2 ^ 37 + k.info * 2 ^ 16 + k.len

/-- Node n's record in the buffer being written: header fields and payload of a kept DATA frame; for an empty slot or a
NULL frame the payload held from the other buffer, or zeros where EMPTYACT = ZERO, where the node is lost, and in the first
round after an enable. The header fields of an empty slot stay as they are; AVAL and BVAL read 0. -/
def nodeRecord (c n : Nat) (k : Option JKept) (s : State) : State :=
  let j := jch s c
  let b := rd s (JLA_STATUS_RXBUF c)
  let a := rxRecord s c b n
  let area := rd s (JLA_RECSZ c) - 16
  let data := match k with | some x => x.typ == 1 | none => false
  let zero := nodeZero s c n || j.lost.contains n || decide (j.rounds ≤ 1)
  let fl := (Assoc.find n j.flags).getD 0
  let differ := match k with | some x => x.differ | none => false
  let w1 := 32 * b2n differ + 16 * b2n (!data && !zero) + 8 * b2n (!data && zero) + fl
  let w0 := match k with | some x => recWord0 x | none => setBits (memNat s a 8) 37 2 0
  let payload := match k with
    | some x => if data then x.payload.take area else if zero then List.replicate area 0
        else memRead s (rxRecord s c (1 - b) n + 16) area
    | none => if zero then List.replicate area 0 else memRead s (rxRecord s c (1 - b) n + 16) area
  s |> jlaStore a (bytesLE 8 w0) |> jlaStore (a + 8) (bytesLE 8 w1) |> jlaStore (a + 16) payload
    |> when data (putRxBit c b 0x40 n true)

/-- After the slot of node n (R224): liveness, counter block and record; in hold nothing is written to DDR (R489). -/
def nodeSlotEnd (c n : Nat) (s : State) : State :=
  let k := keptOf s c false (nodeSlot s c n)
  let hold := on s (I.JLA_HOLD c)
  let seen := fun path => match k with | some x => if path = 0 then x.seenA else x.seenB | none => false
  let empty := fun path => b2n (bit (nodeAttach s c n) path && !seen path)
  s |> liveness c n k.isSome
    |> when (!hold) (fun t => t |> ctrBlock c n (empty 0) (empty 1) |> nodeRecord c n k)
    |> jset c (fun j => { j with done := n :: j.done })
    |> nodeCounts c

/-- NODE_SLOT_END of node entry n. -/
def execNodeSlotEnd (c : Fin 4) (n : Fin 512) (s : State) : Out :=
  .next (if (jch s c).live && nodeValid s c n && !(jch s c).done.contains n.val then nodeSlotEnd c n s else s)

/-! Stopping (R234) -/

/-- A grant ends: its entry is no longer valid. -/
def grantClear (c i : Nat) (s : State) : State :=
  let a := claimAddr s c i
  s |> jlaStore a (bytesLE 4 (setBits (memNat s a 4) 31 1 0)) |> wr (JLA_CLAIMCNT_GRANTED c) (rd s (JLA_CLAIMCNT_GRANTED c) - 1)

/-- The slots of the grants in force. -/
def grantSlots (s : State) (c : Nat) : List Nat :=
  ((List.range (claimCount s c)).filter (claimValid s c)).map (claimSlot s c)

/-- What a channel keeps when it stops or starts: a mailbox submitted (R231), a counter clear to come (R232), and slots in release, those
of `ended` grants among them (R260). -/
def JlaCh.fresh (ended : List Nat) (j : JlaCh) : JlaCh :=
  { JlaCh.off with mboxLen := j.mboxLen, clrPend := j.clrPend, syncOther := j.syncOther
                   releasing := j.releasing ++ ended.map (fun sl => (sl, 0)) }

/-- The channel stops at once: it sends nothing further, every grant is cleared, and its state is OFF; a pending enable ends. -/
def jlaStop (c : Nat) (s0 : State) : State :=
  let s := clr (JLA_CTRL_ENPEND c) s0
  if !on s (JLA_CTRL_EN c) then s |> clr (JLA_CTRL_DISPEND c)
  else
    let s1 := (List.range (claimCount s c)).foldl (fun t i => when (claimValid t c i) (grantClear c i) t) s
    s1 |> clr (JLA_CTRL_EN c) |> clr (JLA_CTRL_DISPEND c) |> wr (JLA_SYNCSTAT_STATE c) jlOFF |> clr (I.JLA_HOLD c)
      |> clr (I.JLA_MIRROR c) |> clr (I.JLA_EMPTY c)
      |> when (on s (JLA_SYNCSTAT_ALIGNED c)) (fun t => t |> clr (JLA_SYNCSTAT_ALIGNED c) |> jraise c 22)
      |> set1 (JLA_STATUS_SAFE c) |> clr (JLA_STATUS_QUENCH c)
      |> jset c (JlaCh.fresh (grantSlots s c))

/-- The pending disable at the round boundary: EN clears and the shutdown begins. -/
def jlaDisabled (c : Nat) (s : State) : State := s |> jlaStop c |> set1 (JLA_CTRL_BUSY_OFF c)

/-- The pending enable of a channel whose shutdown has completed, or nothing, is for JLA_ENABLE. -/
def jlaConfigured (s : State) (c : Nat) : Bool := on s (JLA_CTRL_EN c)

/-! Static segment (R244, R250) -/

/-- Sort a list of integers ascending. -/
def insertInt (x : Int) : List Int → List Int
  | [] => [x]
  | y :: ys => if x ≤ y then x :: y :: ys else y :: insertInt x ys
def sortInts (l : List Int) : List Int := l.foldr insertInt []

/-- Fault-tolerant midpoint. -/
def ftm (v : List Int) : Int :=
  let n := v.length
  if n = 0 then 0
  else
    let k := if n ≤ 2 then 0 else if n ≤ 7 then 1 else 2
    let w := sortInts v
    (w.getD k 0 + w.getD (n - 1 - k) 0) / 2

/-- Deviations of the sync frames kept in this round, by slot (the module's own slot is left out). -/
def devsNow (s : State) (c : Nat) : List (Nat × Int) :=
  (syncList s c).filterMap (fun sl => match keptOf s c false sl with
    | some k => if k.sync then some (sl, k.dev) else none
    | none => none)

/-- RHO in units of 10^-9; the register rounds down. -/
def rhoShow (s : State) (c : Nat) (x : Int) : Int := 10 * x / ((max 1 (rd s (JLA_ROUNDCFG_ROUNDLEN c)) : Nat) : Int)

/-- RESTART is entered, at the end of a static segment: the round that it lies in is not one of the 8 silent ones (R250). -/
def restartEnter (c : Nat) (s : State) : State :=
  s |> wr (JLA_SYNCSTAT_STATE c) jlRESTART |> jset c (fun j => { j with silent := 0, limitPrev := false }) |> jraise c 21
    |> glnAdd (44 + c) 1

/-- The odd round: offset and rate correction, with the limits of R244 and the events of R250. -/
def oddCorrection (c : Nat) (s : State) : State :=
  let j := jch s c
  let lr : Int := (rd s (JLA_ROUNDCFG_ROUNDLEN c) : Nat)
  let ov := j.devO.map (fun p => p.2)
  let rv := j.devO.filterMap (fun p => match j.devE.find? (fun q => q.1 == p.1) with
    | some q => some (p.2 - q.2)
    | none => none)
  let off0 := ftm (0 :: ov)
  let rc := ftm (0 :: rv)
  let offlim : Int := (rd s (JLA_SYNCCFG_OFFLIM c) : Nat)
  let rlim : Int := (rd s (JLA_SYNCCFG_RATELIM c) : Nat) * 100 * lr
  let rnew := j.rho + rc * 1000000
  let limit := decide (off0.natAbs > offlim.toNat) || decide (rnew.natAbs > rlim.toNat)
  let off := clampInt (-offlim) offlim off0
  s |> jset c (fun j => { j with rhoNext := clampInt (-rlim) rlim rnew, nit := off - j.steer, limitPrev := limit })
    |> wr (JLA_SYNCSTAT_NSYNC c) (min ov.length 15) |> wr (JLA_SYNCSTAT_LIMIT c) (b2n limit) |> wrS (JLA_OFFSET_OFF c) off
    |> when (!(syncList s c).isEmpty && ov.isEmpty) (jraise c 19)
    |> when (limit && j.limitPrev) (jraise c 20)
    |> when (limit && j.limitPrev && on s (JLA_SYNCCFG_AUTORESTART c) && jState s c != jlRESTART) (restartEnter c)

/-- Offset and rate corrections at the end of the static segment (R244). -/
def staticEnd (c : Nat) (s : State) : State :=
  let d := devsNow s c
  if rd s (JLA_STATUS_ROUND c) % 2 = 0 then jset c (fun j => { j with devE := d, nit := -j.steer }) s
  else s |> jset c (fun j => { j with devO := d }) |> oddCorrection c

/-- STATIC_SEGMENT_END: the corrections, and from the active the MGMT frame of the next round for the mirroring channel: the table has no
row for the start of the NIT, which R442 names (DESIGN CHOICE, log entry 105). -/
def execStaticSegmentEnd (c : Fin 4) (s : State) : Out := .next (if (jch s c).live then s |> staticEnd c |> mgmtRelay c else s)

/-! The round start (R210, R226, R246, R247) -/

/-- Idle counts of the grants at the end of a round (R260); they stand still in hold. -/
def grantsIdle (c : Nat) (s : State) : State :=
  if on s (I.JLA_HOLD c) then s
  else (List.range (claimCount s c)).foldl (fun t i =>
    if claimValid t c i then
      let a := claimAddr t c i + 8
      let v := memNat t a 4
      let n := if (keptOf t c false (claimSlot t c i)).isSome then 0 else satAdd 16 (bits v 0 16) 1
      jlaStore a (bytesLE 4 (setBits v 0 16 n)) t
    else t) s

/-- The round in progress ends: every record is completed, and idle and silent counts go on. -/
def roundClose (c : Nat) (s : State) : State :=
  let open_ := (validNodes s c).filter (fun n => !(jch s c).done.contains n)
  open_.foldl (fun t n => nodeSlotEnd c n t) s
    |> grantsIdle c
    |> jset c (fun j => { j with
        clean := j.clean + 1, silent := j.silent + 1
        releasing := j.releasing.map (fun p => (p.1, p.2 + 1)) })

/-- Bytes of a bit map with the bits `l` set. -/
def bitMap (n : Nat) (p : Nat → Bool) : List Byte :=
  (List.range n).map (fun i => BitVec.ofNat 8 ((List.range 8).foldl (fun v k => if p (8 * i + k) then v + 2 ^ k else v) 0))

/-- The receive buffer of the new round is opened: header, FRESH and PRESENT. -/
def bufferOpen (c : Nat) (s : State) : State :=
  let b := rd s (JLA_STATUS_RXBUF c)
  let j := jch s c
  let a := rxBase s c b
  s |> jlaStore a (bytesLE 8 (rd s (JLA_STATUS_ROUND c)))
    |> jlaStore (a + 8) (bytesLE 8 (j.nt / nsPerS % 2 ^ 32 * 2 ^ 32 + j.nt % nsPerS))
    |> jlaStore (a + 0x40) (List.replicate 64 0)
    |> jlaStore (a + 0x80) (bitMap 64 (fun n => nodeValid s c n && !j.lost.contains n))

/-- Counter blocks and channel totals cleared (R232). -/
def countersClear (c : Nat) (s : State) : State :=
  s |> jlaStore (64 * rd s (JLA_CNTBASE_BASE c)) (List.replicate (16 * nodeCount s c) 0)
    |> clr (JLA_CHAFF c) |> clr (JLA_ERRCNT_BOUND c) |> clr (JLA_ERRCNT_CRC c) |> clr (JLA_MISCCNT_FOREIGN c)
    |> clr (JLA_MISCCNT_UNASSIGNED c) |> jset c (fun j => { j with clrPend := false, cnts := [] })

/-- The transmit buffer of the round (R226): the switch, or the current buffer again with event 9; where P is k rounds, the k - 1
repeats after a switch are normal and raise none, nor do those of the next k rounds but one (DEDUCED, log entry 56). -/
def txChoose (c : Nat) (s : State) : State :=
  let j := jch s c
  let cur := rd s (JLA_STATUS_TXBUF c)
  let k := max 1 (1000 * rd s CYC_PERIOD / jRoundNs s c)
  let s1 :=
    if on s (I.JLA_RDY c) && rd s (I.JLA_RDYBUF c) != cur then
      s |> jset c (fun j => { j with rep := 0 }) |> wr (JLA_STATUS_TXBUF c) (1 - cur) |> wr (JLA_TXSEQ_SEQ c) (if cur = 0 then j.seq1 else j.seq0) |> clr (I.JLA_RDY c)
    else
      s |> jset c (fun j => { j with rep := j.rep + 1 })
        |> when (decide (rd s (JLA_OUTSLOT_COUNT c) > 0) && jState s c != jlRESTART && (j.rep + 1) % k == 0 && !on s (I.JLA_HOLD c))
            (jraise c 9)
  wr (JLA_STATUS_SAFE c) (b2n (!j.txok || on s CYC_STATE_SAFEOUT)) s1

/-- ALIGNED follows |Δ| ≤ PREC (R247). -/
def alignedSet (c : Nat) (d : Int) (s : State) : State :=
  let al := decide (d.natAbs ≤ rd s (JLA_TIMING_PREC c))
  if al == on s (JLA_SYNCSTAT_ALIGNED c) then s
  else s |> wr (JLA_SYNCSTAT_ALIGNED c) (b2n al) |> jraise c (if al then 23 else 22)

/-- Δ, ALIGNED and STEER of the round (R246). -/
def steerCompute (c : Nat) (s : State) : State :=
  let d : Int := ((jch s c).nt : Int) - (now s : Int)
  let lim : Int := (rd s (JLA_SYNCCFG_STEERLIM c) : Nat)
  let zero := decide (d.natAbs < 2) || !on s (JLA_SYNCCFG_STEER_EN c) || on s TIM_STATUS_FAIL || jState s c == jlRESTART
  s |> wrS (JLA_DELTA c) d |> alignedSet c d
    |> jset c (fun j => { j with steer := if zero then 0 else clampInt (-lim) lim (-d) })

/-- Network time and round counter of the round that starts: the next instant of R210. -/
def roundTime (c : Nat) (s : State) : State :=
  let j := jch s c
  let lr := jRoundNs s c
  let ph := rd s (JLA_PHASE c)
  let nt := if j.live then j.nt + lr else j.nt + (((ph : Int) - j.nt) % ((max 1 lr : Nat) : Int)).toNat
  let r := ((nt : Int) - ph) / (max 1 lr : Nat) % 65536
  s |> jset c (fun j => { j with nt := nt, live := true, rounds := j.rounds + 1, trimDue := (j.rounds + 1) % 16 == 0 || j.trimDue })
    |> wr (JLA_STATUS_ROUND c) r.toNat
    |> (fun t => if r.toNat % 2 = 0 then t |> jset c (fun j => { j with rho := j.rhoNext }) |> wrS (JLA_RATE_RHO c) (rhoShow t c j.rhoNext)
        else t)

/-- What the new round starts from. -/
def roundFresh (c : Nat) (s : State) : State :=
  jset c (fun j => { j with kept := [], flags := [], done := [], nit := 0, miniA := 1, dcA := 1, miniB := 1, dcB := 1 }) s

/-- At a round start a channel of a demoted, fenced or standby module is in MIRROR, and any other is not; its output slots then
stay empty until the first TXRDY (R432, R442, Table 18.7). -/
def mirrorSample (c : Nat) (s : State) : State :=
  let m := decide (4 ≤ rd s PAIR_STATUS_STATE)
  s |> when (!m && on s (I.JLA_MIRROR c)) (set1 (I.JLA_EMPTY c)) |> wr (I.JLA_MIRROR c) (b2n m)

/-- What the active gives the mirroring channel at a round start (R442): Δc, the page rotation position, the mailbox state, claim table,
delay trims and the eight QUENCH registers in order. -/
def mirrorRelay (c : Nat) (s : State) : State :=
  let j := jch s c
  when (rd s PAIR_STATUS_STATE == 3 && on s PAIR_STATUS_PLINK)
    (emit (.pair 11 ([c, rd s (JLA_DELTA c), j.rot, b2n j.firstRot, rd s (JLA_MBOXCTL_BUSY c), j.mboxLen]
      ++ (memRead s (claimAddr s c 0) (16 * claimCount s c)).map BitVec.toNat
      ++ (List.range (nodeCount s c)).map (fun n => memNat s (delayAddr s c n + 12) 4)
      ++ (List.range 8).flatMap (fun n => [rd s (JLA_QUENCH_MODE c n), rd s (JLA_QUENCH_FIRST c n), rd s (JLA_QUENCH_LAST c n)]) ++ (mboxBytes s c j.mboxLen).map BitVec.toNat))) s

/-- The round boundary. The gateway takes the closed buffer (R339). -/
def roundStart (c : Nat) (s : State) : State :=
  let b := rd s (JLA_STATUS_RXBUF c)
  let was := (jch s c).live
  let s1 := when was (roundClose c) s
  if on s1 (JLA_CTRL_DISPEND c) then jlaDisabled c s1
  else
    s1 |> when (was && !on s (I.JLA_HOLD c)) (canRxRead c b)
      |> when (on s1 I.BOOTED) (clr (I.JLA_HOLD c))
      |> roundTime c |> roundFresh c |> wr (JLA_STATUS_RXBUF c) (1 - b)
      |> (fun t => when (!on t (I.JLA_HOLD c)) (bufferOpen c) t)
      |> (fun t => when (jch t c).clrPend (countersClear c) t)
      |> mirrorSample c |> (fun t => if jMirror t c || on t (I.JLA_EMPTY c) then t else txChoose c t)
      |> steerCompute c |> mirrorRelay c |> roundRelay c

/-- ROUND_START. Rounds run from entry to COLDSTART on; in LISTEN and BACKOFF only a pending disable is taken. -/
def execRoundStart (c : Fin 4) (s : State) : Out :=
  .next (if !on s (JLA_CTRL_EN c) then s
    else if jState s c = jlCOLD ∨ jState s c = jlNORMAL ∨ jState s c = jlRESTART then roundStart c s
    else if on s (JLA_CTRL_DISPEND c) then jlaDisabled c s else s)

end Sys2Proof.Machine
end

