-- ==== Sys2Proof/Machine/Time.lean ====
section
/-! DEFINITION. The time unit (chapter 11): states and disciplining, steps and setting, PTP messages, time-event pins and the
1PPS output. Frequencies are held in units of 10^-18 and rounded down (DESIGN CHOICE, log entry 41). -/

namespace Sys2Proof.Machine

open R

/-- The time unit changed. -/
def timSet (f : TimUnit → TimUnit) (s : State) : State := { s with tim := f s.tim }

/-! States (Table 11.1) -/

def tmWARMUP : Nat := 0
def tmFREERUN : Nat := 1
def tmACQUIRE : Nat := 2
def tmLOCKED : Nat := 3
def tmHOLDOVER : Nat := 4
def tmPAIR : Nat := 5

def timState (s : State) : Nat := rd s TIM_STATUS_STATE

/-- Announced clock quality (Table 11.3): clockClass, clockAccuracy, offsetScaledLogVariance, timeSource, traceable. -/
def clockQuality (s : State) : Nat × Nat × Nat × Nat × Nat :=
  let st := timState s
  if on s TIM_STATUS_TIMESET = false ∨ st ≤ 2 then (248, 0xFE, 0xFFFF, 0xA0, 0)
  else if st = tmLOCKED then (6, 0x21, 0x4E5D, 0x20, 1)
  else if st = tmHOLDOVER ∧ on s TIM_STATUS_HOLD1H = false then (7, 0x24, 0x4E5D, 0x20, 1)
  else if st = tmHOLDOVER then (52, 0xFE, 0xFFFF, 0xA0, 0)
  else (rd s TIM_CLKQ_CLASS, rd s TIM_CLKQ_ACCURACY, 0xFFFF, rd s TIM_CLKQ_SOURCE, 0)

/-- TIM_CLKQ reports the announced values. -/
def clkqShow (s : State) : State :=
  let q := clockQuality s
  s |> wr TIM_CLKQ_CLASS q.1 |> wr TIM_CLKQ_ACCURACY q.2.1 |> wr TIM_CLKQ_SOURCE q.2.2.2.1

/-- Entry to a state. -/
def timEnter (st : Nat) (s : State) : State := s |> wr TIM_STATUS_STATE st |> clkqShow

/-- Entry to ACQUIRE. -/
def acquire (fromHold : Bool) (s : State) : State :=
  s |> timSet (fun u => { u with n := 0, fromHold := fromHold }) |> timEnter tmACQUIRE

/-- The rate in force: freq + slew within ±100 ppm; TIM_RATE in units of 10^-12. -/
def rateNow (s : State) : Int := clampInt (-100000000000000) 100000000000000 (s.tim.freq + s.tim.slew)
def rateShow (s : State) : State := wrS TIM_RATE (rateNow s / 1000000) s

/-- What the TIME LED shows (Tables 2.6, 11.1, R58, R59): 0 off; 1 green at 1 Hz; 2 green at 2 Hz; 3 green; 4 amber at 1 Hz; 5 amber.
In PAIR it shows what the pair's active shows. -/
def timeLamp (s : State) : Nat :=
  let st := timState s
  if on s I.PWR_OCXOFAIL || on s I.PWR_OCXOLOST || on s CYC_STATUS_FABTRIG then 5
  else if st = tmPAIR then rd s I.TIM_PLAMP
  else if st = tmHOLDOVER ∨ (st = tmACQUIRE ∧ s.tim.fromHold = true) then 5
  else if st = tmWARMUP then 4
  else if st = tmLOCKED then 3
  else if st = tmACQUIRE then 2
  else if on s TIM_CTRL_PPS_EN then 0 else 1

/-! Time -/

/-- A time as seconds and nanoseconds. -/
def timeWrite (t : Nat) (s : State) : State := s |> wr TIM_SEC (t / nsPerS) |> wr TIM_NSEC (t % nsPerS)

/-- HBR_OFFER.REMAIN shows the whole seconds left to a pending offer, rounded up (R324). -/
def offerShow (s : State) : State :=
  when (on s HBR_OFFER_VALID) (wr HBR_OFFER_REMAIN (min 255 ((rd s I.HBR_OFFEREND - upNow s + 999999999) / 1000000000))) s

/-- One clock of island 19: time advances by 2 ns × (1 + rate), with a fraction of 48 bits (R264); HOLDT counts (R269). -/
def timTick (s : State) : State :=
  let add := 2 ^ 49 + 2 ^ 49 * rateNow s / 1000000000000000000
  let v := (now s : Int) * 2 ^ 48 + s.tim.frac + add
  let t : Nat := (v / 2 ^ 48).toNat
  s |> timeWrite t |> timSet (fun u => { u with frac := (v % 2 ^ 48).toNat })
    |> wr TIM_FRAC (v % 2 ^ 48 / 2 ^ 32).toNat
    |> when (timState s == tmHOLDOVER) (wr TIM_HOLDT (min (((t : Int) - s.tim.holdStart) / 1000000000).toNat 0xFFFFFFFF))
    |> offerShow

/-- A step is allowed (R268). -/
def stepAllowed (s : State) : Bool :=
  (ctlState s == stSTOP || ctlState s == stFAULT) && on s TIM_CTRL_STEP_EN && timState s != tmPAIR

/-! Time-event pins (R283 to R285) -/

def tePin (s : State) (n : Nat) : TePin := s.tim.te.getD n ⟨none, [], false⟩
def teSet (n : Nat) (f : TePin → TePin) (s : State) : State :=
  timSet (fun u => { u with te := u.te.set n (f (tePin s n)) }) s

/-- A seconds field of some bits extended against a seconds count, as a 64-bit value (R272). -/
def extendSec (n w sec : Nat) : Nat := ofSigned 64 ((sec : Int) + toSigned n (ofSigned n ((w : Int) - sec)))
def extend32 (w sec : Nat) : Nat := extendSec 32 w sec

/-- The instant TIME of pin n in ns. -/
def teTime (s : State) (n : Nat) : Nat := extend32 (rd s (TIM_TE_TIME_SEC n)) (rd s TIM_SEC) * nsPerS + rd s (TIM_TE_TIME_NSEC n)

/-- `k` events of pin n count as missed. -/
def teMissed (n k : Nat) (s : State) : State :=
  (List.range k).foldl (fun t _ => t |> incSat (TIM_TE_STAT_MISSED n) 1 |> raise 265) s

/-- The first instant at or after `lo` of a pulse series, and how many instants lie before it from `first` on. A PERIOD that has been
written to 0 leaves only the first. -/
def seriesFrom (first period lo : Nat) : Option Nat × Nat :=
  if lo ≤ first then (some first, 0)
  else if period = 0 then (none, 1)
  else
    let k := (lo - first + period - 1) / period
    (some (first + k * period), k)

/-- t0 of the last cycle that the engine started. -/
def startT0 (s : State) : Nat := rd s CYC_T0_SEC * nsPerS + rd s CYC_T0_NSEC

/-- A cycle that the engine started has not yet lasted its period. -/
def inPeriod (s : State) : Bool :=
  (ctlState s == stRUN || ctlState s == stHALT) && decide (startT0 s ≤ now s ∧ now s < startT0 s + 1000 * rd s CYC_PERIOD)

/-- The pulse of mode CYCLE in the newest cycle: t0 + OFFSET mod P. -/
def teOfCycle (s : State) (n t0 : Nat) : Nat :=
  let p := 1000 * rd s CYC_PERIOD
  t0 + if p = 0 then 0 else rd s (TIM_TE_OFFSET_OFFSET n) % p

/-- The next event of pin n as programmed, from an instant on: none where the instant has passed. -/
def teNext (s : State) (n lo : Nat) : Option Nat :=
  let t := teTime s n
  let c := teOfCycle s n (startT0 s)
  match rd s (TIM_TE_CTRL_MODE n) with
  | 1 => if lo ≤ t then some t else none
  | 2 => (seriesFrom t (rd s (TIM_TE_PERIOD_PERIOD n)) lo).1
  | 3 => if inPeriod s ∧ lo ≤ c then some c else none
  | 4 => if lo ≤ t then some t else none
  | _ => none

/-- The events of pin n that come before an instant, as the pin is programmed. -/
def teBefore (s : State) (n lo : Nat) : List (Nat × Bool × Bool × Nat) :=
  match (tePin s n).next with
  | none => []
  | some d =>
    let m := rd s (TIM_TE_CTRL_MODE n)
    let p := rd s (TIM_TE_PERIOD_PERIOD n)
    let k := if !on s (TIM_TE_CTRL_ARM n) || lo ≤ d then 0 else if m = 2 ∧ 0 < p then (lo - d + p - 1) / p else 1
    (List.range k).map (fun i => (d + i * p, m == 4, on s (TIM_TE_CTRL_LEVEL n), 8 * rd s (TIM_TE_CTRL_WIDTH n)))

/-- The instant of pin n as programmed: TIME, or, in a cycle whose pulse has not acted, the cycle's instant. -/
def teInstant (before s : State) (n : Nat) : Option Nat :=
  let m := rd s (TIM_TE_CTRL_MODE n)
  let acted := on before (TIM_TE_CTRL_ARM n) && rd before (TIM_TE_CTRL_MODE n) == 3 && (tePin before n).next.isNone
  if m = 1 ∨ m = 2 ∨ m = 4 then some (teTime s n)
  else if m = 3 ∧ inPeriod s ∧ acted = false then some (teOfCycle s n (startT0 s)) else none

/-- A write to a register of pin n has taken effect: events due in less than 100 ns act as programmed before; an instant less than
100 ns ahead does not act and counts as missed (R284), unless the event of that instant is one of those. In mode CYCLE the instant is
that of the running cycle, which counts only while its pulse is to come (DEDUCED, log entry 109). -/
def teReprogram (n : Nat) (before : State) (s : State) : State :=
  let lo := now s + 100
  let old := (tePin before n).old ++ teBefore before n lo
  if !on s (TIM_TE_CTRL_ARM n) then teSet n (fun p => { p with next := none, old := old }) s
  else s |> teSet n (fun p => { p with next := teNext s n lo, old := old })
    |> when ((teInstant before s n).any (fun t => decide (t < lo) && old.all (fun o => o.1 != t))) (teMissed n 1)

/-- TE_ARM: a write of TIM_TEn_CTRL. MODE 5 to 7 read back as 0 and WIDTH 0 as 1; a PERIODIC pin whose PERIOD is too short is
refused. -/
def teArm (n : Nat) (arm safeOff level : Bool) (mode width : Nat) (s : State) : State :=
  let m := if mode ≤ 4 then mode else 0
  let w := max 1 width
  let bad := arm && m == 2 && decide (rd s (TIM_TE_PERIOD_PERIOD n) < 8 * w + 16)
  s |> wr (TIM_TE_CTRL_SAFEOFF n) (b2n safeOff) |> wr (TIM_TE_CTRL_LEVEL n) (b2n level) |> wr (TIM_TE_CTRL_MODE n) m
    |> wr (TIM_TE_CTRL_WIDTH n) w |> wr (TIM_TE_CTRL_ARM n) (b2n (arm && !bad))
    |> when bad (set1 (TIM_TE_STAT_CFGERR n))
    |> teReprogram n s

def execTeArm (w : Writer) (n : Fin 4) (arm safeOff level : Bool) (mode : Fin 8) (width : BitVec 16) (s : State) : Out :=
  .next (gateWrite w (TIM_TE_CTRL_ARM n) (b2n arm) (teArm n arm safeOff level mode width.toNat) s)

/-- An event of a pin acts, or is missed while SAFEOFF holds the pin low. -/
def teAct (n : Nat) (lvl high : Bool) (width : Nat) (s : State) : State :=
  if on s (TIM_TE_CTRL_SAFEOFF n) && on s CYC_STATE_SAFEOUT then teMissed n 1 s
  else if lvl then s |> teSet n (fun p => { p with level := high }) |> emit (.level n high)
  else emit (.pulse n width) s

/-- The programmed event due at `d`: ONCE and LEVEL then disarm, and a series goes on. -/
def teDue (n d : Nat) (s : State) : State :=
  let m := rd s (TIM_TE_CTRL_MODE n)
  let p := rd s (TIM_TE_PERIOD_PERIOD n)
  let nx := if m = 2 ∧ p ≠ 0 then some (d + p) else none
  s |> teSet n (fun p => { p with next := nx })
    |> when (m == 1 || m == 4) (clr (TIM_TE_CTRL_ARM n))
    |> teAct n (m == 4) (on s (TIM_TE_CTRL_LEVEL n)) (8 * rd s (TIM_TE_CTRL_WIDTH n))

/-- TE_EVENT: the event of pin n that is due next, once its instant has come; an edge is within 8 ns of it (R283). -/
def teEvent (n : Nat) (s : State) : State :=
  let p := tePin s n
  match p.old, p.next with
  | (d, lvl, high, width) :: l, _ =>
    if now s + 8 < d then s else s |> teSet n (fun p => { p with old := l }) |> teAct n lvl high width
  | [], some d => if now s + 8 < d then s else teDue n d s
  | [], none => s

def execTeEvent (n : Fin 4) (s : State) : Out := .next (teEvent n s)

/-- A cycle starts at t0: the pulses of the pins in mode CYCLE. -/
def teCycle (t0 : Nat) (s : State) : State :=
  (List.range 4).foldl (fun t n =>
    when (on t (TIM_TE_CTRL_ARM n) && rd t (TIM_TE_CTRL_MODE n) == 3)
      (teSet n (fun q => { q with next := some (teOfCycle t n t0) })) t) s

/-- The safe-output signal drives pins with SAFEOFF low. -/
def teLevel (s : State) (n : Nat) : Bool :=
  (tePin s n).level && !(on s (TIM_TE_CTRL_SAFEOFF n) && on s CYC_STATE_SAFEOUT)

/-- A pin after a step: its next event is the first programmed instant at least 100 ns after the new time, and the events
passed over count as missed (R285). -/
def teStep (n : Nat) (s : State) : State :=
  let p := tePin s n
  let lo := now s + 100
  let m := rd s (TIM_TE_CTRL_MODE n)
  if !on s (TIM_TE_CTRL_ARM n) || m == 3 then s
  else
    let missed := match p.next with
      | none => 0
      | some d => if m = 2 then (seriesFrom d (rd s (TIM_TE_PERIOD_PERIOD n)) lo).2 else b2n (decide (d < lo))
    s |> teSet n (fun p => { p with next := teNext s n lo }) |> teMissed n missed

/-- The time steps by `d` ns: events 101 and 261 (R196), TMR_STEPOFS, the pins. -/
def timeStep (d : Int) (s : State) : State :=
  let s1 := s |> timeWrite ((now s : Int) + d).toNat |> wrS I.TIM_SHIFT (rdS s I.TIM_SHIFT + d) |> raise 101 |> raise 261
    |> wr TMR_STEPOFS_OFFSET (ofSigned 64 ((rd s TMR_STEPOFS_OFFSET : Nat) + d))
    |> timSet (fun u => { u with lastAcc := u.lastAcc.map (· + d), lastEdge := u.lastEdge.map (· + d), holdStart := u.holdStart + d })
  (List.range 4).foldl (fun t n => teStep n t) s1 |> gatesStepped

/-! 1PPS (R266, R267, R269) -/

/-- Entry to HOLDOVER with the mean of freq: event 258. -/
def holdover (s : State) : State :=
  let l := s.tim.freqs
  let mean := if l.isEmpty then s.tim.freq else l.foldl (· + ·) 0 / (l.length : Int)
  s |> timSet (fun u => { u with freq := mean, slew := 0, holdCnt := 0, holdStart := now s, missCnt := 0, rejSec := none })
    |> rateShow |> clr TIM_HOLDT |> clr TIM_STATUS_HOLD1H |> timEnter tmHOLDOVER |> raise 258

/-- An expected second counts as missing or rejected; the third in succession leads to HOLDOVER. -/
def secondLost (sec : Nat) (s : State) : State :=
  let m := s.tim.missCnt + 1
  s |> timSet (fun u => { u with missCnt := m, expNext := sec + 1, rejSec := none }) |> when (decide (m ≥ 3)) holdover

/-- A second in which an early edge was rejected counts once a later second is reached. -/
def secondSettle (sec : Nat) (s : State) : State :=
  match s.tim.rejSec with
  | some r => if r < sec ∧ timState s = tmLOCKED then secondLost r s else s
  | none => s

/-- PPS_SECOND_MISSING: the expected second has no accepted edge by S + k + 1 ms. -/
def execPpsSecondMissing (s : State) : Out :=
  .next (if timState s = tmLOCKED ∧ now s ≥ s.tim.expNext * nsPerS + 1000000 then secondLost s.tim.expNext s else s)

/-- A rejected edge: event 260. In LOCKED it counts for its second, at once where no later edge could be accepted for it. -/
def edgeReject (e : Int) (sec : Nat) (s : State) : State :=
  s |> raise 260
    |> (fun t => if timState t ≠ tmLOCKED ∨ sec < t.tim.expNext then t
        else if e > 0 then secondLost sec t
        else timSet (fun u => { u with rejSec := some sec }) t)

/-- Lock is reached: event 257. -/
def lockEnter (s : State) : State := s |> timEnter tmLOCKED |> raise 257

/-- The procedure of R267 on an accepted edge with phase error e. -/
def discipline (e : Int) (s : State) : State :=
  let n := s.tim.n + 1
  let s0 := timSet (fun u => { u with n := n }) s
  let st := timState s
  let lock := st == tmACQUIRE && decide (n ≥ 3) && decide (e.natAbs ≤ 100)
  let tc : Int := (max 8 (rd s TIM_PPSCFG_TC) : Nat)
  let lim : Int := (rd s TIM_CTRL_SLEWLIM : Nat) * 1000000000000
  if st = tmACQUIRE ∧ stepAllowed s then
    s0 |> when (decide (n ≥ 2)) (timSet (fun u => { u with freq := u.freq - e * 1000000000 }))
       |> when lock lockEnter |> timeStep (-e) |> timSet (fun u => { u with slew := 0 }) |> rateShow
  else if st = tmACQUIRE ∨ st = tmLOCKED then
    s0 |> timSet (fun u => { u with
            freq := u.freq - e * 1000000000 / (4 * tc * tc), slew := clampInt (-lim) lim (-e * 1000000000 / tc) })
       |> when lock lockEnter |> rateShow
  else rateShow s0

/-- The set that waited for the edge of second `sec` (R271). While a step is not allowed it goes on waiting (R134, R268; DEDUCED, log
entry 64). -/
def setAtEdge (sec : Nat) (s : State) : State :=
  match s.tim.setPend with
  | none => s
  | some v =>
    if !stepAllowed s then s
    else s |> timSet (fun u => { u with setPend := none, expNext := v + 1 }) |> timeStep (((v : Int) - sec) * nsPerS)
      |> set1 TIM_STATUS_TIMESET |> raise 262 |> completeWait 0x36 cOK |> clkqShow

/-- An accepted edge for second `sec` with phase error e and stamp `x`. -/
def edgeAccept (x e : Int) (sec : Nat) (s : State) : State :=
  let was := timState s
  let s1 := s |> wrS TIM_PPSERR_ERR e |> glnHist 4 (e.natAbs / 10)
    |> timSet (fun u => { u with lastAcc := some x, holdCnt := u.holdCnt + 1, expNext := sec + 1, missCnt := 0, rejSec := none })
    |> discipline e
  s1 |> when (was == tmLOCKED) (timSet (fun u => { u with freqs := (u.freq :: u.freqs).take 1024 }))
     |> when (was == tmHOLDOVER && decide (s.tim.holdCnt + 1 ≥ 4)) (acquire true)
     |> setAtEdge sec

/-- A rising edge on X15.1 whose stamp less INDELAY is `x` ns. -/
def ppsEdge (x : Int) (s0 : State) : State :=
  let sec := ((x + 500000000) / 1000000000)
  let e := x - sec * 1000000000
  let s := secondSettle sec.toNat s0
  let st := timState s
  let early := match s.tim.lastAcc with | some a => decide (x - a < 999000000) | none => false
  let ok := match s.tim.lastEdge with | some a => decide ((x - a - 1000000000).natAbs ≤ 10000) | none => false
  let bad := early || (st == tmLOCKED && decide (e.natAbs > 1000)) || (st == tmHOLDOVER && !ok)
  let s1 := timSet (fun u => { u with lastEdge := some x }) s
  if bad then s1 |> when (st == tmHOLDOVER) (timSet (fun u => { u with holdCnt := 0 })) |> edgeReject e sec.toNat
  else edgeAccept x e sec.toNat s1

/-- PPS_EDGE, stamped with an accuracy of ±2 ns: `acc` − 2 is the stamp's error. In FREERUN and WARMUP the input is not
configured or the unit not running; in PAIR the edge is stamped and not used. -/
def execPpsEdge (acc : Fin 5) (s : State) : Out :=
  let x : Int := (now s : Int) + acc.val - 2 - rdS s TIM_PPSCFG_INDELAY
  let st := timState s
  .next (if st = tmACQUIRE ∨ st = tmLOCKED ∨ st = tmHOLDOVER then ppsEdge x s
    else if st = tmPAIR then timSet (fun u => { u with lastEdge := some x }) s else s)

/-- HOLDOVER_1H: 3,600 s of HOLDOVER have passed; event 259. -/
def execHoldover1h (s : State) : Out :=
  .next (if timState s = tmHOLDOVER ∧ on s TIM_STATUS_HOLD1H = false ∧ s.tim.holdStart + 3600 * nsPerS ≤ now s then
      s |> set1 TIM_STATUS_HOLD1H |> wr TIM_HOLDT (max 3600 (rd s TIM_HOLDT)) |> clkqShow |> raise 259
    else s)

/-- OCXO_WARM: island 19 runs and the oven is settled; event 256, and WARMUP is left. -/
def execOcxoWarm (s : State) : Out :=
  .next (if on s TIM_STATUS_WARM || !islandPowered s 19 then s
    else s |> set1 TIM_STATUS_WARM |> raise 256
      |> (fun t => if timState t ≠ tmWARMUP then t
          else if pairStandby t then t |> timEnter tmPAIR |> set1 I.TIM_PAIRSTEP
          else if on t TIM_CTRL_PPS_EN then acquire false t else timEnter tmFREERUN t))

/-- PPS_ENABLE_WRITE. -/
def ppsEnable (en : Bool) (s : State) : State :=
  let st := timState s
  s |> wr TIM_CTRL_PPS_EN (b2n en)
    |> (fun t => if !en && st != tmWARMUP && st != tmPAIR then timEnter tmFREERUN t
        else if en && st == tmFREERUN then acquire false t else t)

def execPpsEnableWrite (w : Writer) (en : Bool) (s : State) : Out :=
  .next (gateWrite w TIM_CTRL_PPS_EN (b2n en) (ppsEnable en) s)

/-! Setting the time (R271) -/

/-- A set with the values of TIM_SETSEC and TIM_SETNS; `ref` is the command it comes with, `sess` the session. NS of 10^9 or more carries. -/
def timeSetGo (ref : Option CmdRef) (sess : Nat) (s0 : State) : State :=
  let s := audit 0x12 (!stepAllowed s0) sess 0 (rd s0 TIM_SEC) (rd s0 TIM_SETSEC) s0
  if !stepAllowed s then s |> set1 TIM_STATUS_SETREF |> raise 263 |> finish ref 0x36 cSTATE
  else if timState s = tmLOCKED then
    s |> completeWait 0x36 cSUPERSEDED |> timSet (fun u => { u with setPend := some (rd s TIM_SETSEC) }) |> waitOpt ref 0x36
  else
    s |> completeWait 0x36 cSUPERSEDED |> timSet (fun u => { u with setPend := none })
      |> timeStep ((rd s TIM_SETSEC * nsPerS + rd s TIM_SETNS_NS : Nat) - (now s : Int))
      |> set1 TIM_STATUS_TIMESET |> raise 262 |> clkqShow |> finish ref 0x36 cOK

/-- TIME_SET_GO with the NS written beside GO. -/
def execTimeSetGo (w : Writer) (ns : BitVec 30) (s : State) : Out :=
  .next (gateWrites w [(TIM_SETNS_NS, ns.toNat), (TIM_SETNS_GO, 1)] (fun taken t =>
    t |> when (taken TIM_SETNS_NS) (wr TIM_SETNS_NS ns.toNat)
      |> when (taken TIM_SETNS_GO) (timeSetGo none ((writerSess w).getD 0))) s)

/-- TIMESET: seconds and nanoseconds; the owner with installer or maker role. It waits while the host holds TIM (R334, R335). -/
def execTimeset (ref : CmdRef) (sec : BitVec 64) (ns : BitVec 32) (s : State) : Out :=
  .next (if fwBlockWaits s 0x20 then s
    else cmdGate ref 0x36 (fun t => audit 0x12 true ref.session 0 (rd t TIM_SEC) sec.toNat t) (fun t =>
    if ns.toNat ≥ nsPerS then t |> audit 0x12 true ref.session 0 (rd t TIM_SEC) sec.toNat |> complete ref 0x36 cBADARG
    else if islandOn t 19 = false then t |> audit 0x12 true ref.session 0 (rd t TIM_SEC) sec.toNat |> complete ref 0x36 cFABRIC
    else t |> wr TIM_SETSEC sec.toNat |> wr TIM_SETNS_NS ns.toNat |> timeSetGo (some ref) ref.session) s)

/-- PPS_OUTPUT: X15.2 high for 100 ms from a whole second on, ± 8 ns. -/
def execPpsOutput (s : State) : Out :=
  .next (when (on s TIM_CTRL_PPSOUT_EN && decide ((now s + 8) % nsPerS ≤ 16)) (emit (.pulse 4 100000000)) s)

/-- A read of TIM_SEC latches the three time registers (R289). -/
def timLatch (s : State) : State :=
  timSet (fun u => { u with latSec := rd s TIM_SEC, latNsec := rd s TIM_NSEC, latFrac := rd s TIM_FRAC }) s

end Sys2Proof.Machine
end

