-- ==== Sys2Proof/Machine/BbQueue.lean ====
section
/-! DEFINITION. The backbone switch (chapter 12): frames, ports and VLANs, the packet buffer and the egress queues (R290 to R294). -/

namespace Sys2Proof.Machine

open R

/-! Frames -/

/-- Length on a port in bytes, tags and FCS included. -/
def bbSize (f : BbFrame) : Nat :=
  12 + (if f.tag.isSome then 4 else 0) + (if f.rtag.isSome then 6 else 0) + f.rest.length + 4

/-- The frame's bytes without FCS: VLAN tag of EtherType 0x8100, R-tag of EtherType 0xF1C1. -/
def bbBytes (f : BbFrame) : List Byte :=
  bytesBE 6 f.dst ++ bytesBE 6 f.src
    ++ (match f.tag with | some (p, v) => bytesBE 2 0x8100 ++ bytesBE 2 (p % 8 * 8192 + v % 4096) | none => [])
    ++ (match f.rtag with | some q => bytesBE 2 0xF1C1 ++ [0, 0] ++ bytesBE 2 q | none => [])
    ++ f.rest

/-- A frame from its bytes, as the CPU port hands it over. -/
def bbParse (bs : List Byte) : BbFrame :=
  let g := fun k n => beBytes ((bs.drop k).take n)
  if g 12 2 = 0x8100 then ⟨g 0 6, g 6 6, some (g 14 2 / 8192, g 14 2 % 4096), none, .other, bs.drop 16⟩
  else ⟨g 0 6, g 6 6, none, none, .other, bs.drop 12⟩

/-- VID and PCP of a frame that enters with a port's defaults; VID 0 takes the PVID. -/
def frameVid (f : BbFrame) (pvid : Nat) : Nat := match f.tag with | some (_, v) => if v = 0 then pvid else v | none => pvid
def framePcp (f : BbFrame) (dflt : Nat) : Nat := match f.tag with | some (p, _) => p % 8 | none => dflt

/-! State of the switch -/

/-- The switch runs. -/
def bbsOn (s : State) : Bool := on s BBS_CTRL_EN && islandPowered s 11

/-- Island of the MAC of port n (Table 1.2). -/
def macIsland (n : Nat) : Nat := if n = 0 then 12 else if n = 1 then 13 else 14

/-- Port n is in use. -/
def portOn (s : State) (n : Nat) : Bool := bbsOn s && on s (BBS_PORT_EN n) && bit (rd s BBS_STATUS_LINK) n && islandPowered s (macIsland n)

/-- Members and untagged ports of a VID. -/
def vlanOf (s : State) (vid : Nat) : VlanEntry :=
  match Assoc.find vid s.bbs.vlan with | some e => if e.valid then e else ⟨false, 0, 0⟩ | none => ⟨false, 0, 0⟩

/-- The filtering database entry of an address in a VID. -/
def fdbFind (s : State) (mac vid : Nat) : Option (Nat × FdbEntry) := s.bbs.fdb.find? (fun p => p.2.mac == mac && p.2.vid == vid)

/-- The stream that a frame matches. -/
def streamOf (s : State) (f : BbFrame) (vid : Nat) (p : StreamEntry → Bool) : Option (Nat × StreamEntry) :=
  s.bbs.streams.find? (fun e => e.2.valid && p e.2 && e.2.vid == vid && e.2.mac == (if e.2.idSrc then f.src else f.dst))

def streamSet (n : Nat) (e : StreamEntry) (s : State) : State := bbsSet (fun u => { u with streams := Assoc.put n e u.streams }) s

/-- First free index of the filtering database. -/
def fdbFree (s : State) : Option Nat :=
  if s.bbs.fdb.length ≥ 16384 then none else firstIdx (fun i => (Assoc.find i s.bbs.fdb).isNone) (s.bbs.fdb.length + 1)

/-- A frame passes by BB2 or BB3: the right LED of the jack flickers (R33). -/
def jackFlicker (n : Nat) (s : State) : State := when (decide (2 ≤ n)) (emit (.flicker n)) s

/-! Packet buffer and queues (R294) -/

/-- Bytes queued of class 7, and of other classes. -/
def queued7 (s : State) : Nat := (s.bbs.queue.filter (fun q => q.cls == 7)).foldl (fun n q => n + (bbSize q.frame)) 0
def queuedOther (s : State) : Nat := (s.bbs.queue.filter (fun q => q.cls != 7)).foldl (fun n q => n + (bbSize q.frame)) 0

/-- A frame of a class finds room: 4 MiB, of which 256 KiB only class 7 uses. -/
def bufferRoom (s : State) (cls size : Nat) : Bool :=
  let r := 262144
  if cls = 7 then decide (queuedOther s + (queued7 s + size - r) ≤ 4194304 - r)
  else decide (queuedOther s + (queued7 s - r) + size ≤ 4194304 - r)

/-- A copy is queued at an egress port, or dropped and counted in TAIL. -/
def bbEnqueue (q : BbQueued) (s : State) : State :=
  if bufferRoom s q.cls (bbSize q.frame) then bbsSet (fun u => { u with queue := u.queue ++ [q] }) s
  else s |> incSat (BBS_DROP_TAIL q.port) 1 |> glnAdd 53 1

end Sys2Proof.Machine
end

