-- ==== Sys2Proof/Machine/Ptp.lean ====
section
/-! DEFINITION. PTP on the backbone (R272 to R278): the ports of the time unit, the messages it makes, sends by class 7 of the switch
and answers. What IEEE 1588-2019 and IEEE 802.1AS-2020 give and the manual only cites (message types and lengths, the peer delay,
asCapable) is PRESUMED (log entry 110). -/

namespace Sys2Proof.Machine

open R

def ptpPort (s : State) (n : Nat) : PtpPort :=
  s.tim.ports.getD n ⟨false, 0, true, 0, 0, 0, 0, 0, 0, 0, 0, 0, 0, 0, none, none, none, 0⟩
def ptpSet (n : Nat) (f : PtpPort → PtpPort) (s : State) : State :=
  timSet (fun u => { u with ports := u.ports.set n (f (ptpPort s n)) }) s

/-- The port sends: enabled, in use with its link up, and the module not in the standby role (R277, R278). -/
def ptpSends (s : State) (n : Nat) : Bool :=
  (ptpPort s n).en && portOn s n && timState s != tmPAIR && decide (rd s PAIR_STATUS_STATE < 4) && islandPowered s 19

/-- asCapable of a port of profile 3: its peer answers, within 800 ns. -/
def asCapable (p : PtpPort) : Bool :=
  decide (p.lost ≤ 9) && (match p.peer with | some d => decide (0 ≤ d ∧ d ≤ 800 * 65536) | none => false)

/-- Sync and Announce go out: on a port of profile 3 only while asCapable. -/
def ptpMaster (s : State) (n : Nat) : Bool := ptpSends s n && ((ptpPort s n).proto != 3 || asCapable (ptpPort s n))

/-! Messages (Table 11.2) -/

/-- The group address of a message type: an IPv4 address for profile 1, otherwise a MAC address. -/
def ptpGroup (proto kind : Nat) : Nat :=
  let peer := kind = 0x2 ∨ kind = 0x3 ∨ kind = 0xA
  if proto = 1 then (if peer then 0xE000006B else 0xE0000181)
  else if proto = 3 ∨ peer then 0x0180C200000E else 0x011B19000000

/-- Length of a message in bytes. -/
def ptpLen (kind : Nat) : Nat := if kind = 0xB then 64 else if kind = 0x0 ∨ kind = 0x1 ∨ kind = 0x8 then 44 else 54

/-- The frame that carries a message. Of its bytes only the length counts here: what they say is the message. -/
def ptpFrame (s : State) (m : PtpMsg) : BbFrame :=
  ⟨if m.proto = 1 then 0x01005E000000 + m.dst % 2 ^ 23 else m.dst, rd s SYS_MAC, none, none, .ptp,
   List.replicate (max 48 (2 + (if m.proto = 1 then 28 else 0) + ptpLen m.kind)) 0⟩

/-- A message is queued in class 7 of a port (R293). -/
def ptpQueue (n : Nat) (m : PtpMsg) (s : State) : State := bbEnqueue ⟨n, 7, ptpFrame s m, none, none, some m⟩ s

/-- A message of a port's profile. -/
def ptpMake (p : PtpPort) (kind domain seq : Nat) (fields : List Nat) : PtpMsg :=
  ⟨p.proto, ptpGroup p.proto kind, kind, domain, seq, fields, kind == 0x0 && p.twostep == false && p.proto != 3⟩

/-- A stamp in units of 2^-16 ns as a message carries it: seconds mod 2^48, nanoseconds, fraction (R272). -/
def stampFields (t : Int) : List Nat :=
  let u := t.toNat
  [u / 65536 / nsPerS % 2 ^ 48, u / 65536 % nsPerS, u % 65536]

/-- A message leaves a port with its egress stamp: a one-step Sync carries it, a two-step one and a Pdelay_Resp are followed by it, and
that of a Pdelay_Req is kept. -/
def ptpLeaves (n : Nat) (m : PtpMsg) (stamp : Int) (s : State) : State :=
  let p := ptpPort s n
  if m.kind = 0x0 ∧ m.oneStep = true then emit (.ptp n { m with fields := stampFields stamp }) s
  else s |> emit (.ptp n m)
    |> when (m.kind == 0x0) (ptpQueue n (ptpMake p 0x8 m.domain m.seq (stampFields stamp)))
    |> when (m.kind == 0x3) (ptpQueue n (ptpMake p 0xA m.domain m.seq (stampFields stamp)))
    |> when (m.kind == 0x2) (ptpSet n (fun q => { q with t1 := some stamp, resp := none, lost := q.lost + 1 }))

/-- PTP_SYNC_SEND. -/
def execPtpSyncSend (n : Fin 4) (s : State) : Out :=
  let p := ptpPort s n
  .next (if !ptpMaster s n then s
    else s |> ptpSet n (fun q => { q with seqSync := (q.seqSync + 1) % 65536 }) |> ptpQueue n (ptpMake p 0x0 p.domain p.seqSync []))

/-- The fields of an Announce: priority1, priority2, clockIdentity, stepsRemoved 0, clockClass, clockAccuracy, variance,
timeSource, traceable, currentUtcOffset, currentUtcOffsetValid, leap59, leap61 (R273, R275). -/
def announceFields (s : State) : List Nat :=
  let q := clockQuality s
  [rd s TIM_PTPCLK_PRIO1, rd s TIM_PTPCLK_PRIO2, rd s SYS_EUI, 0, q.1, q.2.1, q.2.2.1, q.2.2.2.1, q.2.2.2.2,
   rd s TIM_UTC_UTCOFS, rd s TIM_UTC_VALID, rd s TIM_UTC_LEAP59, rd s TIM_UTC_LEAP61]

/-- PTP_ANNOUNCE_SEND. -/
def execPtpAnnounceSend (n : Fin 4) (s : State) : Out :=
  let p := ptpPort s n
  .next (if !ptpMaster s n then s
    else s |> ptpSet n (fun q => { q with seqAnn := (q.seqAnn + 1) % 65536 })
      |> ptpQueue n (ptpMake p 0xB p.domain p.seqAnn (announceFields s)))

/-- PTP_PDELAY_SEND on a peer-delay port. -/
def execPtpPdelaySend (n : Fin 4) (s : State) : Out :=
  let p := ptpPort s n
  .next (if !ptpSends s n || !(p.proto == 2 || p.proto == 3) then s
    else s |> ptpSet n (fun q => { q with seqPdly := (q.seqPdly + 1) % 65536 }) |> ptpQueue n (ptpMake p 0x2 p.domain p.seqPdly []))

/-! Reception (R274, R276) -/

/-- A received timestamp in units of 2^-16 ns: its seconds are extended against the time unit's own (R272). -/
def ptpTime (s : State) (sec ns : Nat) : Int := ((extendSec 48 sec (rd s TIM_SEC) * nsPerS + ns) * 65536 : Nat)

/-- A peer delay has been measured. -/
def peerDelay (n : Nat) (d : Int) (s : State) : State := ptpSet n (fun q => { q with t1 := none, resp := none, peer := some d, lost := 0 }) s

/-- A PTP message that reaches the time unit by a port of the switch in use: Announce of another clock (R276), Delay_Req (at most 512 in a second of a port,
excess is dropped and counted), Pdelay_Req, and the answers to the Pdelay_Req last sent. Other messages are discarded. -/
def ptpReceive (n kind domain seq sec ns : Nat) (corr : Int) (two : Bool) (s : State) : State :=
  let p := ptpPort s n
  let own := rd s TIM_SEC
  let at_ := ingressStamp s n
  let mine := seq == (p.seqPdly + 65535) % 65536
  if portOn s n = false then s
  else if kind = 0xB then
    s |> incSat TIM_FOREIGN_COUNT 1
      |> when (p.foreignSec != own + 1) (fun t => t |> ptpSet n (fun q => { q with foreignSec := own + 1 }) |> raise 264)
  else if !ptpSends s n ∨ domain ≠ p.domain then s
  else if kind = 0x1 ∧ p.proto ≤ 1 then
    let cnt := if p.reqSec = own then p.reqCnt else 0
    if cnt ≥ 512 then incSat TIM_FOREIGN_DROP 1 s
    else s |> ptpSet n (fun q => { q with reqSec := own, reqCnt := cnt + 1 })
      |> ptpQueue n (ptpMake p 0x9 domain seq (stampFields at_ ++ [p.logDreq]))
  else if kind = 0x2 ∧ 2 ≤ p.proto then ptpQueue n (ptpMake p 0x3 domain seq (stampFields at_)) s
  else if kind = 0x3 ∧ 2 ≤ p.proto ∧ mine = true then
    match p.t1 with
    | some t1 =>
      if two then ptpSet n (fun q => { q with resp := some (at_, ptpTime s sec ns + corr) }) s
      else peerDelay n ((at_ - t1 - corr) / 2) s
    | none => s
  else if kind = 0xA ∧ 2 ≤ p.proto ∧ mine = true then
    match p.t1, p.resp with
    | some t1, some (t4, t2) => peerDelay n ((t4 - t1 - (ptpTime s sec ns + corr - t2)) / 2) s
    | _, _ => s
  else s

/-- PTP_MESSAGE_RECEIVE. -/
def execPtpMessageReceive (n : Fin 4) (kind : Fin 16) (domain : Byte) (seq : BitVec 16) (m : PtpTimes) (s : State) : Out :=
  .next (if islandPowered s 19 then ptpReceive n kind domain.toNat seq.toNat m.sec.toNat m.ns.toNat m.corr m.two s else s)

/-- PTP_CONFIG_APPLY: the port's register takes effect at the next second. -/
def execPtpConfigApply (n : Fin 4) (s : State) : Out :=
  .next (ptpSet n (fun q => { q with
    en := on s (TIM_PTP_EN n), proto := rd s (TIM_PTP_PROTO n), twostep := on s (TIM_PTP_TWOSTEP n)
    domain := rd s (TIM_PTP_DOMAIN n), logSync := rd s (TIM_PTP_LOGSYNC n), logAnn := rd s (TIM_PTP_LOGANN n)
    logPdly := rd s (TIM_PTP_LOGPDLY n), logDreq := rd s (TIM_PTP_LOGDREQ n) }) s)

end Sys2Proof.Machine
end

