-- ==== Sys2Proof/Machine/Backbone.lean ====
section
/-! DEFINITION. The backbone switch (chapter 12): classes and policing, forwarding and learning, egress, gate control
lists, duplicate elimination, CPU port rings, tables, links and SFP+ modules. -/

namespace Sys2Proof.Machine

open R

/-! The CPU receive ring (R298) -/

/-- The words of a receive descriptor after a frame of class, port, PCP and VID has been stored, stamped now at the port. -/
def rxWords (s : State) (cls port pcp vid len : Nat) (buf : List Byte) : List Byte :=
  let t := (ingressStamp s port).toNat
  bytesLE 4 (cls * 2 ^ 24 + port * 2 ^ 16 + len % 2048) ++ bytesLE 4 (pcp * 2 ^ 16 + vid) ++ buf
    ++ bytesLE 4 (t / 65536 / nsPerS) ++ bytesLE 4 (t / 65536 % nsPerS) ++ bytesLE 4 (t % 65536)

/-- A frame as it leaves by a port: untagged where the VLAN says so. -/
def bbTagged (s : State) (f : BbFrame) (pcp vid port : Nat) : BbFrame :=
  if bit (vlanOf s vid).untag port then { f with tag := none } else { f with tag := some (pcp, vid) }

/-- A datagram to one of SFU's UDP ports goes to SFU and not to the CPU receive ring (R413; SAFEGUARD_DATAGRAM_RECEIVE). -/
def toSfu (s : State) (k : BbKind) : Bool :=
  match k with
  | .udp p => p == rd s SFU_BBCFG_PORT || p == rd s SFU_BBCFG_JX5PORT
  | .arp | .icmp | .icmp6 | .tcp _ | .ptp | .other => false

/-- A frame for the CPU port is written to the next receive descriptor, or dropped with event 297. -/
def cpuDeliver (f : BbFrame) (cls port pcp vid : Nat) (s : State) : State :=
  let n := rd s BBS_RXIDX_NEXT
  let cnt := rd s BBS_RXRING_ENTRIES
  let a := 32 * rd s BBS_RXRING_BASE + 32 * n
  let w0 := memNat s a 4
  if toSfu s f.kind then s
  else if cnt = 0 ∨ bit w0 31 = false then s |> incSat BBS_RXIDX_DROP 1 |> raise 297
  else
    let bs := (bbBytes (bbTagged s f pcp vid 4)).take 2048
    s |> (fun t => (memWriteBy .other (memNat t (a + 8) 8 % 2 ^ 40) bs t).1)
      |> (fun t => (memWriteBy .other a (rxWords s cls port pcp vid bs.length (memRead s (a + 8) 8)) t).1)
      |> wr BBS_RXIDX_NEXT ((n + 1) % cnt)

/-! Forwarding (R290, R292, R299) -/

/-- A copy towards a port of 0 to 3. -/
def bbToPort (f : BbFrame) (cls pcp vid port : Nat) (launch : Option Nat) (back : Option (Nat × Nat)) (s : State) : State :=
  bbEnqueue ⟨port, cls, bbTagged s f pcp vid port, launch, back, none⟩ s

/-- A frame towards ports 0 to 3. One that matches a generating stream gets the stream's next sequence number and goes
out once on each of BB0 and BB1. -/
def bbTowards (f : BbFrame) (cls pcp vid mask : Nat) (launch : Option Nat) (back : Option (Nat × Nat)) (s : State) : State :=
  let pair := on s (BBS_PORT_FRER 0) && on s (BBS_PORT_FRER 1)
  let (g, m, s1) := match streamOf s f vid (fun e => e.gen) with
    | some (n, e) =>
      if pair && (bit mask 0 || bit mask 1) then
        ({ f with rtag := some e.txSeq }, Nat.lor mask 3, streamSet n { e with txSeq := (e.txSeq + 1) % 65536 } s)
      else (f, mask, s)
    | none => (f, mask, s)
  (List.range 4).foldl (fun t p => when (bit m p) (fun u =>
    bbToPort (if p ≤ 1 then g else f) cls pcp vid p launch back u) t) s1

/-- Destination ports of a frame in a VID from a port; `full`: learning has failed and the frame is flooded. -/
def destMask (s : State) (f : BbFrame) (vid port : Nat) (full : Bool) : Nat :=
  let m := (vlanOf s vid).member
  let d := if full then m else match fdbFind s f.dst vid with | some (_, e) => Nat.land e.mask m | none => m
  setBits d port 1 0

/-- An ARP packet from the EtherType on: operation, sender and target. -/
def arpRest (op smac sip tmac tip : Nat) : List Byte :=
  [0x08, 0x06, 0, 1, 8, 0, 6, 4] ++ bytesBE 2 op ++ bytesBE 6 smac ++ bytesBE 4 sip ++ bytesBE 6 tmac ++ bytesBE 4 tip

/-- Only the active answers ARP for the service address (R426): a request that comes in by a port is answered on it, in class 7. -/
def arpAnswer (f : BbFrame) (port : Nat) (s : State) : State :=
  let g := fun k n => beBytes ((f.rest.drop k).take n)
  when (rd s PAIR_STATUS_STATE == 3 && f.rest.take 10 == (arpRest 1 0 0 0 0).take 10 && g 26 4 == rd s PAIR_SVCIP_IP)
    (bbEnqueue ⟨port, 7, ⟨g 10 6, rd s PAIR_SVCMAC_MAC, f.tag, none, .arp,
      arpRest 2 (rd s PAIR_SVCMAC_MAC) (rd s PAIR_SVCIP_IP) (g 10 6) (g 16 4)⟩, none, none, none⟩) s

/-- A frame sent by the CPU port, or admitted from a port: to the CPU port and to the others. -/
def bbForward (f : BbFrame) (cls cpuCls pcp vid port mask : Nat) (launch : Option Nat) (back : Option (Nat × Nat))
    (s : State) : State :=
  s |> when (bit mask 4) (fun t => t |> cpuDeliver f cpuCls port pcp vid |> arpAnswer f port) |> bbTowards f cls pcp vid mask launch back

/-! Ingress (R291 to R294, R297, R300) -/

/-- Management traffic that takes class 7 when it is addressed to the CPU port (R293). -/
def mgmtKind (s : State) (k : BbKind) : Bool :=
  match k with
  | .arp => true | .icmp => true | .icmp6 => true
  | .tcp p => p == rd s BBS_MGMT_TCPPORT
  | .ptp => true
  | .udp _ | .other => false

/-- Class 7 policing of port n (R294): whether the frame is admitted. Levels are in 1/1000 bit. -/
def police (n size : Nat) (s : State) : Bool × State :=
  let b := s.bbs.bucket.getD n (131072000, 0, 0)
  let lvl := min 131072000 (b.1 + rd s BBS_MGMT_RATE * (upNow s - b.2.1))
  let cost := 8000 * size
  let put := fun v sec t => bbsSet (fun u => { u with bucket := u.bucket.set n (v, upNow s, sec) }) t
  if cost ≤ lvl then (true, put (lvl - cost) b.2.2 s)
  else
    let once := b.2.2 != rd s TIM_SEC + 1
    (false, s |> put lvl (rd s TIM_SEC + 1) |> incSat (BBS_ERR_MGMTPOL n) 1 |> glnAdd 54 1 |> when once (raise 296))

/-- Learning of the source address (R292, R302): whether the database is full. -/
def learn (f : BbFrame) (vid port : Nat) (s : State) : Bool × State :=
  if !on s (BBS_PORT_LEARN port) || bit (f.src / 2 ^ 40) 0 then (false, s)
  else
    let e : FdbEntry := ⟨f.src, vid, false, 2 ^ port, upNow s⟩
    match fdbFind s f.src vid with
    | some (i, o) => (false, if o.static then s else bbsSet (fun u => { u with fdb := Assoc.put i e u.fdb }) s)
    | none =>
      match fdbFree s with
      | some i => (false, bbsSet (fun u => { u with fdb := Assoc.put i e u.fdb }) s)
      | none => (true, raise 301 s)

/-- Vector recovery (R300): whether the number is kept, chaff or rogue, and the history after it. -/
inductive Recov where
  | keep (last : Nat) (seen : List Bool)
  | chaff | rogue

def recover (e : StreamEntry) (seq : Nat) : Recov :=
  match e.last with
  | none => .keep seq [true]
  | some l =>
    let d := toSigned 16 (ofSigned 16 ((seq : Int) - l))
    if d.natAbs ≥ e.hist then .rogue
    else if d > 0 then .keep seq ((true :: (List.replicate (d.toNat - 1) false ++ e.seen)).take e.hist)
    else if e.seen.getD d.natAbs false then .chaff
    else .keep l ((e.seen ++ List.replicate (d.natAbs + 1 - e.seen.length) false).set d.natAbs true)

/-- The history of a stream is due to reset: RESETMS ms have passed without a kept frame. -/
def historyDue (s : State) (e : StreamEntry) : Bool := e.last.isSome && decide (e.kept + e.resetMs * 1000000 ≤ upNow s)

/-- The history of stream n resets, and the next number is accepted: event 298. -/
def historyReset (n : Nat) (e : StreamEntry) (s : State) : State := s |> streamSet n { e with last := none, seen := [] } |> raise 298

/-- A frame of a recovering stream arrives on a port: a history that is due resets, then its run of one port, then its recovery. -/
def streamArrive (n port seq : Nat) (e0 : StreamEntry) (s0 : State) : Bool × State :=
  let due := historyDue s0 e0
  let e := if due then { e0 with last := none, seen := [] } else e0
  let s := when due (historyReset n e0) s0
  let e1 := if e.runPort = some port then e else { e with runPort := some port, runSince := upNow s, silent := false }
  match recover e1 seq with
  | .keep l h => (true, streamSet n { e1 with last := some l, seen := h, kept := upNow s } s)
  | .chaff => (false, s |> streamSet n { e1 with chaff := satAdd 16 e1.chaff 1 } |> incSat BBS_CHAFF 1 |> glnAdd 52 1)
  | .rogue => (false, streamSet n { e1 with rogue := satAdd 16 e1.rogue 1 } s)

/-- Recovery on BB0 and BB1: whether the frame goes on, and the frame without its R-tag. -/
def frer (f : BbFrame) (vid port : Nat) (s : State) : Option BbFrame × State :=
  match f.rtag, streamOf s f vid (fun e => e.rec_) with
  | some q, some (n, e) =>
    if port ≤ 1 then
      let r := streamArrive n port q e s
      (if r.1 then some { f with rtag := none } else none, r.2)
    else (some f, s)
  | _, _ => (some f, s)

/-- Whether a frame that enters at port `n` goes on: class 7 by its policer (R294), any other by the port's QUENCH (R297). -/
def bbPass (cls7 : Bool) (n : Nat) (f : BbFrame) (s : State) : Bool × State :=
  if cls7 then police n (bbSize f) s
  else (!on s (BBS_QUENCH_INDROP n), when (on s (BBS_QUENCH_INDROP n)) (incSat (BBS_DROP_INDROP n) 1) s)

/-- A frame on port n that has passed the length check. QUENCH counts it whatever its VLAN (R297). -/
def bbAdmit (n : Nat) (f : BbFrame) (s : State) : State :=
  let vid := frameVid f (rd s (BBS_PORT_PVID n))
  let pcp := framePcp f (rd s (BBS_PORT_DEFPCP n))
  let mask0 := destMask s f vid n false
  let cls7 := f.kind == .ptp || (mgmtKind s f.kind && bit mask0 4)
  let q := bbPass cls7 n f s
  if !q.1 || f.kind == .ptp || !bit (vlanOf s vid).member n then q.2
  else
    let l := learn f vid n q.2
    let r := frer f vid n l.2
    let c := min pcp 6
    r.1.elim r.2 (fun g =>
      bbForward g c (if cls7 then 7 else c) pcp vid n (if l.1 then destMask r.2 g vid n true else mask0) none none r.2)

/-- BACKBONE_FRAME_INGRESS on port n. A PTP message ends at the time unit (PTP_MESSAGE_RECEIVE). -/
def execBackboneFrameIngress (n : Fin 4) (f : BbFrame) (s : State) : Out :=
  .next (if !portOn s n then s
    else if (bbSize f) > 2000 then s |> jackFlicker n |> incSat (BBS_ERR_OVERSIZE n) 1
    else s |> jackFlicker n |> bbAdmit n f)

/-! Transmit rings (R298) -/

/-- Descriptor `i` of transmit ring `c`. -/
def txDesc (s : State) (c i : Nat) : Nat := 32 * rd s (BBS_TXRING_BASE c) + 32 * i

/-- Write-back of a transmit descriptor: status, the egress stamp where one is given, and OWN cleared last. -/
def txBack (c i status : Nat) (stamp : Option Nat) (s : State) : State :=
  let a := txDesc s c i
  let put := fun o bs t => (memWriteBy .other (a + o) bs t).1
  s |> put 4 (bytesLE 1 status)
    |> (fun t => match stamp with
        | some v => t |> put 16 (bytesLE 4 (v / 65536 / nsPerS)) |> put 20 (bytesLE 4 (v / 65536 % nsPerS))
            |> put 24 (bytesLE 4 (v % 65536))
        | none => t)
    |> (fun t => put 0 (bytesLE 4 (memNat t a 4 % 2 ^ 31)) t)

/-- A descriptor none of whose copies found a queue is written back at once (DEDUCED, log entry 57). -/
def txSettle (back : Option (Nat × Nat)) (s : State) : State :=
  match back with
  | some (c, i) => if s.bbs.queue.any (fun q => q.back == back) then s else txBack c i 0 none s
  | none => s

/-- One descriptor that the CPU hands over: oversize is written back with status 3; a frame without launch time and stamp is
written back as it is taken. A port mask of 0 forwards by the filtering database; an untagged frame takes VID 1. Ingress filtering
holds for the CPU port too (R292). -/
def txTake (c i : Nat) (s : State) : State :=
  let a := txDesc s c i
  let w0 := memNat s a 4
  if bit w0 31 = false then s
  else
    let len := bits w0 0 11
    if len > 2000 then txBack c i 3 none s
    else
      let f := bbParse (memReadBy s (memNat s (a + 8) 8 % 2 ^ 40) len)
      let cls := bits w0 24 3
      let lt := bit w0 30
      let launch := if lt then some (extend32 (memNat s (a + 16) 4) (rd s TIM_SEC) * nsPerS + memNat s (a + 20) 4 % 2 ^ 30) else none
      let back := if lt || bit w0 29 then some (c, i) else none
      let vid := frameVid f 1
      let pcp := framePcp f cls
      let m := bits w0 16 4
      s |> when back.isNone (txBack c i 0 none)
        |> when (bit (vlanOf s vid).member 4)
            (bbTowards f cls pcp vid (if m = 0 then setBits (destMask s f vid 4 false) 4 2 0 else m) launch back)
        |> txSettle back

/-- The descriptors up to TAIL are taken. -/
def txTail (c tail : Nat) (s : State) : State :=
  let cnt := rd s (BBS_TXRING_ENTRIES c)
  let h := s.bbs.txHead.getD c 0
  let s1 := wr (BBS_TXTAIL_TAIL c) tail s
  if cnt = 0 ∨ tail ≥ cnt ∨ bbsOn s = false then s1
  else
    ((List.range ((tail + cnt - h) % cnt)).foldl (fun t k => txTake c ((h + k) % cnt) t) s1)
      |> bbsSet (fun u => { u with txHead := u.txHead.set c tail })

def execTxTailWrite (w : Writer) (c : Fin 8) (tail : BitVec 12) (s : State) : Out :=
  .next (gateWrite w (BBS_TXTAIL_TAIL c) tail.toNat (txTail c tail.toNat) s)

/-! Egress (R287, R295) -/

/-- The head of a class's queue at a port. -/
def queueHead (s : State) (port cls : Nat) : Option BbQueued := s.bbs.queue.find? (fun q => q.port == port && q.cls == cls)

/-- Removes the first copy equal to `q`. -/
def queueDrop (q : BbQueued) (s : State) : State := bbsSet (fun u => { u with queue := u.queue.erase q }) s

/-- Time on the wire in units of 0.1 ns, with preamble and IFG. -/
def wireTime (port size : Nat) : Nat := (size + 20) * (if port ≤ 1 then 8 else 80)

/-- The head may start now: the gate of its class is open and it ends, IFG included, before the gate closes; a launch time
has come. -/
def mayStart (s : State) (q : BbQueued) : Bool :=
  (match gateOpen s q.port q.cls with | none => true | some r => decide (wireTime q.port (bbSize q.frame) ≤ 10 * r))
    && (match q.launch with | some l => decide (l ≤ now s) | none => true)

/-- Strict priority: no higher class of the port may start. -/
def outranked (s : State) (port cls : Nat) : Bool :=
  (List.range 8).any (fun k => decide (k > cls) && (match queueHead s port k with | some q => mayStart s q | none => false))

/-- The write-back of a copy that leaves or is dropped; a descriptor is written back once. -/
def sendBack (q : BbQueued) (status : Nat) (stamp : Option Nat) (s : State) : State :=
  match q.back with
  | some (c, i) => if bit (memNat s (txDesc s c i) 4) 31 then txBack c i status stamp s else s
  | none => s

/-- A copy leaves; a frame of the TIM port carries its message. -/
def bbSend (q : BbQueued) (s : State) : State :=
  let stamp := egressStamp s q.port
  s |> queueDrop q |> jackFlicker q.port
    |> (match q.msg with
        | some m => ptpLeaves q.port m stamp
        | none => fun t => t |> emit (.frame 0x21 q.port (bbBytes q.frame)) |> sendBack q 0 (some stamp.toNat))

/-- BACKBONE_FRAME_TRANSMIT: the head of a class without launch time starts on a port. -/
def execBackboneFrameTransmit (port : Fin 4) (cls : Fin 8) (s : State) : Out :=
  .next (match queueHead s port cls with
    | some q => if portOn s port && q.launch.isNone && mayStart s q && !outranked s port cls then bbSend q s else s
    | none => s)

/-- A launch-time frame is dropped: LATE or FAR. -/
def launchDrop (q : BbQueued) (far : Bool) (s : State) : State :=
  s |> queueDrop q |> when far (incSat TIM_LAUNCHCNT_FAR 1) |> when (!far) (incSat TIM_LAUNCHCNT_LATE 1) |> raise 266
    |> sendBack q (if far then 2 else 1) none

/-- LAUNCH_TIME_TRANSMIT: the head of a class with a launch time leaves, is dropped, or waits. A launch time more than 1 s
ahead, or passed by more than LATEWIN, drops the frame. -/
def execLaunchTimeTransmit (port : Fin 4) (cls : Fin 8) (s : State) : Out :=
  .next (if !bbsOn s then s else match queueHead s port cls with
    | some q =>
      match q.launch with
      | some l =>
        if l > now s + nsPerS then launchDrop q true s
        else if now s > l + 1000 * rd s TIM_LAUNCH_LATEWIN then launchDrop q false s
        else if portOn s port && mayStart s q && !outranked s port cls then bbSend q s
        else s
      | none => s
    | none => s)

/-! Gate control lists (R295, R296) -/

/-- GATE_ENTRY_CHANGE: the entry in force on port n. -/
def execGateEntryChange (n : Fin 4) (s : State) : Out :=
  .next (if bbsOn s && on s (BBS_GCL_CTRL_GATEEN n) then wr (BBS_GCL_STAT_ENTRY n) (gateNow s n).1 s else s)

/-- The first instant base + N × cycle at least 1 µs after GO (R296). -/
def gclStart (base cycle go : Nat) : Nat :=
  let lo := go + 1000
  if lo ≤ base then base else base + (lo - base + cycle - 1) / cycle * cycle

/-- GCL_GO: the check of the list that is not operating. -/
def gclGo (n len : Nat) (s : State) : State :=
  let l := clampNat 1 256 len
  let b := 1 - rd s (BBS_GCL_CTRL_OPERBANK n)
  let cycle := rd s (BBS_GCL_CYCLE_CYCLE n)
  let bad := (List.range l).any (fun e => decide ((gateEntry s n b e).2 < 1000)) || decide (cycle < 10000 ∨ 1000000000 < cycle)
    || decide (cycle < 2 * (1000 * rd s BBS_MGMT_MGMTWIN))
  let s1 := wr (BBS_GCL_CTRL_LEN n) l s
  if bad then s1 |> set1 (BBS_GCL_STAT_CFGERR n) |> raise 295
  else
    let base := extend32 (rd s (BBS_GCL_BASE_SEC n)) (rd s TIM_SEC) * nsPerS + rd s (BBS_GCL_BASE_NSEC n)
    s1 |> set1 (BBS_GCL_CTRL_PEND n) |> bbsSet (fun u => { u with pend := u.pend.set n (some ⟨base, cycle, l, gclStart base cycle (now s)⟩) })

def execGclGo (w : Writer) (n : Fin 4) (len : BitVec 9) (s : State) : Out :=
  .next (gateWrite w (BBS_GCL_CTRL_GO n) 1 (gclGo n len.toNat) s)

/-- GCL_SWITCH: the pending list takes over once its instant has come. -/
def execGclSwitch (n : Fin 4) (s : State) : Out :=
  .next (match s.bbs.pend.getD n none with
    | some g =>
      if !bbsOn s || now s < g.start then s
      else s |> bbsSet (fun u => { u with oper := u.oper.set n g, pend := u.pend.set n none, hold := u.hold.set n 0 })
        |> wr (BBS_GCL_CTRL_OPERBANK n) (1 - rd s (BBS_GCL_CTRL_OPERBANK n)) |> clr (BBS_GCL_CTRL_PEND n)
        |> clr (BBS_GCL_STAT_ENTRY n) |> raise 294
    | none => s)

/-! QUENCH (R297) -/

/-- A change of a QUENCH register: event 293. -/
def bbsQuench (n : Nat) (indrop : Bool) (classes : Nat) (s : State) : State :=
  if on s (BBS_QUENCH_INDROP n) == indrop && rd s (BBS_QUENCH_CLASSES n) == classes % 128 then s
  else s |> wr (BBS_QUENCH_INDROP n) (b2n indrop) |> wr (BBS_QUENCH_CLASSES n) classes |> raise 293

def execBbsQuenchWrite (w : Writer) (n : Fin 4) (indrop : Bool) (classes : BitVec 7) (s : State) : Out :=
  .next (gateWrites w [(BBS_QUENCH_INDROP n, b2n indrop), (BBS_QUENCH_CLASSES n, classes.toNat)]
    (fun taken t => bbsQuench n (takenValue taken (BBS_QUENCH_INDROP n) (b2n indrop) t == 1)
      (takenValue taken (BBS_QUENCH_CLASSES n) classes.toNat t) t) s)

/-! Recovery (R300) -/

/-- RECOVERY_RESET of stream n, RESETMS ms after its last kept frame. -/
def execRecoveryReset (n : Fin 256) (s : State) : Out :=
  .next (match Assoc.find n.val s.bbs.streams with
    | some e => if bbsOn s && e.valid && e.rec_ && historyDue s e then historyReset n e s else s
    | none => s)

/-- STREAM_SILENT: stream n has received on one port only for 1 s; event 299, once until both deliver again. -/
def execStreamSilent (n : Fin 256) (s : State) : Out :=
  .next (match Assoc.find n.val s.bbs.streams with
    | some e =>
      if bbsOn s && e.valid && e.rec_ && e.runPort.isSome && !e.silent && decide (upNow s ≥ e.runSince + nsPerS) then
        s |> streamSet n { e with silent := true } |> raise 299
      else s
    | none => s)

/-! Tables (R301, R302) -/

/-- Words of the entry at an index of a table. -/
def tableWords (s : State) (table i : Nat) : List Nat :=
  if table = 0 then
    match Assoc.find i s.bbs.vlan with
    | some e => [b2n e.valid * 2 ^ 31 + e.untag * 2 ^ 16 + e.member, 0, 0, 0]
    | none => [0, 0, 0, 0]
  else if table = 1 then
    match Assoc.find i s.bbs.fdb with
    | some e => [e.mac / 2 ^ 16, e.mac % 2 ^ 16 * 2 ^ 16 + e.vid, 2 ^ 31 + b2n e.static * 2 ^ 30 + e.mask,
        if e.static then 0 else rd s BBS_AGE - (upNow s - e.at_) / nsPerS]
    | none => [0, 0, 0, 0]
  else
    match Assoc.find i s.bbs.streams with
    | some e => [b2n e.valid * 2 ^ 31 + b2n e.gen * 2 ^ 30 + b2n e.rec_ * 2 ^ 29 + b2n e.idSrc * 2 ^ 28 + e.vid, e.mac / 2 ^ 16,
        e.mac % 2 ^ 16 * 2 ^ 16 + e.hist % 64 * 2 ^ 10 + e.resetMs, e.chaff * 2 ^ 16 + e.rogue]
    | none => [0, 0, 0, 0]

/-- Entries of a table; table 3 does not exist. -/
def tableSize (table : Nat) : Nat := if table = 0 then 4096 else if table = 1 then 16384 else if table = 2 then 256 else 0

/-- The command word as written; GO and BUSY aside. -/
def tblCmd (table op i : Nat) (s : State) : State := s |> wr BBS_TBLCMD_TABLE table |> wr BBS_TBLCMD_OP op |> wr BBS_TBLCMD_INDEX i

/-- Data registers loaded with an entry. -/
def tblLoad (l : List Nat) (s : State) : State := (List.range 4).foldl (fun t k => wr (BBS_TBLDATA_DATA k) (l.getD k 0) t) s

def tableRead (table i : Nat) (s : State) : State :=
  let s1 := tblCmd table 0 i s
  if i < tableSize table then tblLoad (tableWords s table i) s1 else set1 BBS_TBLCMD_ERR s1

def execTableRead (w : Writer) (table : Fin 4) (i : BitVec 14) (s : State) : Out :=
  .next (gateWrite w BBS_TBLCMD_GO 1 (tableRead table i.toNat) s)

/-- A WRITE is refused: a port of 6 to 9, a VID of 0 or 4,095, HIST or RESETMS out of range, or a pair stream without FRER
on both ports; an index that the table does not have. -/
def tableRefused (s : State) (table i : Nat) : Bool :=
  let d := fun k => rd s (BBS_TBLDATA_DATA k)
  let badVid := fun v => v == 0 || v == 4095
  decide (i ≥ tableSize table)
    || (if table = 0 then badVid i || bits (d 0) 6 4 != 0 || bits (d 0) 22 4 != 0
        else if table = 1 then badVid (bits (d 1) 0 12) || bits (d 2) 6 4 != 0
        else
          let hist := bits (d 2) 10 6
          let ms := bits (d 2) 0 10
          badVid (bits (d 0) 0 12) || decide (hist < 1 ∨ 32 < hist) || decide (ms < 1 ∨ 1000 < ms)
            || ((bit (d 0) 30 || bit (d 0) 29) && !(on s (BBS_PORT_FRER 0) && on s (BBS_PORT_FRER 1))))

/-- The entry at an index takes the data registers; a stream keeps its counts and starts afresh. -/
def tablePut (table i : Nat) (s : State) : State :=
  let d := fun k => rd s (BBS_TBLDATA_DATA k)
  if table = 0 then bbsSet (fun u => { u with vlan := Assoc.put i ⟨bit (d 0) 31, bits (d 0) 16 6, bits (d 0) 0 6⟩ u.vlan }) s
  else if table = 1 then
    let e : FdbEntry := ⟨d 0 * 2 ^ 16 + bits (d 1) 16 16, bits (d 1) 0 12, bit (d 2) 30, bits (d 2) 0 6, upNow s⟩
    bbsSet (fun u => { u with fdb := if bit (d 2) 31 then Assoc.put i e u.fdb else Assoc.drop i u.fdb }) s
  else
    let old := Assoc.find i s.bbs.streams
    let cnt := match old with | some e => (e.chaff, e.rogue) | none => (0, 0)
    streamSet i ⟨bit (d 0) 31, bit (d 0) 30, bit (d 0) 29, bit (d 0) 28, bits (d 0) 0 12, d 1 * 2 ^ 16 + bits (d 2) 16 16,
      bits (d 2) 10 6, bits (d 2) 0 10, cnt.1, cnt.2, 0, none, [], 0, none, 0, false⟩ s

def tableWrite (table i : Nat) (s : State) : State :=
  let s1 := tblCmd table 1 i s
  if tableRefused s table i then s1 |> set1 BBS_TBLCMD_ERR |> raise 300 else tablePut table i s1

def execTableWrite (w : Writer) (table : Fin 4) (i : BitVec 14) (s : State) : Out :=
  .next (gateWrite w BBS_TBLCMD_GO 1 (tableWrite table i.toNat) s)

/-- FIND searches the filtering database for the MAC address and VID in the data registers. -/
def tableFind (s : State) : State :=
  let d := fun k => rd s (BBS_TBLDATA_DATA k)
  let s1 := s |> wr BBS_TBLCMD_TABLE 1 |> wr BBS_TBLCMD_OP 2
  match fdbFind s (d 0 * 2 ^ 16 + bits (d 1) 16 16) (bits (d 1) 0 12) with
  | some (i, _) => s1 |> wr BBS_TBLCMD_INDEX i |> tblLoad (tableWords s 1 i)
  | none => set1 BBS_TBLCMD_ERR s1

def execTableFind (w : Writer) (s : State) : Out := .next (gateWrite w BBS_TBLCMD_GO 1 tableFind s)

/-- DELETE clears the entry at an index. -/
def tableDelete (table i : Nat) (s : State) : State :=
  let s1 := tblCmd table 3 i s
  if i ≥ tableSize table then set1 BBS_TBLCMD_ERR s1
  else if table = 0 then bbsSet (fun u => { u with vlan := Assoc.drop i u.vlan }) s1
  else if table = 1 then bbsSet (fun u => { u with fdb := Assoc.drop i u.fdb }) s1
  else bbsSet (fun u => { u with streams := Assoc.drop i u.streams }) s1

def execTableDelete (w : Writer) (table : Fin 4) (i : BitVec 14) (s : State) : Out :=
  .next (gateWrite w BBS_TBLCMD_GO 1 (tableDelete table i.toNat) s)

/-- A learned entry of the filtering database has reached the age limit. -/
def fdbAged (s : State) (e : FdbEntry) : Bool :=
  !e.static && rd s BBS_AGE != 0 && decide (e.at_ + rd s BBS_AGE * nsPerS ≤ upNow s)

/-- FDB_AGEING: a learned entry reaches its age limit. -/
def execFdbAgeing (i : BitVec 14) (s : State) : Out :=
  .next (match Assoc.find i.toNat s.bbs.fdb with
    | some e => if !bbsOn s || !fdbAged s e then s else bbsSet (fun u => { u with fdb := Assoc.drop i.toNat u.fdb }) s
    | none => s)

/-! Links and SFP+ modules (R303, R32) -/

/-- BACKBONE_LINK_CHANGE of port n, while the switch is powered (R302); a port whose SFP+ module is refused stays disabled. -/
def execBackboneLinkChange (n : Fin 4) (up : Bool) (s : State) : Out :=
  let v := rd s BBS_STATUS_LINK
  .next (if !islandPowered s 11 || bit v n == up || (up && n.val ≤ 1 && bit (rd s BBS_STATUS_SFPREF) n) then s
    else s |> wr BBS_STATUS_LINK (setBits v n 1 (b2n up)) |> raise (288 + n))

/-- SFP_MODULE_PLUGGED on BB0 or BB1: whether it is a 10GBASE-R module, and the power it declares in mW. -/
def execSfpModulePlugged (n : Fin 2) (baseR : Bool) (mw : Nat) (s : State) : Out :=
  let v := rd s BBS_STATUS_SFPREF
  .next (if baseR && decide (mw ≤ 1000) then wr BBS_STATUS_SFPREF (setBits v n 1 0) s
    else s |> wr BBS_STATUS_SFPREF (setBits v n 1 1) |> raise 292)

/-! Enabling the switch (R75) -/

/-- EN = 1 or 0 of BBS_CTRL. -/
def bbsEnable (en : Bool) (s : State) : State :=
  if en then
    if on s BBS_CTRL_BUSY_OFF then set1 BBS_CTRL_ENPEND s else set1 BBS_CTRL_EN s
  else s |> clr BBS_CTRL_ENPEND
    |> when (on s BBS_CTRL_EN) (fun t => t |> clr BBS_CTRL_EN |> set1 BBS_CTRL_BUSY_OFF |> bbsSet (fun u => { u with queue := [] }))

end Sys2Proof.Machine
end

