-- ==== Sys2Proof/Machine/Outbound.lean ====
section
/-! DEFINITION. Accesses that leave through the outbound windows to host memory (R326, R332, R333). The host's memory is no
state of the module: the data of an outbound read are free values (log entry 3), a posted write is sent to the outside. -/

namespace Sys2Proof.Machine

open R

/-- Initiator numbers of HBR_OBERR: DMA channels 0 to 15, slices, ring engine. -/
def obSlices : Nat := 16

/-- Window of an address, and whether it is enabled. -/
def obWindow (a : Nat) : Nat := (a - 0xC00000000) / 0x100000000
def obEnabled (s : State) (a : Nat) : Bool := on s (HBR_OBWIN_EN (obWindow a))

/-- Fabric code of an access to an outbound window. -/
def obCode (s : State) (a : Nat) : Nat := if obEnabled s a && obLink s then fOK else fDECODE

/-- Host address of an address in an outbound window. -/
def obHost (s : State) (a : Nat) : Nat := rd s (HBR_OBWIN_HBASE (obWindow a)) * 2 ^ 32 + a % 0x100000000

/-- A posted write to an outbound window and its code; one that cannot be sent is discarded with event 332. -/
def obWrite (init a : Nat) (bs : List Byte) (s : State) : State × Nat :=
  if !obEnabled s a then (s, fDECODE)
  else if !obLink s then (s |> obError 5 init a |> raise 332, fDECODE)
  else (emit (.hostWrite (obHost s a) bs) s, fOK)

/-- An outbound read is issued and waits for its completion; for a load of the slices, whose it is. -/
def obIssue (init : Nat) (own : Option (Fin 3)) (core a size : Nat) (s : State) : State :=
  { s with outReads := s.outReads ++ [⟨init, own, core, a, size, 0, false, upNow s⟩] }

/-- An outbound read of an initiator waits. -/
def obWaits (s : State) (init : Nat) : Bool := s.outReads.any (fun r => r.init == init)

/-- An outbound read of an initiator has had a retry response and has not been issued again (R333). -/
def obRetrying (s : State) (init : Nat) : Bool := s.outReads.any (fun r => r.init == init && r.reissue)

/-- The outbound reads of an initiator end. -/
def obDone (init : Nat) (s : State) : State := { s with outReads := s.outReads.filter (fun r => r.init != init) }

/-- The oldest outbound read of an initiator that the host has not answered, that is not waiting to be issued again and that
`sel` selects. -/
def obOpenAt (s : State) (init : Nat) (sel : OutRead → Bool) : Option OutRead :=
  s.outReads.find? (fun r => r.init == init && !r.reissue && sel r)

/-- The oldest one, whatever it is. -/
def obOpen (s : State) (init : Nat) : Option OutRead := obOpenAt s init (fun _ => true)

/-- The open outbound read of an initiator was issued at least so many ns ago. -/
def obAged (s : State) (init ns : Nat) : Bool := (obOpen s init).any (fun r => decide (r.since + ns ≤ upNow s))

/-- `n` free bytes. -/
def freeBytes (n : Nat) (s : State) : List Byte × State :=
  ((List.range n).map (fun i => BitVec.ofNat 8 (Config.freeValue (s.freeCtr + i))), { s with freeCtr := s.freeCtr + n })

end Sys2Proof.Machine
end

