-- ==== Sys2Proof/Machine/Dma.lean ====
section
/-! DEFINITION. The reshuffle DMA (chapter 15) but for FILL: channels, descriptors, starts, data modes, completion, abort. -/

namespace Sys2Proof.Machine

open R

def dch (s : State) (n : Nat) : DmaCh := s.dma.getD n DmaCh.idle
def dset (n : Nat) (f : DmaCh → DmaCh) (s : State) : State := { s with dma := s.dma.set n (f (dch s n)) }

/-! Channel states (Table 15.1) -/

def dcOFF : Nat := 0
def dcIDLE : Nat := 1
def dcACTIVE : Nat := 2
def dcHALTED : Nat := 3

def dcState (s : State) (n : Nat) : Nat := rd s (DMA_CH_CTRL_STATE n)

/-- A channel enters a state; DMA_STATUS follows. -/
def dcEnter (n st : Nat) (s : State) : State :=
  s |> wr (DMA_CH_CTRL_STATE n) st
    |> wr DMA_STATUS_ACTIVE (setBits (rd s DMA_STATUS_ACTIVE) n 1 (b2n (st == dcACTIVE)))
    |> wr DMA_STATUS_HALTED (setBits (rd s DMA_STATUS_HALTED) n 1 (b2n (st == dcHALTED)))

/-- Descriptor status codes (Table 15.4). -/
def dsOK : Nat := 0
def dsABORTED : Nat := 1
def dsCHAINLIMIT : Nat := 2
def dsBUSTIMEOUT : Nat := 3
def dsOVERLAP : Nat := 4
def dsBADDESC : Nat := 5
def dsFABRIC : Nat := 6
def dsRETRY : Nat := 7
def dsNOTOWN : Nat := 8
def dsDESCREAD : Nat := 9

/-! Descriptors (Table 15.2) -/

/-- The operands of a descriptor. -/
structure DDesc where
  w : List Nat
  own : Bool
  irq : Bool
  last : Bool
  keep : Bool
  mode : Nat
  len : Nat
  k : Nat
  esz : Nat
  count : Nat
  src : Nat
  dst : Nat
  stride : Nat
  fofs : Nat
  pitch : Nat
  next : Nat
  deriving DecidableEq, Repr

/-- The fields of the eight words. -/
def dDesc (w : List Nat) : DDesc :=
  let g := fun i => w.getD i 0
  ⟨w, bit (g 0) 31, bit (g 0) 30, bit (g 0) 29, bit (g 0) 27, bits (g 0) 24 3, g 1, bits (g 1) 26 6 + 1, 2 ^ bits (g 1) 24 2,
   bits (g 1) 0 16, g 2 + bits (g 3) 0 8 * 2 ^ 32, g 4 + bits (g 5) 0 8 * 2 ^ 32, bits (g 3) 16 16, bits (g 5) 16 16,
   bits (g 6) 0 13, g 7 * 32⟩

/-- Bytes, or field bytes of a reshuffle mode, that a descriptor moves: with KEEP, the 8 bytes of each plane read too (R359). -/
def dTotal (d : DDesc) : Nat :=
  if d.mode ≤ 1 then d.len
  else if d.mode ≤ 3 then d.k * d.count + (if d.mode = 2 ∧ d.keep = true then 64 * d.count else 0)
  else d.k * d.count * d.esz

/-- A byte range, as start and end. -/
abbrev Range := Nat × Nat
def rangeMeets (x y : Range) : Bool := decide (max x.1 y.1 < min x.2 y.2)

/-- Extent of the record fields from `base`, of `n` bytes each. -/
def recExtent (d : DDesc) (base n : Nat) : Range := (base + d.fofs, base + d.fofs + (d.k - 1) * d.stride + n)

/-- Extent of the element planes from `base`. -/
def elemExtent (d : DDesc) (base : Nat) : Range := (base, base + d.esz * (d.pitch * (d.count - 1) + d.k))

/-- Source and destination extents (R355). The destination planes that KEEP reads are not counted as source, since a
descriptor with KEEP could then never run (DEDUCED, log entry 50). -/
def srcExtent (d : DDesc) : Range :=
  if d.mode = 0 then (d.src, d.src + d.len)
  else if d.mode = 2 then recExtent d d.src d.count
  else if d.mode = 3 then (d.src, d.src + 64 * d.count)
  else if d.mode = 4 then recExtent d d.src (d.esz * d.count)
  else if d.mode = 5 then elemExtent d d.src
  else (0, 0)
def dstExtent (d : DDesc) : Range :=
  if d.mode ≤ 1 then (d.dst, d.dst + d.len)
  else if d.mode = 2 then (d.dst, d.dst + 64 * d.count)
  else if d.mode = 3 then recExtent d d.dst d.count
  else if d.mode = 4 then elemExtent d d.dst
  else recExtent d d.dst (d.esz * d.count)

/-- The register space as a range. -/
def regRange : Range := (0x1080000000, 0x1090000000)

/-- A spare bit is set. -/
def dSpare (w : List Nat) : Bool :=
  let g := fun i => w.getD i 0
  let m := bits (g 0) 24 3
  let resh := decide (2 ≤ m)
  bits (g 0) 0 16 != 0 || (bit (g 0) 27 && m != 2)
    || (resh && bits (g 1) 16 8 != 0) || ((m == 2 || m == 3) && bits (g 1) 24 2 != 0)
    || (m == 0 && bits (g 3) 8 24 != 0) || (resh && bits (g 3) 8 8 != 0)
    || bits (g 5) 8 8 != 0 || (!resh && bits (g 5) 16 16 != 0)
    || (decide (m < 4) && g 6 != 0) || bits (g 6) 13 19 != 0

/-- The check of R355: BADDESC, OVERLAP, or OK. -/
def dCheck (d : DDesc) : Nat :=
  let resh := decide (2 ≤ d.mode)
  let bad := dSpare d.w || decide (d.mode > 5)
    || (resh && (d.stride == 0 || d.count == 0))
    || ((d.mode == 2 || d.mode == 3) && decide (d.count > 64))
    || ((d.mode == 4 || d.mode == 5) && (decide (d.count > 2048) || decide (d.k > d.pitch)))
    || (d.mode == 2 && d.dst % 8 != 0) || (d.mode == 3 && d.src % 8 != 0)
    || (d.mode != 1 && rangeMeets (srcExtent d) regRange)
    || (d.mode != 1 && rangeMeets (dstExtent d) regRange)
    || (d.mode == 1 && rangeMeets (d.dst, d.dst + max 1 d.len) regRange && !((d.len == 4 || d.len == 8) && d.dst % d.len == 0))
  if bad then dsBADDESC
  else if resh && rangeMeets (srcExtent d) (dstExtent d) then dsOVERLAP
  else dsOK

/-! Halting, idling, fetching (R361, R362, R364) -/

/-- Address of the descriptor in progress. -/
def curAddr (s : State) (n : Nat) : Nat := 32 * rd s (DMA_CH_CURDESC_ADDR n)

/-- An IN or OUT chain fails for the cycle: event 358 (R358). -/
def chainFailed (n run : Nat) (s : State) : State :=
  if run = 1 then s |> wr DMA_CYCSTAT_INERR (setBits (rd s DMA_CYCSTAT_INERR) n 1 1) |> raise 358
  else if run = 2 then s |> wr DMA_CYCSTAT_OUTERR (setBits (rd s DMA_CYCSTAT_OUTERR) n 1 1) |> raise 358
  else s

/-- The last status of a channel; every status but OK and ABORTED counts as an error. -/
def dmaStatus (n st code resid : Nat) (s : State) : State :=
  s |> wr (DMA_CH_LASTSTAT_STATUS n) st |> wr (DMA_CH_LASTSTAT_FCODE n) code
    |> when (st != dsOK) (wr (DMA_CH_RESID_RESID n) resid)
    |> when (st != dsOK && st != dsABORTED) (fun t => t |> incSat (DMA_CH_CNT_ERRORS n) 1 |> glnAdd 55 1)
    |> when (st == dsOK) (incSat (DMA_CH_DESCS_DESCS n) 1)

/-- The channel halts; a status tells why, and event 356 is raised for it. -/
def dmaHalt (n : Nat) (ev : Bool) (s : State) : State :=
  let run := (dch s n).run
  s |> dcEnter n dcHALTED |> clr (DMA_CH_CTRL_PEND n) |> dset n (fun _ => DmaCh.idle) |> obDone n
    |> when ev (fun t => t |> raise 356 |> chainFailed n run)

/-- A byte as the DMA reads it: of the Q working area, only the committed copy (R109, R148). -/
def dmaByte (s : State) (a : Nat) : Byte :=
  if regionOf a = .image ∧ imgArea a = .qWork then overlaidByte s (a - imgQ) else memByteBy s a

/-- Bytes as the DMA reads them: those that lie in an outbound window are the host's, and free. -/
def dmaGet (a n : Nat) (s : State) : List Byte × State :=
  if regionOf a = .outbound ∨ regionOf (a + n - 1) = .outbound then
    let r := freeBytes n s
    (r.1.zipIdx.map (fun x => if regionOf (a + x.2) = .outbound then x.1 else dmaByte s (a + x.2)), r.2)
  else ((List.range n).map (fun i => dmaByte s (a + i)), s)

/-- The 32-bit words of a run of bytes. -/
def dmaWords (bs : List Byte) : List Nat := (List.range 8).map (fun i => leBytes ((bs.drop (4 * i)).take 4))

/-- The descriptor fetch of a channel ends without a descriptor, and nothing is written back (Table 15.4; DEDUCED, log entry
132). -/
def dmaFetchFails (n st code : Nat) (s : State) : State := s |> dmaStatus n st code 0 |> dmaHalt n true

/-- The words of a descriptor are there: it is checked, and a read of the host that its data need is issued. -/
def dmaFetched (n : Nat) (w : List Nat) (s : State) : State :=
  let d := dDesc w
  let st := dCheck d
  if !on s (DMA_CH_CFG_REUSE n) && !d.own then s |> dmaStatus n dsNOTOWN 0 (dTotal d) |> dmaHalt n true
  else s |> dset n (fun c => { c with
        words := some w, count := c.count + 1, ended := if st = dsOK then none else some (st, 0, dTotal d) })
    |> when (st == dsOK && d.mode != 1 && regionOf (srcExtent d).1 == .outbound && obCode s (srcExtent d).1 == fOK)
        (obIssue n none 0 (srcExtent d).1 (dTotal d))

/-- The channel fetches the descriptor at `a` and checks it; one in host memory is waited for. -/
def dmaFetch (n a : Nat) (s : State) : State :=
  let s0 := wr (DMA_CH_CURDESC_ADDR n) (a / 32) s
  if !on s (DMA_CH_CFG_RING n) && decide ((dch s n).count ≥ rd s DMA_CHAINLIM_LIMIT) then
    s0 |> dmaStatus n dsCHAINLIMIT 0 0 |> dmaHalt n true
  else if regionOf a = .outbound then
    if obCode s a = fOK then obIssue n none 0 a 32 s0 else dmaFetchFails n dsDESCREAD (obCode s a) s0
  else if memCode s a = fOK then dmaFetched n (dmaWords (dmaGet a 32 s0).1) s0
  else dmaFetchFails n dsDESCREAD (memCode s a) s0

/-- The channel waits for a descriptor in host memory. -/
def dmaFetching (s : State) (n : Nat) : Bool :=
  dcState s n == dcACTIVE && (dch s n).words.isNone && !(dch s n).abort && obWaits s n

/-- A descriptor that the channel waits for arrives from the host with free words, unless the read is to be issued again. -/
def dmaArrive (n : Nat) (s : State) : State :=
  if dmaFetching s n = true ∧ obRetrying s n = false then
    let r := freeBytes 32 s
    r.2 |> obDone n |> dmaFetched n (dmaWords r.1)
  else s

/-- Address of a ring's descriptor at HEAD. -/
def dmaRingAddr (s : State) (n : Nat) : Nat := 32 * rd s (DMA_CH_RING_BASE n) + 32 * rd s (DMA_CH_IDX_HEAD n)

/-- The chain of a run (R357). -/
def chainSel (s : State) (n run : Nat) : Nat :=
  let j := rd s (DMA_CH_CFG_JCH n)
  if run = 0 ∨ on s (DMA_CH_CFG_BUFSEL n) = false ∨ on s (JLA_CTRL_EN j) = false then 0
  else if run = 1 then 1 - rd s (JLA_STATUS_RXBUF j) else 1 - rd s (JLA_STATUS_TXBUF j)

/-- An IDLE channel begins a run. -/
def dmaBegin (n run : Nat) (s : State) : State :=
  if on s (DMA_CH_CFG_RING n) then
    if rd s (DMA_CH_IDX_HEAD n) = rd s (DMA_CH_IDX_TAIL n) then s
    else s |> dcEnter n dcACTIVE |> dset n (fun _ => DmaCh.idle) |> dmaFetch n (dmaRingAddr s n)
  else s |> dcEnter n dcACTIVE |> dset n (fun _ => { DmaCh.idle with run := run })
    |> dmaFetch n (32 * rd s (DMA_CH_CHAIN_BASE n (chainSel s n run)))

/-- A run ends: IDLE, and a pending start is taken. -/
def dmaIdle (n : Nat) (s : State) : State :=
  let pr := (dch s n).pendRun
  let pend := on s (DMA_CH_CTRL_PEND n)
  s |> dcEnter n dcIDLE |> clr (DMA_CH_CTRL_PEND n) |> dset n (fun _ => DmaCh.idle) |> when pend (dmaBegin n pr)

/-! Starts (R356, R357) -/

/-- A start of a chain-mode channel, by GO, doorbell or cycle trigger. -/
def dmaStart (n run : Nat) (s : State) : State :=
  let st := dcState s n
  if st = dcOFF ∨ st = dcHALTED then chainFailed n run s
  else if st = dcACTIVE then
    if on s (DMA_CH_CTRL_PEND n) then s |> incSat (DMA_CH_CNT_MERGED n) 1 |> raise 357 |> chainFailed n run
    else s |> set1 (DMA_CH_CTRL_PEND n) |> dset n (fun c => { c with pendRun := run })
  else dmaBegin n run s

/-- GO: a start of a chain-mode channel. -/
def dmaGo (n : Nat) (s : State) : State := if on s (DMA_CH_CFG_RING n) then s else dmaStart n 0 s

def execDmaGo (w : Writer) (n : Fin 16) (s : State) : Out := .next (gateWrite w (DMA_CH_CTRL_GO n) 1 (dmaGo n) s)

/-- TAIL of a channel: a value at or above ENTRIES is discarded in ring mode; an IDLE ring channel starts. -/
def dmaTail (n tail : Nat) (s : State) : State :=
  if !on s (DMA_CH_CFG_RING n) then wr (DMA_CH_IDX_TAIL n) tail s
  else if tail ≥ rd s (DMA_CH_RING_ENTRIES n) then s
  else s |> wr (DMA_CH_IDX_TAIL n) tail |> when (dcState s n == dcIDLE) (dmaBegin n 0)

def execDmaTailWrite (w : Writer) (n : Fin 16) (tail : BitVec 12) (s : State) : Out :=
  .next (gateWrite w (DMA_CH_IDX_TAIL n) tail.toNat (dmaTail n tail.toNat) s)

/-- A doorbell of channel n: a start of an OFF or HALTED channel, and a TAIL out of range, are recorded. -/
def dmaDoorbell (n idx : Nat) (s : State) : State :=
  let st := dcState s n
  if st = dcOFF ∨ st = dcHALTED then doorbellDiscard (64 + n) s
  else if on s (DMA_CH_CFG_RING n) then
    if idx ≥ rd s (DMA_CH_RING_ENTRIES n) then doorbellDiscard (64 + n) s else dmaTail n idx s
  else dmaStart n 0 s

/-- The doorbells kept in Drowse are served (R310). -/
def dmaServeKept (s : State) : State :=
  (List.range 16).foldl (fun t n =>
    let k := rd t (I.DMA_DBKEPT n)
    if k = 0 then t else t |> clr (I.DMA_DBKEPT n) |> dmaDoorbell n (k - 1)) s

/-- The channels with a cycle trigger start their chains. -/
def dmaTrigger (run : Nat) (s : State) : State :=
  (List.range 16).foldl (fun t n =>
    when (!on t (DMA_CH_CFG_RING n) && rd t (DMA_CH_CFG_TRIG n) == run) (dmaStart n run) t) s

/-- Every IN chain has ended: no channel with TRIG = IN is ACTIVE or has an IN start pending. -/
def dmaInDone (s : State) : Bool :=
  (List.range 16).all (fun n => !(rd s (DMA_CH_CFG_TRIG n) == 1 && !on s (DMA_CH_CFG_RING n)
    && (dcState s n == dcACTIVE || (on s (DMA_CH_CTRL_PEND n) && (dch s n).pendRun == 1))))

/-! Moving data -/

/-- One chunk of a write by the DMA, and its fabric code. -/
def dmaPut (n a : Nat) (bs : List Byte) (s : State) : State × Nat :=
  if regionOf a = .outbound then obWrite n a bs s else memWriteBy .dma a bs s

/-- Code of a read by the DMA. -/
def dmaReadCode (s : State) (a : Nat) : Nat := if regionOf a = .outbound then obCode s a else memCode s a

/-- Chunks (offset, length) of a transfer that cross no 256-byte boundary of the source or the destination (R359). -/
def bursts (src dst len : Nat) : Nat → Nat → List (Nat × Nat)
  | 0, _ => []
  | fuel + 1, o =>
    if o ≥ len then []
    else
      let n := min (len - o) (min (256 - (src + o) % 256) (256 - (dst + o) % 256))
      (o, n) :: bursts src dst len fuel (o + n)

/-- Progress of a transfer: bytes moved, the code that ended it, whether it goes on, the state. -/
structure Progress where
  moved : Nat
  code : Nat
  go : Bool
  s : State

/-- The next burst is issued: the transfer has not failed and stays within `limit` bytes. -/
def burstGoes (limit len : Nat) (p : Progress) : Bool := p.go && p.code == fOK && decide (p.moved + len ≤ limit)

/-- A burst has been answered. -/
def burstDone (len : Nat) (p : Progress) (r : State × Nat) : Progress :=
  if r.2 = fOK then ⟨p.moved + len, fOK, true, r.1⟩ else ⟨p.moved, r.2, false, r.1⟩

/-- One burst of a COPY: the data come from `data`, as read before the first write. -/
def copyBurst (n src dst : Nat) (data : List Byte) (p : Progress) (c : Nat × Nat) : Progress :=
  let rc := dmaReadCode p.s (src + c.1)
  if rc ≠ fOK then { p with code := rc, go := false }
  else burstDone c.2 p (dmaPut n (dst + c.1) ((data.drop c.1).take c.2) p.s)

/-- COPY until the first burst that would pass `limit` bytes, downwards where the ranges overlap and DST > SRC (R351). -/
def copyRun (n : Nat) (d : DDesc) (limit : Nat) (s : State) : Progress :=
  let cs := bursts d.src d.dst d.len (d.len + 1) 0
  let down := rangeMeets (d.src, d.src + d.len) (d.dst, d.dst + d.len) && decide (d.dst > d.src)
  let order := if down then cs.reverse else cs
  let r := dmaGet d.src d.len s
  order.foldl (fun p c => if burstGoes limit c.2 p then copyBurst n d.src d.dst r.1 p c else { p with go := false }) ⟨0, fOK, true, r.2⟩

/-- The pattern byte of a FILL at address a of the destination range: pattern byte a mod 8 (R352; DEDUCED, log entry 62). -/
def fillByte (d : DDesc) (a : Nat) : Byte := BitVec.ofNat 8 (bits (d.w.getD (2 + a % 8 / 4) 0) (8 * (a % 4)) 8)

/-- FILL of memory until the first burst that would pass `limit` bytes. -/
def fillRun (n : Nat) (d : DDesc) (limit : Nat) (s : State) : Progress :=
  (bursts 0 d.dst d.len (d.len + 1) 0).foldl (fun p c =>
    if burstGoes limit c.2 p then
      burstDone c.2 p (dmaPut n (d.dst + c.1) ((List.range c.2).map (fun i => fillByte d (d.dst + c.1 + i))) p.s)
    else { p with go := false }) ⟨0, fOK, true, s⟩

/-- Bit b of the field of record k from `base`. -/
def fieldAddr (d : DDesc) (base k : Nat) : Nat := base + k * d.stride + d.fofs

/-- A write in pieces that cross no 256-byte boundary, so that each is judged by the area it lies in (R189, R359). -/
def pieces (w : Nat × List Byte) : List (Nat × List Byte) :=
  (bursts w.1 w.1 w.2.length w.2.length 0).map (fun c => (w.1 + c.1, (w.2.drop c.1).take c.2))

/-- Writes of a list of (address, bytes), with the first code that is not OK. -/
def putAll (n : Nat) (ws : List (Nat × List Byte)) (s : State) : State × Nat :=
  ((ws.map pieces).flatten).foldl (fun r w =>
    let x := dmaPut n w.1 w.2 r.1
    (x.1, if r.2 ≠ fOK then r.2 else x.2)) (s, fOK)

/-- What a reshuffle mode writes (R353, R354), its source read by `get` and the planes that KEEP keeps by `keep`: address and
bytes in order. -/
def reshuffleBy (get keep : Nat → Nat → List Byte) (d : DDesc) : List (Nat × List Byte) :=
  let byte := fun a => (get a 1).getD 0 0
  if d.mode = 2 then
    (List.range (8 * d.count)).map (fun b =>
      let old := if d.keep then leBytes (keep (d.dst + 8 * b) 8) else 0
      let v := (List.range d.k).foldl (fun v k => setBits v k 1 (b2n ((byte (fieldAddr d d.src k + b / 8)).getLsbD (b % 8)))) old
      (d.dst + 8 * b, bytesLE 8 v))
  else if d.mode = 3 then
    let planes := (List.range (8 * d.count)).map (fun b => leBytes (get (d.src + 8 * b) 8))
    (List.range d.k).map (fun k =>
      (fieldAddr d d.dst k, (List.range d.count).map (fun j =>
        BitVec.ofNat 8 ((List.range 8).foldl (fun v i => v + b2n (bit (planes.getD (8 * j + i) 0) k) * 2 ^ i) 0))))
  else if d.mode = 4 then
    ((List.range d.count).map (fun j => (List.range d.k).map (fun k =>
      (d.dst + d.esz * (d.pitch * j + k), get (fieldAddr d d.src k + d.esz * j) d.esz)))).flatten
  else
    ((List.range d.count).map (fun j => (List.range d.k).map (fun k =>
      (fieldAddr d d.dst k + d.esz * j, get (d.src + d.esz * (d.pitch * j + k)) d.esz)))).flatten

/-- The bytes of an extent, read once, as a source for parts of it. -/
def extentGet (x : Range) (s : State) : (Nat → Nat → List Byte) × State :=
  let r := dmaGet x.1 (x.2 - x.1) s
  (fun a n => (r.1.drop (a - x.1)).take n, r.2)

/-- What a reshuffle mode writes, from the extents it reads. -/
def reshuffle (d : DDesc) (s : State) : List (Nat × List Byte) × State :=
  let src := extentGet (srcExtent d) s
  let old := if d.keep then extentGet (dstExtent d) src.2 else (fun _ _ => [], src.2)
  (reshuffleBy src.1 old.1 d, old.2)

/-- The part of a plane's or a record's write that counts as field bytes, in eighths of a byte (R359). -/
def fieldEighths (d : DDesc) (w : Nat × List Byte) : Nat :=
  if d.mode = 2 then d.k + (if d.keep then 64 else 0) else 8 * w.2.length

/-- The writes of a reshuffle mode in order, each answered with OK while no more than `limit` field bytes are: state, code of the
one that failed, eighths of field bytes answered, and the writes left. -/
structure Reshuffled where
  s : State
  code : Nat
  moved : Nat
  left : List (Nat × List Byte)

def reshufflePut (n : Nat) (d : DDesc) (limit : Nat) : List (Nat × List Byte) → Nat → State → Reshuffled
  | [], m, s => ⟨s, fOK, m, []⟩
  | w :: ws, m, s =>
    if m + fieldEighths d w > 8 * limit then ⟨s, fOK, m, w :: ws⟩
    else
      let r := putAll n [w] s
      if r.2 = fOK then reshufflePut n d limit ws (m + fieldEighths d w) r.1 else ⟨r.1, r.2, m, w :: ws⟩

/-- Destination bytes of a reshuffle mode left undefined: each takes a free byte (R363). -/
def reshuffleUndefined (n : Nat) (ws : List (Nat × List Byte)) (s : State) : State :=
  ws.foldl (fun t w =>
    let r := freeBytes w.2.length t
    (putAll n [(w.1, r.1)] r.2).1) s

/-- Field bytes whose writes were not answered with OK (R363). -/
def reshuffleResid (d : DDesc) (r : Reshuffled) : Nat := dTotal d - r.moved / 8

/-- The data phase of a descriptor has ended. -/
def dmaEnded (n st code resid : Nat) (s : State) : State := dset n (fun c => { c with ended := some (st, code, resid) }) (obDone n s)

/-- Addresses whose codes tell whether a reshuffle mode can read its source: the first and last byte of each record field, or of
each plane. -/
def srcPoints (d : DDesc) : List Nat :=
  if d.mode = 2 ∨ d.mode = 4 then
    (List.range d.k).flatMap (fun k => [fieldAddr d d.src k, fieldAddr d d.src k + (if d.mode = 2 then d.count else d.esz * d.count) - 1])
  else if d.mode = 3 then (List.range (8 * d.count)).map (fun b => d.src + 8 * b)
  else (List.range d.count).flatMap (fun j => [d.src + d.esz * d.pitch * j, d.src + d.esz * (d.pitch * j + d.k) - 1])

/-- A reshuffle mode executed; what a code that is not OK leaves unanswered is undefined in the destination. -/
def reshuffleRun (n : Nat) (d : DDesc) (s : State) : State :=
  let code := ((srcPoints d).map (dmaReadCode s)).find? (fun c => c != fOK) |>.getD fOK
  let p := reshuffle d s
  if code ≠ fOK then p.2 |> reshuffleUndefined n p.1 |> dmaEnded n dsFABRIC code (dTotal d)
  else
    let r := reshufflePut n d (dTotal d) p.1 0 p.2
    if r.code = fOK then dmaEnded n dsOK fOK 0 r.s
    else r.s |> reshuffleUndefined n r.left |> dmaEnded n dsFABRIC r.code (reshuffleResid d r)

/-- The channel has a descriptor whose data are to be moved. -/
def dmaReady (s : State) (n : Nat) : Option DDesc :=
  if dcState s n = dcACTIVE ∧ (dch s n).ended.isNone ∧ (dch s n).abort = false then (dch s n).words.map dDesc else none

/-- A channel of higher priority has bursts ready (R359); one that waits for the host has none. -/
def dmaOutranked (s : State) (n : Nat) : Bool :=
  (List.range 16).any (fun m => m != n && decide (rd s (DMA_CH_CFG_PRIO m) > rd s (DMA_CH_CFG_PRIO n))
    && (dmaReady s m).isSome && !obWaits s m)

/-- The data of the descriptor in progress, if it is of the mode and its outbound read does not wait to be issued again; one that
the channel waits for arrives first. -/
def dmaMode (n mode : Nat) (act : DDesc → State → State) (s0 : State) : State :=
  let s := dmaArrive n s0
  match dmaReady s n with
  | some d => if d.mode = mode ∧ dmaOutranked s n = false ∧ obRetrying s n = false then act d s else s
  | none => s

/-- COPY. -/
def copyAct (n : Nat) (d : DDesc) (s : State) : State :=
  let p := copyRun n d d.len s
  dmaEnded n (if p.code = fOK then dsOK else dsFABRIC) p.code (d.len - p.moved) p.s

def execCopy (n : Fin 16) (s : State) : Out := .next (dmaMode n 0 (copyAct n) s)
def execTranspose (n : Fin 16) (s : State) : Out := .next (dmaMode n 2 (reshuffleRun n) s)
def execUntranspose (n : Fin 16) (s : State) : Out := .next (dmaMode n 3 (reshuffleRun n) s)
def execDeinterleave (n : Fin 16) (s : State) : Out := .next (dmaMode n 4 (reshuffleRun n) s)
def execInterleave (n : Fin 16) (s : State) : Out := .next (dmaMode n 5 (reshuffleRun n) s)

/-! Completion and write-back (R360, R365) -/

/-- Word 0 with STATUS and OWN = 0. -/
def wbWord (d : DDesc) (st : Nat) : Nat := setBits (setBits (d.w.getD 0 0) 16 8 st) 31 1 0

/-- The write-back of word 0, and whether it succeeded; a chain with REUSE writes nothing back. -/
def writeBack (n : Nat) (d : DDesc) (st : Nat) (ok : Bool) (s : State) : Bool × State :=
  if on s (DMA_CH_CFG_REUSE n) then (true, s)
  else if !ok then (false, s)
  else
    let r := dmaPut n (curAddr s n) (bytesLE 4 (wbWord d st)) s
    (r.2 == fOK, r.1)

/-- HEAD advances past a descriptor of a ring. -/
def headNext (n : Nat) (s : State) : State :=
  when (on s (DMA_CH_CFG_RING n)) (wr (DMA_CH_IDX_HEAD n)
    ((rd s (DMA_CH_IDX_HEAD n) + 1) % max 1 (rd s (DMA_CH_RING_ENTRIES n)))) s

/-- The channel goes on after a descriptor that ended OK. -/
def dmaNext (n : Nat) (d : DDesc) (s : State) : State :=
  if on s (DMA_CH_CFG_RING n) then
    if rd s (DMA_CH_IDX_HEAD n) = rd s (DMA_CH_IDX_TAIL n) then dmaIdle n s
    else s |> dset n (fun c => { c with words := none, ended := none }) |> dmaFetch n (dmaRingAddr s n)
  else if d.last then dmaIdle n s
  else s |> dset n (fun c => { c with words := none, ended := none }) |> dmaFetch n d.next

/-- The interrupt of a completed descriptor (R367). -/
def dmaIrq (n : Nat) (s : State) : State :=
  s |> wr DMA_IRQSTAT_IRQ (setBits (rd s DMA_IRQSTAT_IRQ) n 1 1) |> raise (352 + n / 4)

/-- DESCRIPTOR_COMPLETE; `ok`: the write-back is answered in time. -/
def descComplete (n : Nat) (d : DDesc) (e : Nat × Nat × Nat) (ok : Bool) (s : State) : State :=
  let st := e.1
  let (wb, s1) := writeBack n d st ok s
  let s2 := dmaStatus n st e.2.1 e.2.2 s1
  if !wb then s2 |> set1 (DMA_CH_LASTSTAT_WBFAIL n) |> raise (360 + n) |> dmaHalt n (st != dsOK)
  else
    let s3 := headNext n s2
    if st ≠ dsOK then dmaHalt n true s3
    else s3 |> when d.irq (dmaIrq n) |> dmaNext n d

def execDescriptorComplete (n : Fin 16) (ok : Bool) (s0 : State) : Out :=
  let s := dmaArrive n s0
  .next (match (dch s n).words, (dch s n).ended with
    | some w, some e => if dcState s n = dcACTIVE ∧ (dch s n).abort = false then descComplete n (dDesc w) e ok s else s
    | _, _ => s)

/-! Abort, errors, enabling (R347, R362, R363, R364) -/

/-- Part of a descriptor's data had moved when it stopped: at most `moved` bytes, or field bytes; what a reshuffle mode had not
written yet is undefined in its destination. The residue (R363). -/
def dmaPartial (n : Nat) (d : DDesc) (moved : Nat) (s : State) : Nat × State :=
  if d.mode = 0 then
    let p := copyRun n d moved s
    (d.len - p.moved, p.s)
  else if d.mode = 1 ∧ rangeMeets (dstExtent d) regRange = false then
    let p := fillRun n d moved s
    (d.len - p.moved, p.s)
  else if d.mode = 1 then (d.len, s)
  else
    let p := reshuffle d s
    let r := reshufflePut n d moved p.1 0 p.2
    (reshuffleResid d r, reshuffleUndefined n r.left r.s)

/-- ABORT of an ACTIVE channel. -/
def dmaAbort (n : Nat) (s : State) : State := when (dcState s n == dcACTIVE) (dset n (fun c => { c with abort := true })) s

def execDmaAbort (w : Writer) (n : Fin 16) (s : State) : Out := .next (gateWrite w (DMA_CH_CTRL_ABORT n) 1 (dmaAbort n) s)

/-- The channel is OFF, and a pending enable is taken (R75). -/
def dmaOff (n : Nat) (s : State) : State :=
  s |> dcEnter n dcOFF |> dset n (fun _ => DmaCh.idle) |> clr (DMA_CH_CTRL_BUSY_OFF n) |> clr (DMA_CH_CTRL_PEND n)
    |> when (on s (DMA_CH_CTRL_ENPEND n)) (fun t => t |> clr (DMA_CH_CTRL_ENPEND n) |> set1 (DMA_CH_CTRL_EN n)
        |> when (on t DMA_CTRL_EN) (dcEnter n dcIDLE))

/-- The abort completes: the current descriptor is written back ABORTED. A write-back that fails halts the channel (R365). -/
def abortComplete (n moved : Nat) (ok : Bool) (s : State) : State :=
  let c := dch s n
  let run := c.run
  let p := match c.words with
    | none => (true, s)
    | some w =>
      let d := dDesc w
      let (resid, t) := match c.ended with
        | some e => (e.2.2, s)
        | none => dmaPartial n d moved s
      let (wb, u) := writeBack n d dsABORTED ok t
      (wb, u |> dmaStatus n dsABORTED 0 resid |> when (!wb) (fun v => v |> set1 (DMA_CH_LASTSTAT_WBFAIL n) |> raise (360 + n))
        |> when wb (headNext n))
  p.2 |> clr (DMA_CH_CTRL_PEND n) |> dset n (fun _ => DmaCh.idle) |> obDone n |> chainFailed n run
    |> (fun t => if on t (DMA_CH_CTRL_EN n) && on t DMA_CTRL_EN then dcEnter n (if p.1 then dcIDLE else dcHALTED) t else dmaOff n t)

def execDmaAbortComplete (n : Fin 16) (moved : Nat) (ok : Bool) (s : State) : Out :=
  .next (if (dch s n).abort then abortComplete n moved ok s else s)

/-- DMA_BUS_TIMEOUT: an access of the descriptor in progress, or the fetch of one from the host, stayed unanswered for 64 µs; a read
that was issued again counts from then. -/
def execDmaBusTimeout (n : Fin 16) (moved : Nat) (s : State) : Out :=
  .next (if obWaits s n = true ∧ obAged s n 64000 = false then s
    else if dmaFetching s n then dmaFetchFails n dsBUSTIMEOUT 0 s
    else match dmaReady s n with
    | some d => let p := dmaPartial n d moved s
        dmaEnded n dsBUSTIMEOUT 0 p.1 p.2
    | none => s)

/-- CLRHALT. -/
def dmaClearHalt (n : Nat) (s : State) : State := when (dcState s n == dcHALTED) (dcEnter n dcIDLE) s

def execDmaClearHalt (w : Writer) (n : Fin 16) (s : State) : Out :=
  .next (gateWrite w (DMA_CH_CTRL_CLRHALT n) 1 (dmaClearHalt n) s)

/-- EN of a channel: an ACTIVE channel is aborted and turns OFF when the abort completes. -/
def dmaChannelEnable (n : Nat) (en : Bool) (s : State) : State :=
  if en then
    if on s (DMA_CH_CTRL_BUSY_OFF n) then set1 (DMA_CH_CTRL_ENPEND n) s
    else s |> set1 (DMA_CH_CTRL_EN n) |> when (on s DMA_CTRL_EN && dcState s n == dcOFF) (dcEnter n dcIDLE)
  else
    let s1 := s |> clr (DMA_CH_CTRL_ENPEND n) |> clr (DMA_CH_CTRL_EN n)
    if dcState s n = dcACTIVE then s1 |> set1 (DMA_CH_CTRL_BUSY_OFF n) |> dmaAbort n
    else s1 |> dcEnter n dcOFF |> dset n (fun _ => DmaCh.idle)

def execDmaChannelEnable (w : Writer) (n : Fin 16) (en : Bool) (s : State) : Out :=
  .next (gateWrite w (DMA_CH_CTRL_EN n) (b2n en) (dmaChannelEnable n en) s)

/-- EN of the block: while it is disabled every channel is OFF. -/
def dmaEnable (en : Bool) (s : State) : State :=
  if en then
    if on s DMA_CTRL_BUSY_OFF then set1 DMA_CTRL_ENPEND s
    else (List.range 16).foldl (fun t n => when (on t (DMA_CH_CTRL_EN n) && dcState t n == dcOFF) (dcEnter n dcIDLE) t) (set1 DMA_CTRL_EN s)
  else
    let s1 := s |> clr DMA_CTRL_ENPEND |> when (on s DMA_CTRL_EN) (fun t => t |> clr DMA_CTRL_EN |> set1 DMA_CTRL_BUSY_OFF)
    (List.range 16).foldl (fun t n =>
      if dcState t n = dcACTIVE then t |> set1 (DMA_CH_CTRL_BUSY_OFF n) |> dmaAbort n
      else t |> dcEnter n dcOFF |> dset n (fun _ => DmaCh.idle)) s1

end Sys2Proof.Machine
end

