-- ==== Sys2Proof/Machine/Jalora.lean ====
section
/-! DEFINITION. Jalora channels (chapters 9 and 10): enable checks, enabling and disabling, the module's protocol states, transmit
buffers, mailbox, QUENCH registers, delay trims, grants, links and PoDL. -/

namespace Sys2Proof.Machine

open R

/-! Enable checks (Table 9.2, R223, R245, R442) -/

/-- Some pair of different indices below `n` that both count and clash. -/
def anyPair (n : Nat) (p : Nat → Nat → Bool) : Bool := (List.range n).any (fun i => (List.range i).any (fun j => p i j))

/-- Condition 1 TIMING fails. -/
def cfgTiming (s : State) (c : Nat) : Bool :=
  let apo := rd s (JLA_TIMING_APO c)
  let lr := rd s (JLA_ROUNDCFG_ROUNDLEN c)
  let prec := rd s (JLA_TIMING_PREC c)
  decide (apo < jPmt s c) || decide (rd s (JLA_DYNCFG_MINISLOT c) < apo + jPmt s c) || decide (lr < 1250 ∨ 100000 < lr)
    || decide (prec < 10 ∨ 1000 < prec)
    || (rd s PAIR_STATUS_POS != 3 && decide (rd s (JLA_SLOTCFG_SLOTLEN c) + apo < 15))

/-- Condition 2 LAYOUT fails. -/
def cfgLayout (s : State) (c : Nat) : Bool :=
  let ns := rd s (JLA_SLOTCFG_NSTATIC c)
  let used := ns * rd s (JLA_SLOTCFG_SLOTLEN c) + rd s (JLA_DYNCFG_NMINI c) * rd s (JLA_DYNCFG_MINISLOT c)
  decide (rd s (JLA_ROUNDCFG_ROUNDLEN c) < used + 20) || decide (ns < 2 ∨ 2047 < ns)
    || decide (rd s (JLA_OUTSLOT_FIRST c) < 3)
    || decide (ns + 1 < rd s (JLA_OUTSLOT_FIRST c) + rd s (JLA_OUTSLOT_COUNT c))

/-- Condition 3 CAPACITY fails. -/
def cfgCapacity (s : State) (c : Nat) : Bool :=
  let cap := jCap s c
  decide (cap < 34) || (decide (rd s (JLA_OUTSLOT_COUNT c) > 0) && decide (cap < 72))
    || (validNodes s c).any (fun n => decide (cap < nodeLen s c n) || decide (rd s (JLA_RECSZ c) < 16 + nodeLen s c n))

/-- Condition 4 NODETAB fails (R223). -/
def cfgNodes (s : State) (c : Nat) : Bool :=
  let v := nodeValid s c
  (validNodes s c).any (fun n =>
    moduleSlot s c (nodeSlot s c n) || decide (rd s (JLA_SLOTCFG_NSTATIC c) < nodeSlot s c n)
      || (decide (nodeOutCnt s c n > 0) && decide (8 * rd s (JLA_OUTSLOT_COUNT c) < nodeOutPos s c n + nodeOutCnt s c n))
      || nodeAttach s c n == 0 || nodeLostN s c n == 0)
  || anyPair (nodeCount s c) (fun i j => v i && v j &&
      (nodeSlot s c i == nodeSlot s c j || (nodeDynId s c i != 0 && nodeDynId s c i == nodeDynId s c j)
        || (decide (0 < nodeOutCnt s c i) && decide (0 < nodeOutCnt s c j) && decide (nodeOutPos s c i < nodeOutPos s c j + nodeOutCnt s c j)
            && decide (nodeOutPos s c j < nodeOutPos s c i + nodeOutCnt s c i))))

/-- Condition 5 SYNC fails (R245). -/
def cfgSync (s : State) (c : Nat) : Bool :=
  let l := syncList s c
  l.any (fun sl => (nodeOfSlot s c sl).isNone) || anyPair l.length (fun i j => l.getD i 0 == l.getD j 0)

/-- The chain of upstream neighbours of entry n reaches the module port. -/
def chainEnds (s : State) (c path : Nat) : Nat → Nat → Bool
  | 0, _ => false
  | fuel + 1, n =>
    delayUp s c path n == 0 || (match nodeOfSlot s c (delayUp s c path n) with
      | some u => chainEnds s c path fuel u
      | none => false)

/-- Condition 6 DELAY fails (R245). -/
def cfgDelay (s : State) (c : Nat) : Bool :=
  (List.range (nodeCount s c)).any (fun n => (List.range 2).any (fun path =>
    (delayUp s c path n != 0 && (match nodeOfSlot s c (delayUp s c path n) with
      | some u => !bit (nodeAttach s c u) path
      | none => true))
    || !chainEnds s c path 512 n))

/-- CFGERR: the first condition that fails; 0: none. -/
def cfgErr (s : State) (c : Nat) : Nat :=
  if cfgTiming s c then 1 else if cfgLayout s c then 2 else if cfgCapacity s c then 3 else if cfgNodes s c then 4
  else if cfgSync s c then 5 else if cfgDelay s c then 6 else 0

/-! Enabling and disabling (R212, R234, R75) -/

/-- Every trim is cleared (R240). -/
def trimsClear (c : Nat) (s : State) : State :=
  (List.range (nodeCount s c)).foldl (fun t n => jlaStore (delayAddr t c n + 12) [0, 0, 0, 0] t) s

/-- The enable after its checks: LISTEN, or refused with CFGERR and event 15. -/
def jlaEnable (c : Nat) (s : State) : State :=
  let e := cfgErr s c
  if e ≠ 0 then s |> wr (JLA_CTRL_CFGERR c) e |> jraise c 15
  else
    s |> clr (JLA_CTRL_CFGERR c) |> set1 (JLA_CTRL_EN c) |> wr (JLA_SYNCSTAT_STATE c) jlLISTEN |> clr (I.JLA_RDY c)
      |> jset c (JlaCh.fresh []) |> nodeCounts c

/-- A write of 1 to EN: whatever comes of it, it clears the trims (R240). -/
def jlaEnableWrite (c : Nat) (s0 : State) : State :=
  let s := trimsClear c s0
  if on s (JLA_CTRL_EN c) then clr (JLA_CTRL_DISPEND c) s
  else if on s (JLA_CTRL_BUSY_OFF c) then set1 (JLA_CTRL_ENPEND c) s
  else jlaEnable c s

/-- A write of 0 to EN. -/
def jlaDisableWrite (c : Nat) (s : State) : State :=
  s |> clr (JLA_CTRL_ENPEND c) |> when (on s (JLA_CTRL_EN c)) (set1 (JLA_CTRL_DISPEND c))

def execJlaEnable (w : Writer) (c : Fin 4) (s : State) : Out :=
  .next (gateWrite w (JLA_CTRL_EN c) 1 (jlaEnableWrite c) s)
def execJlaDisable (w : Writer) (c : Fin 4) (s : State) : Out :=
  .next (gateWrite w (JLA_CTRL_EN c) 0 (jlaDisableWrite c) s)

/-- START is refused with ALIGN while a configured channel is not aligned, its period does not divide P, or its phase is not
CYC_PHASE (R133, R247). -/
def jlaAlignBad (s : State) : Bool :=
  (List.range 4).any (fun c => jlaConfigured s c &&
    (!on s (JLA_SYNCSTAT_ALIGNED c) || jRoundNs s c == 0 || 1000 * rd s CYC_PERIOD % jRoundNs s c != 0
      || rd s CYC_PERIOD == 0 || rd s (JLA_PHASE c) != rd s CYC_PHASE))

/-! Protocol states of the module (R250 to R253) -/

/-- Entry to COLDSTART: network time equals time unit time, event 16. -/
def coldstartEnter (c : Nat) (s : State) : State :=
  s |> when (jState s c == jlLISTEN && (jch s c).heard) (jraise c 18)
    |> jset c (fun j => { j with nt := now s, live := false, heard := false, clean := 0, limitPrev := false, rot := 0, firstRot := true })
    |> wr (JLA_SYNCSTAT_STATE c) jlCOLD |> jraise c 16 |> incSat (JLA_STARTCNT_COLDSTART c) 1 |> alignedSet c 0

/-- LISTEN_TIMEOUT: 2 × LR have passed in LISTEN. -/
def execListenTimeout (c : Fin 4) (s : State) : Out := .next (if jState s c = jlLISTEN then coldstartEnter c s else s)

/-- BACKOFF_END. -/
def execBackoffEnd (c : Fin 4) (s : State) : Out := .next (if jState s c = jlBACK then coldstartEnter c s else s)

/-- COLDSTART_COMPLETE after 8 consecutive rounds without collision. -/
def execColdstartComplete (c : Fin 4) (s : State) : Out :=
  .next (if jState s c = jlCOLD ∧ (jch s c).clean ≥ 8 then wr (JLA_SYNCSTAT_STATE c) jlNORMAL s else s)

/-- RESTART_COMPLETE after 8 silent rounds, beside the rest of the round in which RESTART was entered. -/
def execRestartComplete (c : Fin 4) (s : State) : Out :=
  .next (if jState s c = jlRESTART ∧ (jch s c).silent ≥ 9 then
      s |> wr (JLA_SYNCSTAT_STATE c) jlLISTEN |> jset c (fun j => { j with live := false, heard := false })
    else s)

/-! Transmit buffers (R226) -/

/-- A buffer is made ready and its sequence number latched, or the write is refused with event 10. -/
def txReady (c b : Nat) (s : State) : State :=
  if on s (JLA_CTRL_EN c) && rd s (JLA_STATUS_TXBUF c) == b then jraise c 10 s
  else
    let q := rd s CKP_SEQ + rd s I.CKP_ISSUING
    s |> set1 (I.JLA_RDY c) |> wr (I.JLA_RDYBUF c) b |> clr (I.JLA_EMPTY c)
      |> jset c (fun j => if b = 0 then { j with txok := true, seq0 := q } else { j with txok := true, seq1 := q })

def execTxrdy (w : Writer) (c : Fin 4) (b : Fin 2) (s : State) : Out :=
  .next (gateWrite w (JLA_TXRDY_BUF c) b (txReady c b) s)

/-! Mailbox, QUENCH registers, counters (R230 to R232) -/

/-- MAILBOX_GO with LEN; ignored while BUSY = 1. -/
def mailboxGo (c len : Nat) (s : State) : State :=
  let n := min len 64
  s |> wr (JLA_MBOXCTL_LEN c) n
    |> when (!on s (JLA_MBOXCTL_BUSY c)) (fun t => t |> set1 (JLA_MBOXCTL_BUSY c) |> jset c (fun j => { j with mboxLen := n }))

def execMailboxGo (w : Writer) (c : Fin 4) (len : BitVec 7) (s : State) : Out :=
  .next (gateWrite w (JLA_MBOXCTL_GO c) 1 (mailboxGo c len.toNat) s)

/-- A QUENCH register set; MODE 3 reads back as 2. -/
def jlaQuenchSet (c n mode last first : Nat) (s : State) : State :=
  s |> wr (JLA_QUENCH_MODE c n) (min (mode % 4) 2) |> wr (JLA_QUENCH_LAST c n) last |> wr (JLA_QUENCH_FIRST c n) first

def execJlaQuenchWrite (w : Writer) (c : Fin 4) (n : Fin 8) (mode : Fin 4) (last first : BitVec 11) (s : State) : Out :=
  .next (gateWrites w [(JLA_QUENCH_MODE c n, mode), (JLA_QUENCH_LAST c n, last.toNat), (JLA_QUENCH_FIRST c n, first.toNat)]
    (fun taken t => jlaQuenchSet c n (takenValue taken (JLA_QUENCH_MODE c n) mode t)
      (takenValue taken (JLA_QUENCH_LAST c n) last.toNat t) (takenValue taken (JLA_QUENCH_FIRST c n) first.toNat t) t) s)

/-- JLA_COUNTER_CLEAR: at the next round start. -/
def execJlaCounterClear (w : Writer) (c : Fin 4) (s : State) : Out :=
  .next (gateWrite w (JLA_CNTCTL_CLR c) 1 (jset c (fun j => { j with clrPend := true })) s)

/-! Delay trims (R240) -/

/-- round(num / den), halves away from zero. -/
def roundDiv (num : Int) (den : Nat) : Int :=
  if num ≥ 0 then (2 * num + den) / (2 * den) else -((2 * -num + den) / (2 * den))

/-- The trim of node n on a path moves by half of the mean; event 24 where it saturates. -/
def trimAdjust (c n path : Nat) (sum : Int) (cnt : Nat) (s : State) : State :=
  if cnt < 4 ∨ sum.natAbs < 2 * cnt then s
  else
    let t := delayTrim s c path n + roundDiv (8 * sum) cnt
    s |> jlaStore (delayAddr s c n + 12 + 2 * path) (bytesLE 2 (ofSigned 16 (satSigned 16 t)))
      |> when (satSigned 16 t != t) (jraise c 24)

/-- DELAY_TRIM_UPDATE, every 16 rounds; in hold no trim is written. -/
def trimUpdate (c : Nat) (s : State) : State :=
  let l := (jch s c).samples
  (if on s (I.JLA_HOLD c) then s
    else l.foldl (fun t p => trimAdjust c (p.1 / 2) (p.1 % 2) p.2.1 p.2.2 t) s)
    |> jset c (fun j => { j with samples := [], trimDue := false })

def execDelayTrimUpdate (c : Fin 4) (s : State) : Out := .next (if (jch s c).trimDue then trimUpdate c s else s)

/-! Grants (R260) -/

/-- A grant ends by idling or revocation: event 27, the revocation page, and 64 rounds of release. -/
def grantEnd (c i : Nat) (s : State) : State :=
  let slot := claimSlot s c i
  s |> grantClear c i |> jset c (fun j => { j with releasing := j.releasing ++ [(slot, 0)] }) |> pageQueue c slot 0 0 |> jraise c 27

/-- GRANT_IDLE_EXPIRY of claim table entry i. -/
def execGrantIdleExpiry (c : Fin 4) (i : Fin 64) (s : State) : Out :=
  .next (if i.val < claimCount s c ∧ claimValid s c i = true ∧ claimIdle s c i ≥ rd s (JLA_CLAIMCFG_IDLE c)
      ∧ on s (I.JLA_HOLD c) = false then grantEnd c i s else s)

/-- CLAIM_REVOKE. -/
def execClaimRevoke (w : Writer) (c : Fin 4) (slot : BitVec 11) (s : State) : Out :=
  .next (gateWrite w (JLA_CLAIMREV_SLOT c) slot.toNat
    (fun t => match grantOf t c slot.toNat with | some i => grantEnd c i t | none => t) s)

/-- SLOT_RELEASE: 64 rounds after its grant ended the slot is free again. -/
def execSlotRelease (c : Fin 4) (slot : BitVec 11) (s : State) : Out :=
  .next (jset c (fun j => { j with releasing := j.releasing.filter (fun p => !(p.1 == slot.toNat && decide (p.2 ≥ 64))) }) s)

/-! Links (R235) -/

/-- JALORA_LINK_CHANGE of a path. -/
def execJaloraLinkChange (c : Fin 4) (path : Fin 2) (up : Bool) (s : State) : Out :=
  let f := if path.val = 0 then JLA_STATUS_LINKA c else JLA_STATUS_LINKB c
  .next (if on s f == up then s else s |> wr f (b2n up) |> jraise c (2 * path + b2n up))

/-! PoDL (R43, R44, R233) -/

/-- Table 9.9. -/
def pdOFF : Nat := 0
def pdDETECT : Nat := 1
def pdCLASS : Nat := 2
def pdPOWERED : Nat := 3
def pdFAULT : Nat := 4
def pdREFUSED : Nat := 5
def pdUNDERVOLT : Nat := 6

def podlState (c path : Nat) : Fld := if path = 0 then JLA_PODLSTAT_STATEA c else JLA_PODLSTAT_STATEB c
def podlClass (c path : Nat) : Fld := if path = 0 then JLA_PODLSTAT_CLASSA c else JLA_PODLSTAT_CLASSB c
def podlCurrent (c path : Nat) : Fld := if path = 0 then JLA_PODLSTAT_IA c else JLA_PODLSTAT_IB c
def podlEn (c path : Nat) : Fld := if path = 0 then JLA_PODL_ENA c else JLA_PODL_ENB c

/-- A path without power enters a state. -/
def podlUnpowered (c path st : Nat) (s : State) : State := s |> wr (podlState c path) st |> clr (podlCurrent c path)

/-- PoDL enabled or disabled. -/
def podlEnable (c path : Nat) (en : Bool) (s : State) : State :=
  s |> wr (podlEn c path) (b2n en)
    |> (fun t => if !en then t |> podlUnpowered c path pdOFF |> clr (podlClass c path)
        else if rd t (podlState c path) = pdOFF ∧ islandPowered t (15 + c) then podlUnpowered c path pdDETECT t else t)

def execPodlEnableWrite (w : Writer) (c : Fin 4) (path : Fin 2) (en : Bool) (s : State) : Out :=
  .next (gateWrite w (podlEn c path) (b2n en) (podlEnable c path en) s)

/-- PoDL follows the islands of the channels: OFF while the island is off, and DETECT once it is on with the enable still set (R233). -/
def podlFollow (s : State) : State :=
  (List.range 8).foldl (fun t k =>
    let st := rd t (podlState (k / 2) (k % 2))
    if islandOn t (15 + k / 2) then when (on t (podlEn (k / 2) (k % 2)) && st == pdOFF) (podlUnpowered (k / 2) (k % 2) pdDETECT) t
    else when (st != pdOFF) (podlUnpowered (k / 2) (k % 2) pdOFF) t) s

/-- What goes with the islands: PoDL follows (R233), and the outputs of FIO are off while island 20 is (R369, Table 16.3). -/
def powerFollow (s : State) : State := s |> podlFollow |> fioFollow

/-- The same where islands leave service: a channel whose island is off has stopped (R234). -/
def islandsFollow (s : State) : State :=
  (List.range 4).foldl (fun t c => when (!islandOn t (15 + c)) (jlaStop c) t) s |> powerFollow

/-- PODL_DETECT: a powered device is found, or detection repeats. -/
def execPodlDetect (c : Fin 4) (path : Fin 2) (found : Bool) (s : State) : Out :=
  .next (if rd s (podlState c path) = pdDETECT ∧ found then wr (podlState c path) pdCLASS s else s)

/-- The second after an overload has taken the power of a path is over (R44). -/
def podlRested (s : State) (c path : Nat) : Bool :=
  rd s (I.JLA_PODLT (2 * c + path)) == 0 || decide (rd s (I.JLA_PODLT (2 * c + path)) + nsPerS ≤ upNow s + 1)

/-- PODL_CLASSIFY: the class, and whether it requires at most 5 W at the PSE. The current of a powered path is measured: a
free value of at most 0.5 A. Within the second after an overload the path is not powered, and its class still stands out (R44). -/
def execPodlClassify (c : Fin 4) (path : Fin 2) (cls : Fin 32) (fits : Bool) (s : State) : Out :=
  .next (if rd s (podlState c path) ≠ pdCLASS ∨ (fits ∧ !podlRested s c path) then s
    else if fits then
      s |> wr (podlClass c path) cls |> wr (podlState c path) pdPOWERED
        |> wr (podlCurrent c path) (Config.freeValue s.freeCtr % 251) |> useFree
    else s |> wr (podlClass c path) cls |> podlUnpowered c path pdREFUSED |> jraise c (13 + path))

/-- PODL_OVERLOAD: power is removed. -/
def execPodlOverload (c : Fin 4) (path : Fin 2) (s : State) : Out :=
  .next (if rd s (podlState c path) = pdPOWERED then
    s |> podlUnpowered c path pdFAULT |> wr (I.JLA_PODLT (2 * c + path)) (upNow s + 1) |> jraise c (13 + path) else s)

/-- PODL_FAULT_RETRY, 1 s after removal. -/
def execPodlFaultRetry (c : Fin 4) (path : Fin 2) (s : State) : Out :=
  .next (if rd s (podlState c path) = pdFAULT ∧ podlRested s c path then podlUnpowered c path pdDETECT s else s)

/-- PODL_UNDERVOLT_RECOVER, after 1 s at 16.0 V or more. -/
def execPodlUndervoltRecover (c : Fin 4) (path : Fin 2) (s : State) : Out :=
  .next (if rd s (podlState c path) = pdUNDERVOLT then podlUnpowered c path pdDETECT s else s)

/-- RAIL_BELOW_16V: PoDL is removed from every path. -/
def execRailBelow16v (s : State) : Out :=
  .next ((List.range 8).foldl (fun t k =>
    if rd t (podlState (k / 2) (k % 2)) = pdPOWERED then podlUnpowered (k / 2) (k % 2) pdUNDERVOLT t else t) s)

end Sys2Proof.Machine
end

