-- ==== Sys2Proof/Machine/Granary.lean ====
section
/-! DEFINITION. The retained state and the settings in the Granary (R107, R201, R479 to R482), and the commissioning lock
(R476). -/

namespace Sys2Proof.Machine

open R

/-! The retained image (R201) -/

/-- Numbers of planes of M, W, T and C. -/
structure PlaneCounts where
  m : Nat
  w : Nat
  t : Nat
  c : Nat
  deriving DecidableEq, Repr

/-- The byte at an address belongs to one of the first planes of M, W, T or C. -/
def inPlanes (n : PlaneCounts) (a : Nat) : Bool :=
  decide ((imgM ≤ a ∧ a < imgM + 8 * n.m) ∨ (imgW ≤ a ∧ a < imgW + 256 * n.w) ∨ (imgT ≤ a ∧ a < imgT + 1024 * n.t)
    ∨ (imgC ≤ a ∧ a < imgC + 1024 * n.c))

/-- The planes retained: a value above a limit retains the whole space. -/
def retainUpTo (s : State) (lim : PlaneCounts) : PlaneCounts :=
  ⟨min (rd s IMG_RETAIN_MPL) lim.m, min (rd s IMG_RETAIN_WPL) lim.w, min (rd s IMG_RETAIN_TPL) lim.t, min (rd s IMG_RETAIN_CPL) lim.c⟩

/-- The planes retained of the sizes configured (Table 8.12), and, before a program has set them, of the spaces (R201, step 7). -/
def retainNow (s : State) : PlaneCounts :=
  retainUpTo s ⟨rd s IMG_SIZE1_MPL, rd s IMG_SIZE2_WPL, rd s IMG_SIZE2_TPL, rd s IMG_SIZE2_CPL⟩
def retainSpaces (s : State) : PlaneCounts := retainUpTo s ⟨1024, 512, 256, 128⟩

/-- The byte at an address belongs to a retained plane of M, W, T or C. -/
def retained (s : State) (a : Nat) : Bool := inPlanes (retainNow s) a

/-- Some byte of the line belongs to a retained plane. -/
def retainedLine (s : State) (line : Nat) : Bool := (List.range 64).any (fun i => retained s (line + i))

/-- Memory as last committed: a line that the cycle in progress has logged is read from its log entry (R127). -/
def committedMem (s : State) : List Host.Cell :=
  s.undo.reverse.foldl (fun m e => if e.valid then Memory.writeN m e.addr e.data else m) s.mem

/-- The committed retained image. -/
def retainedCells (s : State) : List Host.Cell := (committedMem s).filter (fun c => retained s c.1)

/-! The journal (R479, R481) -/

/-- Bytes of a journal record. -/
def recBytes (r : JRec) : Nat := 32 + 72 * r.lines.length

/-- Bytes of several records. -/
def recsBytes (l : List JRec) : Nat := l.foldl (fun n r => n + recBytes r) 0

/-- GRN_JRNL as it stands. -/
def showJournal (s : State) : State :=
  s |> wr GRN_JRNL_RECORDS (min 4095 s.journalBuf.length) |> wr GRN_JRNL_QUEUED (min 16384 ((recsBytes s.journalBuf + 63) / 64))

/-- A base rewrite starts, numbered with the present CKP_SEQ (R480). -/
def rewriteStart (s : State) : State := s |> set1 GRN_STATUS_REWRITE |> wr I.GRN_SBNEXT (rd s CKP_SEQ)

/-- The journal breaks: event 496, and a base rewrite starts at once (R481). -/
def journalBreak (s : State) : State :=
  s |> set1 GRN_STATUS_BRK |> set1 I.GRN_BROKEN |> raise 496 |> rewriteStart

/-- The journal record of a commit that has just been made with the log `log` (R479): the retained lines it wrote, read as
they now stand. -/
def journalRecord (log : List LogEntry) (s : State) : State :=
  let r : JRec := ⟨rd s CKP_SEQ, (log.filter (fun e => e.valid && retainedLine s e.addr)).map
    (fun e => (e.addr, memRead s e.addr 64))⟩
  if on s I.GRN_BROKEN then s
  else if recsBytes s.journalBuf + recBytes r > 1048576 then journalBreak s
  else showJournal { s with journalBuf := s.journalBuf ++ [r] }

/-- JOURNAL_DRAIN: the oldest record of the buffer is complete in the ring of 4 MiB. A record that would overwrite one above
SB breaks the journal; at 2 MiB in use a base rewrite starts. -/
def execJournalDrain (s : State) : Out :=
  .next (match s.journalBuf with
    | [] => s
    | r :: l =>
      let s1 := { s with journalBuf := l }
      if recsBytes s.journal + recBytes r > 4194304 then { s with journalBuf := [] } |> journalBreak |> showJournal
      else
        { s1 with journal := s.journal ++ [r] } |> wr GRN_SEQ r.seq |> showJournal
          |> when (decide (recsBytes s.journal + recBytes r ≥ 2097152) && !on s GRN_STATUS_REWRITE) rewriteStart)

/-- BASE_REWRITE_COMPLETE: the new copy becomes valid, and records numbered SB or below are freed (R480). -/
def execBaseRewriteComplete (s : State) : Out :=
  .next (if !on s GRN_STATUS_REWRITE then s
    else
      let sb := rd s I.GRN_SBNEXT
      let new : BaseCopy := ⟨true, sb, retainedCells s⟩
      let drop := fun (b : BaseCopy) => { b with valid := false }
      { s with bases := if (s.bases.getD 0 ⟨false, 0, []⟩).valid then [drop (s.bases.getD 0 ⟨false, 0, []⟩), new]
                 else [new, drop (s.bases.getD 1 ⟨false, 0, []⟩)],
               journal := s.journal.filter (fun r => decide (sb < r.seq)) }
        |> wr GRN_BASESEQ_SB sb |> clr GRN_STATUS_REWRITE |> clr I.GRN_BROKEN |> raise 497)

/-! Restore at start-up step 7 (R107, R201, R480) -/

/-- The valid base copy. -/
def validBase (s : State) : Option BaseCopy := s.bases.find? (fun b => b.valid)

/-- The records above SB, ascending, up to the first that does not follow its predecessor. -/
def replayRecs : Option Nat → List JRec → List JRec
  | _, [] => []
  | none, r :: l => r :: replayRecs (some r.seq) l
  | some p, r :: l => if r.seq = p + 1 then r :: replayRecs (some r.seq) l else []

/-- One line written back, its retained bytes only. -/
def restoreLine (s : State) (e : Nat × List Byte) : State :=
  (e.2.zipIdx).foldl (fun t b => if inPlanes (retainSpaces s) (e.1 + b.2) then memWrite (e.1 + b.2) [b.1] t else t) s

/-- One base cell written back. -/
def restoreCell (s : State) (c : Host.Cell) : State := if inPlanes (retainSpaces s) c.1 then memWrite c.1 [c.2] s else s

/-- The retained image of a base and its records. -/
def restoreImage (b : BaseCopy) (s : State) : State :=
  let rs := replayRecs none (s.journal.filter (fun r => decide (b.sb < r.seq)))
  (rs.flatMap (fun r => r.lines)).foldl restoreLine (b.cells.foldl restoreCell s)

/-- The number that the retained state carries: that of its last complete record, else SB. -/
def restoreSeq (b : BaseCopy) (s : State) : Nat :=
  ((replayRecs none (s.journal.filter (fun r => decide (b.sb < r.seq)))).getLast?.map (fun r => r.seq)).getD b.sb

/-- SEQRES raised before the first commit point where CKP_SEQ has come within 2^31 of it (R107). -/
def seqReserve (s : State) : State :=
  when (decide (rd s CKP_SEQ + 2 ^ 31 ≥ rd s I.GRN_SEQRES)) (wr I.GRN_SEQRES (rd s I.GRN_SEQRES + 2 ^ 32)) s

/-- A retained image that fails its check: reset values stay, RESTFAIL, event 102 with a critical entry, and CKP_SEQ from
SEQRES, or from the time where the control block is invalid too (R107, R201). -/
def restoreFail (ctlOk : Bool) (s : State) : State :=
  let n := if ctlOk then rd s I.GRN_SEQRES - 1 else 2 ^ 63 + now s - 1
  s |> set1 IMG_STATUS_RESTFAIL |> raiseCrit 102 |> wr CKP_SEQ n
    |> wr I.GRN_SEQRES (if ctlOk then rd s I.GRN_SEQRES else n + 1 + 2 ^ 32)
    |> when ctlOk seqReserve

/-- The retained state restored: image, CKP_SEQ, and the timers that are to be stamped anew. -/
def restoreRetained (imageOk ctlOk : Bool) (s : State) : State :=
  match validBase s with
  | some b =>
    if imageOk then s |> restoreImage b |> wr CKP_SEQ (restoreSeq b s) |> set1 I.TMR_REBASE |> seqReserve
    else restoreFail ctlOk s
  | none => restoreFail ctlOk s

/-- START of every retained running timer at the timebase of the first cycle (R201). -/
def timersRebase (m0 : Nat) (s : State) : State :=
  if !on s I.TMR_REBASE then s
  else
    (List.range (64 * (retainNow s).t)).foldl (fun t i =>
      let w := memNat t (timerAddr i) 8
      let et := memNat t (timerAddr i + 12) 4
      let u := if bit w 63 then 1000 else 1
      if bit w 60 then memPut (timerAddr i) 8 (setBits w 0 48 (ofSigned 48 ((m0 : Int) - et * u))) t else t)
      (clr I.TMR_REBASE s)

/-! Settings (R482) -/

/-- The image in the execution bank, in the fallback bank. -/
def runningImage (s : State) : ImageInfo := s.slots.getD (rd s UPD_SLOTS_EXEC) ImageInfo.blank
def fallImage (s : State) : ImageInfo := s.slots.getD (rd s UPD_SLOTS_FALL) ImageInfo.blank

/-- A settings bank is usable: its CRC is correct and the running firmware reads its FORMAT. -/
def bankUsable (s : State) (b : SetBank) : Bool :=
  b.crcOk && decide ((runningImage s).fmtmin ≤ b.format ∧ b.format ≤ (runningImage s).fmtout)

/-- Settings bank `n`. -/
def setBank (s : State) (n : Nat) : SetBank := s.setBanks.getD n ⟨false, 0, 0, [], []⟩

/-- The settings of a bank loaded: field values and DDR tables. -/
def loadBank (b : SetBank) (s : State) : State :=
  b.cells.foldl (fun t c => memWrite c.1 [c.2] t)
    (b.fields.foldl (fun t p => { t with regs := Assoc.put p.1 p.2 t.regs }) s)

/-- GRN_SETBANK as it stands. -/
def showSetBank (s : State) : State :=
  let c := rd s GRN_SETBANK_CURRENT
  s |> wr GRN_SETBANK_FORMAT (setBank s c).format |> wr GRN_SETBANK_PREVVALID (b2n (bankUsable s (setBank s (1 - c))))

/-- The previous bank must stay as it is: a trial runs, and the start in progress is not the first after an image
activation (R490). -/
def prevKept (s : State) : Bool := on s UPD_STATUS_TRIAL && !(on s I.UPD_TRIALNEW && rd s I.UPD_TRIALKIND == 0)

/-- Settings of an older FORMAT are converted into the other bank, which becomes current (event 495). -/
def convertBank (n : Nat) (s : State) : State :=
  let b := setBank s n
  if b.format ≥ (runningImage s).fmtout ∨ prevKept s = true then s
  else { s with setBanks := s.setBanks.set (1 - n) { b with format := (runningImage s).fmtout, writer := (runningImage s).imgver } }
    |> wr GRN_SETBANK_CURRENT (1 - n) |> raise 495

/-- The choice of settings at start (Table 20.5). -/
def chooseSettings (s : State) : State :=
  let c := rd s GRN_SETBANK_CURRENT
  if bankUsable s (setBank s c) then s |> loadBank (setBank s c) |> convertBank c |> showSetBank
  else if bankUsable s (setBank s (1 - c)) then
    s |> loadBank (setBank s (1 - c)) |> set1 GRN_STATUS_SETFALL |> raiseCrit 493 |> convertBank (1 - c) |> showSetBank
  else s |> set1 GRN_STATUS_DEFAULTS |> raiseCrit 494 |> showSetBank

/-- The error log registers as the log in the Granary has them. -/
def logReload (s : State) : State :=
  when (on s I.EVC_RELOAD) (fun t =>
    t |> wr EVC_LOGSEQ (rd s (I.EVC_SAVED 0)) |> wr EVC_LOGSTAT_HEAD (rd s (I.EVC_SAVED 1))
      |> wr EVC_LOGSTAT_CRITUSED (rd s (I.EVC_SAVED 2)) |> wr EVC_LOGSTAT_UNACK (rd s (I.EVC_SAVED 3))
      |> wr EVC_LOGSTAT_CRITFULL (rd s (I.EVC_SAVED 4)) |> clr I.EVC_RELOAD) s

/-! The commissioning lock (R476) -/

/-- The lock set: event 481. It becomes engaged at boot complete. -/
def lockSet (sess : Nat) (s : State) : State :=
  s |> set1 ACC_LOCK_LOCKED |> when (on s I.BOOTED) (set1 ACC_LOCK_ENGAGED) |> raise 481 |> audit 0x08 false sess 0 0 1

/-- The lock released in STOP: event 482; in any other state nothing but a refused audit entry. -/
def lockRelease (sess : Nat) (s : State) : State :=
  if ctlState s = stSTOP then s |> clr ACC_LOCK_LOCKED |> clr ACC_LOCK_ENGAGED |> raise 482 |> audit 0x08 false sess 0 1 0
  else audit 0x08 true sess 0 1 0 s

/-- COMMISSIONING_LOCK_SET: ACC_LOCK.LOCK is written 1. -/
def execCommissioningLockSet (w : Writer) (s : State) : Out :=
  .next (gateWrite w ACC_LOCK 1 (lockSet (sessOf w)) s)

/-- COMMISSIONING_LOCK_RELEASE: ACC_LOCK.UNLOCK is written 1. -/
def execCommissioningLockRelease (w : Writer) (s : State) : Out :=
  .next (gateWrite w ACC_LOCK_UNLOCK 1 (lockRelease (sessOf w)) s)

end Sys2Proof.Machine
end

