-- ==== Sys2Proof/Machine/Reset.lean ====
section
/-! DEFINITION. Resets and their reach (R53 to R56), the oscillators (R57 to R59), the start-up sequence (R60 to R63) and the
feeds, hold-up store and plate sensor (R37 to R52). -/

namespace Sys2Proof.Machine

open R

/-! What a reset keeps (Table 3.2) -/

/-- The address of a field key, and the identifier of an internal field. -/
def keyAddr (k : Nat) : Nat := k / 64
def isInternal (k : Nat) : Bool := decide (0x10000000000 ≤ keyAddr k)
def internalId (k : Nat) : Nat := (keyAddr k - 0x10000000000) / 0x100000

/-- Registers that every reset keeps: SYS identity, and the retained fields of ACC, GRN and UPD. -/
def keptRetained (k : Nat) : Bool :=
  blockOf (keyAddr k) == 0x00
    || [ACC_LOCK_LOCKED.key, ACC_CRED_SETVER.key, ACC_CRED_ENTRIES.key, ACC_AUDHEAD_HEAD.key, ACC_AUDSEQ_SEQ.key,
        GRN_SEQ.key, GRN_BASESEQ_SB.key, GRN_SETBANK_FORMAT.key, GRN_SETBANK_CURRENT.key, GRN_SETBANK_PREVVALID.key,
        UPD_STATUS_REVERTED.key, UPD_STATUS_TRIAL.key, UPD_SLOTS_EXEC.key, UPD_SLOTS_FALL.key, UPD_SLOTS_STAGE.key,
        UPD_EXECVER_IMGVER.key, UPD_FALLVER_IMGVER.key, UPD_SECMIN.key].contains k

/-- Internal fields that belong to the Granary's contents. -/
def keptGranary (id : Nat) : Bool := [1, 4, 62, 63, 75, 77, 78, 81, 82].contains id

/-- What a power-on reset keeps: Granary contents only. -/
def keptByPowerOn (k : Nat) : Bool := if isInternal k then keptGranary (internalId k) else keptRetained k

/-- What a module reset keeps (Table 3.2, R49, R51, R58): beside the Granary, the PWR registers but CLKSEL.SRC, GRN status, the position
sample, the Gleaner's counters, histograms and persist state, and the events that the always-on latch has lost. -/
def keptByModule (k : Nat) : Bool :=
  if isInternal k then keptGranary (internalId k) || [3, 5, 64, 76, 80].contains (internalId k)
    || [I.PWR_PORONLY.key, I.PWR_OCXOFAIL.key, I.PWR_LAMP.key, I.PWR_PLATEHOLD.key, I.PWR_COLD.key].contains k
  else keptRetained k || (blockOf (keyAddr k) == 0x2D && k != PWR_CLKSEL_SRC.key) || blockOf (keyAddr k) == 0x2A
    || k == PAIR_STATUS_POS.key || glnKey k || k == GLN_GEN.key || k == GLN_PERSIST_AGE.key

/-- Internal fields of the blocks of islands 1 to 8. The window count of the signatures (29) goes on: it starts at a power-on or module
reset only (R85). -/
def warmInternal (id : Nat) : Bool :=
  id == 2 || (decide (6 ≤ id ∧ id ≤ 35 ∧ id ≠ 29)) || (decide (39 ≤ id ∧ id ≤ 46)) || id == 58 || id == 59 || id == 79 || id == 91 || id == 106 || id == 107 || decide (109 ≤ id ∧ id ≤ 112) || decide (115 ≤ id ∧ id ≤ 118)

/-- What the reset of islands 1 to 8 in a warm activation keeps: the registers of every other island, and the marks of a faulty
comparator, which stay until a module reset (R99). -/
def keptByWarm (k : Nat) : Bool :=
  if isInternal k then !warmInternal (internalId k)
  else k == WNW_STATUS_CMP_OK.key || k == WNW_STATUS_MASKED.key
    || decide (islandOf (blockOf (keyAddr k)) = 0 ∨ 8 < islandOf (blockOf (keyAddr k)))

/-- The Granary window. -/
def inGranary (a : Nat) : Bool := decide (0x1040000000 ≤ a ∧ a < 0x1041000000)

/-- What the error log registers hold, kept with the log until step 7 reloads them. -/
def logSave (s : State) : State :=
  when (!on s I.EVC_RELOAD) (fun t =>
    t |> wr (I.EVC_SAVED 0) (rd s EVC_LOGSEQ) |> wr (I.EVC_SAVED 1) (rd s EVC_LOGSTAT_HEAD)
      |> wr (I.EVC_SAVED 2) (rd s EVC_LOGSTAT_CRITUSED) |> wr (I.EVC_SAVED 3) (rd s EVC_LOGSTAT_UNACK)
      |> wr (I.EVC_SAVED 4) (rd s EVC_LOGSTAT_CRITFULL) |> set1 I.EVC_RELOAD) s

/-- The forces that the reset clears, counted for the audit entry of the next start-up (R149). -/
def forcesCleared (s : State) : State := wr I.CYC_FCLEARED (rd s CYC_FORCECNT_COUNT) s

/-- The state after a reset that keeps the register fields `keep` and the Granary. Commands that wait, what has been sent,
and the model's counter are no part of the module. -/
def resetKeeping (keep : Nat → Bool) (s : State) : State :=
  let t := s |> logSave |> forcesCleared
  { State.reset with
      pending := s.pending, freeCtr := s.freeCtr, out := s.out
      regs := t.regs.filter (fun p => keep p.1)
      mem := s.mem.filter (fun c => inGranary c.1)
      glnCopies := s.glnCopies, creds := s.creds, prevCreds := s.prevCreds, journal := s.journal, bases := s.bases
      setBanks := s.setBanks, slots := s.slots }

/-- Power-on reset: all 21 islands; the position pins are sampled (R31), and the lamp test begins (R49): its count is back at its reset
value. A contact of the button that is closed when the reset is released is a press already taken (R56). -/
def powerOnReset (pos : Nat) (button : Bool) (s : State) : State :=
  s |> resetKeeping keptByPowerOn |> wr PAIR_STATUS_POS pos |> set1 I.EVC_RELOAD |> set1 I.HELD |> glnAdd 2 1
    |> when button (fun t => t |> set1 PWR_BTN_CLOSED |> clr PWR_BTN_ARMED)

/-- Only the most recent reset is recorded (R53). -/
def rstCause (f : Fld) (s : State) : State :=
  s |> clr PWR_RSTCAUSE_PLATE |> clr PWR_RSTCAUSE_PFAIL |> clr PWR_RSTCAUSE_BOOTWDT |> clr PWR_RSTCAUSE_SOFT
    |> clr PWR_RSTCAUSE_BTN |> clr PWR_RSTCAUSE_EXT |> clr PWR_RSTCAUSE_POR |> set1 f

/-- The plate is at or above +70 °C (R51); TEMP counts 1/16 °C. -/
def plateHot (s : State) : Bool := decide (rdS s PWR_PLATET_TEMP ≥ 1120)

/-- The new roles written to the control block (R488), and the first start of a trial prepared (R490). -/
def activateRoles (kind : Nat) (revert : Bool) (s : State) : State :=
  let e := rd s UPD_SLOTS_EXEC
  let f := rd s UPD_SLOTS_FALL
  let g := rd s UPD_SLOTS_STAGE
  let c := rd s GRN_SETBANK_CURRENT
  (if kind = 0 then
    (if revert then s |> wr UPD_SLOTS_EXEC f |> wr UPD_SLOTS_FALL e
     else s |> wr UPD_SLOTS_EXEC g |> wr UPD_SLOTS_FALL e |> wr UPD_SLOTS_STAGE f)
   else match s.staged, revert with
    | some (.settings b), false => { s with setBanks := s.setBanks.set (1 - c) b } |> wr GRN_SETBANK_CURRENT (1 - c)
    | _, true => wr GRN_SETBANK_CURRENT (1 - c) s
    | _, false => s)
    |> (fun t => if revert then t else { t with staged := none, stagedRanges := [], stagedData := [] } |> clr UPD_STATUS_STAGE
          |> clr UPD_STAGED_BYTES)
    |> clr UPD_STATUS_TRIAL |> set1 I.UPD_TRIALNEW |> wr I.UPD_TRIALKIND kind

/-- What a reset takes with it of an activation that waits for the controller to stop: its new roles are in force at the start
that follows (R492). -/
def warmByReset (s : State) : State :=
  when (on s I.UPD_WARM) (activateRoles (rd s I.UPD_WARMKIND) (on s I.UPD_WARMREV)) s

/-- Module reset (R53 to R55): islands 1 to 20 off, power state Run with no request pending, and the module held in reset.
The first one after a plate stop sets PLATE with the source's bit and clears PLATE_STOP (Table 3.1); the module restarts once one has
been taken below +70 °C (R51). -/
def moduleReset (cause : Fld) (s : State) : State :=
  let t := resetKeeping keptByModule (warmByReset s)
  { t with evLatch := s.evLatch, journalBuf := s.journalBuf }
    |> rstCause cause |> glnAdd 3 1
    |> when (on s PWR_SUPPLY_PLATE_STOP) (fun u => u |> set1 PWR_RSTCAUSE_PLATE |> clr PWR_SUPPLY_PLATE_STOP)
    |> when (!plateHot s) (clr I.PWR_PLATEHOLD)
    |> wr PWR_STATE 0 |> clr PWR_STATE_TRANS |> clr PWR_STATE_TARGET
    |> clr PWR_PENDING_VALID |> clr PWR_PENDING_WAKE |> clr PWR_PENDING_SESSION |> clr PWR_PENDING_TARGET
    |> wr PWR_ISLSTAT 0x100000 |> clr PWR_ISLBUSY_BUSY_OFF |> clr PWR_ISLPEND_ENPEND
    |> set1 I.EVC_RELOAD |> set1 I.HELD

/-- POWER_ON_RESET. -/
def execPowerOnReset (pins : ResetPins) (s : State) : Out := .next (powerOnReset pins.pos pins.button s)

/-- EXT_RESET. -/
def execExtReset (s : State) : Out := .next (moduleReset PWR_RSTCAUSE_EXT s)

/-- RESET: the owner with installer or maker role; not completed. -/
def execReset (ref : CmdRef) (s : State) : Out := .next (cmdGate ref 0x28 id (moduleReset PWR_RSTCAUSE_SOFT) s)

/-- BOOT_WATCHDOG_EXPIRY: boot not reported complete within 12 s. -/
def execBootWatchdogExpiry (s : State) : Out :=
  .next (if on s I.BOOTED || on s I.HELD then s
    else s |> wr I.UPD_BOOTFAILS (min 3 (rd s I.UPD_BOOTFAILS + 1)) |> moduleReset PWR_RSTCAUSE_BOOTWDT)

/-- Fields of HBR that lie with the session and ownership state of island 21 (Table 3.2, R320). The MSI-X structure of BAR4 is of
island 10 (Table 13.1). -/
def keptByHostLink (k : Nat) : Bool :=
  if isInternal k then !(decide (67 ≤ internalId k ∧ internalId k ≤ 71)) && !(decide (124 ≤ internalId k ∧ internalId k ≤ 127)) && internalId k != 144
  else !(blockOf (keyAddr k) == 0x22)
    || decide (0x1080221000 ≤ keyAddr k ∧ keyAddr k < 0x1080221024)
    || k == HBR_OWNSEQ_SEQ.key || k == HBR_OFFER_VALID.key || k == HBR_OFFER_TO.key || k == HBR_OFFER_REMAIN.key

/-- HOST_LINK_RESET: session 0 is closed, island 10 is reset, event 16 (R54). An outbound read that was in progress gets no
completion, and fails by its timeout (R332). Accesses of others that waited for a lock of the host go on, the locks being gone. -/
def execHostLinkReset (s : State) : Out :=
  let t := sessClose 0 s
  .next ({ t with
      regs := t.regs.filter (fun p => keptByHostLink p.1), ringq := []
      halves := t.halves.filter (fun h => h.writer != .host)
      cmds := t.cmds.filter (fun c => c.ref.session.val != 0), cpls := t.cpls.filter (fun c => c.ref.session.val != 0) }
    |> dropRefs (fun r => r.session.val == 0)
    |> raise 16)

/-! The reset button (R56) -/

/-- BUTTON_PRESS_ACCEPTED; `opened` tells that the contact has been seen open for 50 ms since the press taken before. A
stuck button, and a press before that, is ignored. In Drowse and Fallow too BTN_MODE decides between a reset and event 0 (DESIGN
CHOICE, log entry 127). -/
def execButtonPressAccepted (opened : Bool) (s : State) : Out :=
  .next (if on s PWR_BTN_STUCK || !(on s PWR_BTN_ARMED || opened) then s
    else
      let s1 := s |> set1 PWR_BTN_CLOSED |> clr PWR_BTN_ARMED
      if on s PWR_CTRL_BTN_MODE then raise 0 s1 else moduleReset PWR_RSTCAUSE_BTN s1)

/-- BUTTON_STUCK: still closed 8 s after it closed. -/
def execButtonStuck (s : State) : Out :=
  .next (if on s PWR_BTN_STUCK then s else s |> set1 PWR_BTN_CLOSED |> clr PWR_BTN_ARMED |> set1 PWR_BTN_STUCK |> raise 1)

/-- BUTTON_REARM: open without interruption for 1 s. -/
def execButtonRearm (s : State) : Out :=
  .next (if on s PWR_BTN_ARMED && !on s PWR_BTN_STUCK then clr PWR_BTN_CLOSED s
    else s |> clr PWR_BTN_CLOSED |> set1 PWR_BTN_ARMED |> clr PWR_BTN_STUCK |> raise 2)

/-! Oscillators (R57 to R59) -/

/-- A write of PWR_CLKSEL.SRC. -/
def clockSelect (src : Bool) (s : State) : State :=
  if on s CYC_CTRL_EN || (src && !on s PWR_CLKSEL_OCXO_OK) then set1 PWR_CLKSEL_REFUSED s else wr PWR_CLKSEL_SRC (b2n src) s

/-- CLOCK_SELECT: PWR_CLKSEL.SRC is written. A write is refused whatever its value while the cycle engine is enabled. -/
def execClockSelect (w : Writer) (src : Bool) (s : State) : Out :=
  .next (gateWrite w PWR_CLKSEL_SRC (b2n src) (clockSelect src) s)

/-- OCXO_VALID. Once its time for becoming valid is over the module stays on IOSC (R58). -/
def execOcxoValid (s : State) : Out := .next (if on s I.PWR_OCXOFAIL then s else set1 PWR_CLKSEL_OCXO_OK s)

/-- OCXO_START_TIMEOUT: the controller is never started. -/
def execOcxoStartTimeout (s : State) : Out :=
  .next (if on s PWR_CLKSEL_OCXO_OK then s else s |> set1 I.PWR_OCXOFAIL |> raiseCrit 19)

/-- The OCXO fails: OCXO_OK clears, islands 1 to 20 go back to IOSC, event 6, and the controller stops with cause 0x04 without a
verdict. -/
def ocxoLost (s : State) : State :=
  s |> clr PWR_CLKSEL_OCXO_OK |> clr PWR_CLKSEL_SRC |> set1 I.PWR_OCXOLOST |> raiseCrit 6 |> noVerdictStop 4

/-! Start-up (R60 to R63) -/

/-- An image may run here: signature and bindings (Table 20.6). -/
def imageOk (s : State) (i : ImageInfo) : Bool :=
  i.signed && i.devid == 0x0A07 && bit i.issues (rd s SYS_IDENT_ISSUE) && bit i.variants (rd s SYS_IDENT_VARIANT)
    && (i.units.isEmpty || i.units.contains (rd s SYS_SERIAL)) && decide (rd s UPD_SECMIN ≤ i.secver)

/-- The registers that report the images of the banks. -/
def showImages (s : State) : State :=
  s |> wr UPD_EXECVER_IMGVER (runningImage s).imgver |> wr UPD_FALLVER_IMGVER (fallImage s).imgver
    |> wr I.SFU_RTID (runningImage s).rtid |> wr PAIR_VER (runningImage s).pairver

/-- The module falls back (R491): banks and settings banks swap, the failed image's slot becomes the staging area. -/
def fallbackTaken (s : State) : State :=
  s |> wr UPD_SLOTS_EXEC (rd s UPD_SLOTS_FALL) |> wr UPD_SLOTS_STAGE (rd s UPD_SLOTS_EXEC)
    |> wr UPD_SLOTS_FALL (rd s UPD_SLOTS_STAGE) |> wr GRN_SETBANK_CURRENT (1 - rd s GRN_SETBANK_CURRENT)
    |> clr UPD_STATUS_TRIAL |> clr I.UPD_TRIALNEW |> set1 UPD_STATUS_REVERTED |> clr I.UPD_BOOTFAILS
    |> raiseCrit 491 |> audit 0x11 false 0 0 0 0

/-- The boot watchdog has expired often enough for a fallback: once in a trial, twice on a confirmed image. -/
def bootFallback (s : State) : Bool :=
  decide (rd s I.UPD_BOOTFAILS ≥ (if on s UPD_STATUS_TRIAL then 1 else 2))

/-- The fallback bank starts, or, where it fails too, the module stays in the ROM; only this one start left out the execution bank. -/
def tryFallback (s : State) : State :=
  if imageOk s (fallImage s) then s |> fallbackTaken |> showImages else s |> set1 I.ROM |> clr I.UPD_BOOTFAILS

/-- IMAGE_VERIFY: the execution bank, else the fallback bank, else the ROM; after the watchdog has expired often enough, not the
execution bank (R62, R491). -/
def imageVerify (s : State) : State :=
  if !bootFallback s && imageOk s (runningImage s) then showImages s else tryFallback s

/-- The reset may be released: no hold by power failure, plate stop, or, at a power-on that no release has followed yet, cold (R47,
R51, R73). -/
def mayRelease (s : State) : Bool :=
  on s I.HELD && !on s PWR_SUPPLY_PFW && !on s I.PWR_PORONLY && !on s PWR_SUPPLY_PLATE_STOP && !on s I.PWR_PLATEHOLD
    && !(on s I.PWR_COLD && decide (rdS s PWR_PLATET_TEMP < -640))

/-- Steps 1 to 5 of Table 3.3: islands 1 to 3, 7, 8 and 9 on, Triad mode, an invalid position reported, the image verified;
a first start after an activation begins the trial (R490). -/
def resetRelease (s : State) : State :=
  s |> clr I.HELD |> clr I.PWR_COLD
    |> wr PWR_ISLSTAT (Nat.lor (rd s PWR_ISLSTAT) 0x1001C7) |> wr PWR_ISLEN (Nat.lor (rd s PWR_ISLEN) 0x1001C7)
    |> when (rd s PAIR_STATUS_POS == 0) (raiseCrit 17)
    |> when (on s I.UPD_TRIALNEW && !on s UPD_STATUS_TRIAL) (fun t => t |> set1 UPD_STATUS_TRIAL |> raise 489)
    |> imageVerify

/-- RESET_RELEASE. -/
def execResetRelease (s : State) : Out := .next (if mayRelease s then resetRelease s else s)

/-- PCIE_LINK_TRAINING: island 10 on and the link up with `width` lanes at speed `speed`. -/
def execPcieLinkTraining (width : Fin 5) (speed : Fin 5) (s : State) : Out :=
  .next (if on s I.HELD then s
    else s |> wr PWR_ISLSTAT (Nat.lor (rd s PWR_ISLSTAT) 0x200) |> wr PWR_ISLEN (Nat.lor (rd s PWR_ISLEN) 0x200)
      |> set1 HBR_LINK_LINKUP |> wr HBR_LINK_WIDTH width |> wr HBR_LINK_SPEED speed)

/-- PCIE_LINK_DOWN: the link goes down without PERST_N (R326). Outbound reads that wait are answered like failed ones by
their own commands. -/
def execPcieLinkDown (s : State) : Out := .next (s |> clr HBR_LINK_LINKUP |> clr HBR_LINK_WIDTH |> clr HBR_LINK_SPEED)

/-- Islands 11 to 20 on, as steps 7 and 8 of Table 3.3 need them; an EVP-JX7-C has no FIO. -/
def islandsUp (s : State) : State :=
  let m := if rd s SYS_IDENT_VARIANT = 2 then 0x07FC00 else 0x0FFC00
  s |> wr PWR_ISLSTAT (Nat.lor (rd s PWR_ISLSTAT) m) |> wr PWR_ISLEN (Nat.lor (rd s PWR_ISLEN) m) |> podlFollow

/-- Start-up step 7: settings, retained state, Gleaner and error log; the number of forces cleared by the reset is audited
(R149). -/
def startStep7 (imageOk ctlOk : Bool) (s : State) : State :=
  s |> clr GRN_STATUS_SETFALL |> clr GRN_STATUS_DEFAULTS |> logReload |> glnRestore |> chooseSettings
    |> restoreRetained imageOk ctlOk |> clr I.UPD_TRIALNEW |> islandsUp |> set1 GRN_STATUS_READY
    |> audit 0x06 false 0 0 0 (rd s I.CYC_FCLEARED) |> clr I.CYC_FCLEARED

/-- Step 7 may run: start-up has come so far, and the journal buffer has drained (R479). -/
def step7Ready (s : State) : Bool :=
  !on s I.BOOTED && !on s I.HELD && !on s I.ROM && bit (rd s PWR_ISLSTAT) 7 && s.journalBuf.isEmpty

/-- RETAINED_RESTORE; `imageOk` and `ctlOk` tell whether the retained image and the control block pass their checks. -/
def execRetainedRestore (imageOk ctlOk : Bool) (s : State) : Out :=
  .next (if step7Ready s then startStep7 imageOk ctlOk s else s)

/-- The program of the settings loaded at step 9: program store, stage bank, descriptors, binding table and sizes. A program
that fails verification enters FAULT with cause 0x11. -/
def loadProgram (c : ChangeSet) (s : State) : State :=
  if !c.verifies then programVerifyFail false s
  else s |> loadWrite c |> wr CYC_CHG_BANK (1 - rd s CYC_CHG_BANK) |> wr CYC_CHGID c.newId
    |> wr CYC_CHGSEQ (rd s CKP_SEQ) |> applySizes c

/-- Steps 8 and 9: islands 4 to 6, the program, the execution mode, the safety check; the lock becomes engaged, and the pair
state follows the position (R61, R419, R427, R476). With an invalid position no program is loaded (Table 2.3), and the pair state stays
INIT, Table 18.1 giving no state for it (DESIGN CHOICE, log entry 113). -/
def bootComplete (mode : Nat) (prog : Option ChangeSet) (s : State) : State :=
  let pos := rd s PAIR_STATUS_POS
  let s1 := s |> wr PWR_ISLSTAT (Nat.lor (rd s PWR_ISLSTAT) 0x38) |> wr PWR_ISLEN (Nat.lor (rd s PWR_ISLEN) 0x38)
    |> wr SLC_MODE mode |> wr SLC_MODE_PART (modeSlices mode) |> (fun t => wr I.SLC_FREE (freeSlices t) t)
  let s2 := match prog with | some c => if pos = 0 then s1 else loadProgram c s1 | none => s1
  s2 |> sfuStartCheck |> set1 I.BOOTED |> clr I.UPD_BOOTFAILS |> wr ACC_LOCK_ENGAGED (rd s ACC_LOCK_LOCKED)
    |> when (rd s PAIR_STATUS_STATE == 1 && pos != 0) (fun t => t |> wr PAIR_STATUS_STATE (if pos = 3 then 0 else 2) |> raise 448)

/-- Step 9 may run. -/
def step9Ready (s : State) : Bool := !on s I.BOOTED && !on s I.HELD && !on s I.ROM && on s GRN_STATUS_READY

/-! Feeds, hold-up store and plate (R37 to R52) -/

/-- FEEDn_OK. -/
def feedOk (n : Nat) : Fld := if n = 0 then PWR_SUPPLY_FEED1_OK else PWR_SUPPLY_FEED2_OK

/-- FEED_LOST: feed `n` + 1 falls below 18.0 V. -/
def feedLost (n : Nat) (s : State) : State := if on s (feedOk n) then s |> clr (feedOk n) |> raise (8 + n) else s

/-- FEED_LOST. -/
def execFeedLost (n : Fin 2) (s : State) : Out := .next (feedLost n s)

/-- HOLDUP_READY: the store is charged; `low` tells that the measured hold-up is below 12 ms. -/
def execHoldupReady (low : Bool) (s : State) : Out :=
  .next (s |> set1 PWR_SUPPLY_HOLDUP_RDY |> wr PWR_SUPPLY_HOLDUP_LOW (b2n low) |> when low (raise 14))

/-- PLATE_WARNING: above +75 °C. -/
def execPlateWarning (s : State) : Out :=
  .next (if on s PWR_SUPPLY_PLATE_WARN then s else s |> set1 PWR_SUPPLY_PLATE_WARN |> raise 12)

/-- SUPPLY_REGISTER_REFRESH: feed voltages in 10 mV and plate temperature in 1/16 °C; PLATE_WARN follows the temperature. -/
def execSupplyRegisterRefresh (f1 f2 : BitVec 16) (temp : BitVec 16) (s : State) : Out :=
  .next (s |> wr PWR_FEEDV_FEED1_V f1.toNat |> wr PWR_FEEDV_FEED2_V f2.toNat |> wr PWR_PLATET_TEMP temp.toNat
    |> when (decide (temp.toInt ≤ 1200)) (clr PWR_SUPPLY_PLATE_WARN))

end Sys2Proof.Machine
end

