-- ==== Sys2Proof/Machine/Update.lean ====
section
/-! DEFINITION. Staging, activation, trial and confirmation (R484 to R492). -/

namespace Sys2Proof.Machine

open R

/-! Rights and refusals -/

/-- Status of an update command whose session lacks the right; 0 where it has it. A read-only session has none (R308). -/
def updRole (s : State) (sess role : Nat) : Bool :=
  decide (sessRole s sess ≥ role) && !on s (HBR_SESS_READONLY sess)

/-- The right to ACTIVATE and CONFIRM: the owner with installer role, or any maker session. -/
def activateRole (s : State) (sess : Nat) : Bool :=
  updRole s sess 3 || (updRole s sess 2 && isOwner s sess)

/-- An update command completes; a refusal is kept in UPD_ERR. -/
def updDone (ref : CmdRef) (op status : Nat) (s : State) : State :=
  s |> when (status != cOK) (fun t => t |> wr UPD_ERR_CMD op |> wr UPD_ERR_STATUS status) |> complete ref op status

/-- In the ROM only KIND 0 and only session 0 are served (R487). -/
def romRefuses (s : State) (sess kind : Nat) : Bool := on s I.ROM && (sess != 0 || kind != 0)

/-! Staging (R485, R486) -/

/-- Bytes that the received ranges cover. -/
def rangesBytes (l : List (Nat × Nat)) : Nat := l.foldl (fun n r => n + (r.2 - r.1)) 0

/-- A range added to rising, disjoint ranges; ranges that touch are joined. -/
def rangesAdd (a b : Nat) : List (Nat × Nat) → List (Nat × Nat)
  | [] => if a < b then [(a, b)] else []
  | r :: l =>
    if b < r.1 then (if a < b then (a, b) :: r :: l else r :: l)
    else if r.2 < a then r :: rangesAdd a b l
    else rangesAdd (min a r.1) (max b r.2) l

/-- Bytes at an offset replace those there. -/
def stagedPut (off : Nat) (bs : List Byte) (l : List (Nat × Byte)) : List (Nat × Byte) :=
  bs.zipIdx.foldl (fun m b => Assoc.put (off + b.2) b.1 m) l

/-- Status of a STAGE_BEGIN. -/
def stageBeginCheck (s : State) (sess kind len : Nat) : Nat :=
  if kind = 3 then cBADARG
  else if romRefuses s sess kind then cSTATE
  else if !updRole s sess (if kind = 1 then 3 else 2) then cROLE
  else if on s UPD_STATUS_LOCKED && rd s UPD_STATUS_LOCKSESS != sess then cSTAGINGBUSY
  else if len > 512 * 1048576 then cBADARG
  else cOK

/-- The staging lock taken and the staging slot erased: event 484. -/
def stageBegin (sess kind len : Nat) (s : State) : State :=
  { s with staged := none, stagedRanges := [], stagedData := [], slots := s.slots.set (rd s UPD_SLOTS_STAGE) ImageInfo.blank }
    |> wr UPD_STATUS_STAGE 1 |> wr UPD_STATUS_KIND kind |> set1 UPD_STATUS_LOCKED |> wr UPD_STATUS_LOCKSESS sess
    |> wr I.UPD_LEN len |> wr I.UPD_HOLDT (upNow s) |> clr UPD_STAGED_BYTES |> raise 484

/-- STAGE_BEGIN: ARG0[1:0] and ARG1. -/
def execStageBegin (ref : CmdRef) (kind : Fin 4) (len : BitVec 32) (s : State) : Out :=
  .next (cmdRun ref 0x40 (fun t =>
    let r := stageBeginCheck t ref.session kind len.toNat
    t |> audit 0x0E (r != 0) ref.session kind 0 0
      |> (if r = 0 then stageBegin ref.session kind len.toNat else when (r == cSTAGINGBUSY) (raise 485))
      |> updDone ref 0x40 r) s)

/-- The session holds the staging lock. -/
def stageHolder (s : State) (sess : Nat) : Bool := on s UPD_STATUS_LOCKED && rd s UPD_STATUS_LOCKSESS == sess

/-- The same of a command that has read `len` bytes from its buffer. -/
def updMoved (ref : CmdRef) (op status len : Nat) (s : State) : State :=
  s |> when (status != cOK) (fun t => t |> wr UPD_ERR_CMD op |> wr UPD_ERR_STATUS status) |> completeMoved ref op status len

/-- STAGE_DATA: the `n` bytes of the buffer at `off`; none where the buffer could not be read. The data replace what was there before,
and the object has to be verified again. -/
def execStageData (ref : CmdRef) (off : BitVec 32) (n : Nat) (buf : Option (List Byte)) (s : State) : Out :=
  .next (cmdRun ref 0x41 (fun t0 =>
    let t := when (stageHolder t0 ref.session) (wr I.UPD_HOLDT (upNow t0)) t0
    if !stageHolder t ref.session then updDone ref 0x41 cSTAGINGBUSY t
    else if off.toNat + n > rd t I.UPD_LEN then updDone ref 0x41 cBADARG t
    else match cmdBytes t ref buf with
      | none => updDone ref 0x41 cBUFERR t
      | some bs =>
        let rs := rangesAdd off.toNat (off.toNat + n) t.stagedRanges
        { t with stagedRanges := rs, staged := none, stagedData := stagedPut off.toNat (bs.take n) t.stagedData }
          |> wr UPD_STAGED_BYTES (rangesBytes rs) |> wr UPD_STATUS_STAGE 1 |> updMoved ref 0x41 cOK n) s)

/-- Bindings of an image beside its signature and SECVER (Table 20.6). -/
def bindingsHold (s : State) (i : ImageInfo) : Bool :=
  i.devid == 0x0A07 && bit i.issues (rd s SYS_IDENT_ISSUE) && bit i.variants (rd s SYS_IDENT_VARIANT)
    && (i.units.isEmpty || i.units.contains (rd s SYS_SERIAL))

/-- Status of the verification of a staged object. -/
def stagedCheck (s : State) (obj : StagedObj) : Nat :=
  if rd s UPD_STAGED_BYTES < rd s I.UPD_LEN then cCHECK
  else match obj, rd s UPD_STATUS_KIND with
    | .image i, 0 =>
      if !i.signed then cCHECK else if !bindingsHold s i then cBASE else if i.secver < rd s UPD_SECMIN then cLIMIT else cOK
    | .creds ok c, 1 => if ok && decide (c.entries.length ≤ 64 ∧ c.anchors.length ≤ 4) then cOK else cCHECK
    | .settings b, 2 => if b.crcOk then cOK else cCHECK
    | _, _ => cCHECK

/-- The image slots once an object has been verified: a firmware image fills the staging slot (R484). -/
def stagedSlots (obj : StagedObj) (n : Nat) (l : List ImageInfo) : List ImageInfo :=
  match obj with
  | .image i => l.set n i
  | _ => l

/-- A verified object: event 487; an image then stands in the staging slot. -/
def stagedKeep (obj : StagedObj) (s : State) : State :=
  { s with staged := some obj,
           slots := stagedSlots obj (rd s UPD_SLOTS_STAGE) s.slots }
    |> wr UPD_STATUS_STAGE 2 |> raise 487

/-- UPDATE_STAGE_END: `obj` is what the staged data hold. -/
def execUpdateStageEnd (ref : CmdRef) (obj : StagedObj) (s : State) : Out :=
  .next (cmdRun ref 0x42 (fun t =>
    if !stageHolder t ref.session then t |> raise 486 |> updDone ref 0x42 cSTAGINGBUSY
    else
      let r := stagedCheck t obj
      t |> wr I.UPD_HOLDT (upNow t) |> (if r = 0 then stagedKeep obj else fun u => u |> wr UPD_STATUS_STAGE 3 |> raise 486) |> updDone ref 0x42 r) s)

/-- STAGING_LOCK_TIMEOUT: 600 s have passed without STAGE_DATA or STAGE_END. -/
def execStagingLockTimeout (s : State) : Out :=
  .next (when (on s UPD_STATUS_LOCKED && decide (rd s I.UPD_HOLDT + 600 * nsPerS ≤ upNow s)) (fun t => t |> stageUnlock |> raise 492) s)

/-! Warm activation (Table 20.8) -/

/-- The journal buffer drained into the ring. -/
def journalFlush (s : State) : State :=
  let last := (s.journalBuf.getLast?.map (fun r => r.seq)).getD (rd s GRN_SEQ)
  showJournal { (wr GRN_SEQ last s) with journal := s.journal ++ s.journalBuf, journalBuf := [] }

/-- Every session closes. -/
def closeSessions (s : State) : State := (List.range 8).foldl (fun t n => sessClose n t) s

/-- Enabled channels go into hold (R489). -/
def jlaHold (s : State) : State :=
  (List.range 4).foldl (fun t c => when (on s (JLA_CTRL_EN c)) (set1 (I.JLA_HOLD c)) t) s

/-- Islands 1 to 8 reset; DDR, the Granary and the other islands keep what they hold. -/
def resetWarm (s : State) : State :=
  let t := s |> logSave |> forcesCleared
  { t with
      regs := t.regs.filter (fun p => keptByWarm p.1)
      mem := s.mem.filter (fun c => decide (c.1 < 0x800000000) || inGranary c.1)
      evFifo := [], evOpen := [], evHeld := [], extIrq := [], forcePend := [], chg := none, sol := Solver.reset
      prog := [], progPages := [], cores := State.reset.cores, banks := State.reset.banks, undo := [], undoOld := []
      undoFilter := [], qDirty := [], joinDirty := [], regq := [], stalled := [], canMap := [], canQ := [], safe := Safe.empty
      safeC := Safe.empty, dgrams := [], dma := State.reset.dma, own := State.reset.own, caches := [], recs := [], inval := []
      reload := [], regErrs := [], master := [] }
    |> wr PWR_ISLSTAT (Nat.land (rd s PWR_ISLSTAT) 0x1FFF00) |> clr I.BOOTED |> clr ACC_LOCK_ENGAGED
    |> clr GRN_STATUS_READY |> set1 I.HELD

/-- A module of a pair restarts: INIT until step 9, whatever it was, so that a standby joins again (R427, R449; DEDUCED, log entry 139). -/
def pairRestart (s : State) : State :=
  when (rd s PAIR_STATUS_STATE != 0 && rd s PAIR_STATUS_STATE != 1) (fun t => t |> wr PAIR_STATUS_STATE 1 |> clr PAIR_STATUS_CAUSE
    |> clr PAIR_COPY_REMAIN |> clr I.PAIR_INCOMPL |> clr I.PAIR_LASTBLK |> clr I.PAIR_TC |> raise 448) s

/-- Steps 2 and 3 at tS: safe outputs, new roles, Gleaner and journal in the Granary, sessions closed, Jalora hold, and the
reset of islands 1 to 8; steps 4 to 8 are the start-up commands that follow. -/
def warmSwitch (s : State) : State :=
  s |> endPending cSUPERSEDED |> safeAssert |> activateRoles (rd s I.UPD_WARMKIND) (on s I.UPD_WARMREV) |> closeAll |> glnPersist |> journalFlush
    |> closeSessions |> jlaHold |> pairRestart |> clr I.UPD_WARM |> resetWarm

/-- The warm activation goes on once the controller has stopped. -/
def warmAtStop (s : State) : State := if on s I.UPD_WARM && ctlState s != stRUN then warmSwitch s else s

/-- An activation of KIND 0 or 2 is accepted: event 488; in RUN a STOP is pending, in any other state tS = tA. -/
def warmStart (sess kind : Nat) (revert restart : Bool) (s : State) : State :=
  let run := ctlState s == stRUN
  s |> raise 488 |> set1 UPD_STATUS_ACTIVATING |> set1 I.UPD_WARM |> wr I.UPD_WARMRUN (b2n (restart && run))
    |> wr I.UPD_WARMKIND kind |> wr I.UPD_WARMREV (b2n revert)
    |> (if run then fun t => t |> endPending cSUPERSEDED |> wr I.CYC_PENDCMD 2 |> wr I.CYC_PENDSESS sess |> set1 CYC_STATE_TRANS
        else warmAtStop)

/-- A credential set becomes current at once: event 499 (R488). -/
def credsActivate (s : State) : State :=
  match s.staged with
  | some (.creds _ c) =>
    { s with creds := c, prevCreds := s.creds, staged := none, stagedRanges := [], stagedData := [] }
      |> wr ACC_CRED_SETVER c.ver |> wr ACC_CRED_ENTRIES c.entries.length |> clr UPD_STATUS_STAGE |> clr UPD_STAGED_BYTES
      |> raise 499
  | _ => s

/-- In the ROM the staged image becomes the execution bank, and the module restarts from the ROM (R487). -/
def romActivate (revert : Bool) (s : State) : State :=
  s |> activateRoles 0 revert |> clr I.ROM |> wr PWR_ISLSTAT 0x100000 |> set1 I.HELD

/-- The module is active in a pair whose partner is in SYNC. -/
def pairedSync (s : State) : Bool := rd s PAIR_STATUS_STATE == 3 && rd s I.PAIR_PARTNER == 6

/-- A REVERT has something to go back to: a fallback image that reads the present settings, or a usable previous bank. A
credential set has no REVERT (DESIGN CHOICE, log entry 37). -/
def revertOk (s : State) (kind : Nat) : Bool :=
  let fmt := (setBank s (rd s GRN_SETBANK_CURRENT)).format
  if kind = 0 then imageOk s (fallImage s) && decide ((fallImage s).fmtmin ≤ fmt ∧ fmt ≤ (fallImage s).fmtout)
  else kind == 2 && bankUsable s (setBank s (1 - rd s GRN_SETBANK_CURRENT))

/-- Status of an ACTIVATE. -/
def activateCheck (s : State) (sess kind : Nat) (revert : Bool) : Nat :=
  if kind = 3 then cBADARG
  else if romRefuses s sess kind then cSTATE
  else if !activateRole s sess then cROLE
  else if on s UPD_STATUS_ACTIVATING ∨ (!revert ∧ (rd s UPD_STATUS_STAGE ≠ 2 ∨ rd s UPD_STATUS_KIND ≠ kind)) then cSTATE
  else if pairedSync s then cPAIRED
  else if revert && !revertOk s kind then cCHECK
  else cOK

/-- ACTIVATE: ARG0[1:0] KIND, [2] REVERT, [3] RESTART. It completes before step 1; the lock on the staged object ends. -/
def execActivate (ref : CmdRef) (kind : Fin 4) (revert restart : Bool) (s : State) : Out :=
  .next (cmdRun ref 0x43 (fun t =>
    let r := activateCheck t ref.session kind revert
    let t1 := t |> audit 0x0F (r != 0) ref.session kind 0 0 |> updDone ref 0x43 r
    if r ≠ 0 then t1
    else
      let t2 := when (!revert) stageUnlock t1
      if kind.val = 1 then credsActivate t2
      else if on t I.ROM then romActivate revert t2
      else warmStart ref.session kind revert restart t2) s)

/-- CONFIRM: the trial ends (R490). -/
def execConfirm (ref : CmdRef) (s : State) : Out :=
  .next (cmdRun ref 0x44 (fun t =>
    let r := if !activateRole t ref.session then cROLE else if on t UPD_STATUS_TRIAL then cOK else cSTATE
    let t1 := audit 0x10 (r != 0) ref.session 0 0 0 t
    (if r = 0 then
      t1 |> clr UPD_STATUS_TRIAL |> raise 490
        |> when (rd t I.UPD_TRIALKIND == 0) (wr UPD_SECMIN (max (rd t UPD_SECMIN) (runningImage t).secver))
     else t1) |> updDone ref 0x44 r) s)

end Sys2Proof.Machine
end

