-- ==== Sys2Proof/Machine/Pair.lean ====
section
/-! DEFINITION. Module pair and referee (R425 to R452): POLL and STATUS, pair states, demotion, fencing and promotion, the pair
link, joining, full copy and deltas, the verification cycle, health, mirroring, planned switch-over. -/

namespace Sys2Proof.Machine

open R

/-! Pair states (Table 18.1) -/

def prALONE : Nat := 0
def prINIT : Nat := 1
def prREADY : Nat := 2
def prACTIVE : Nat := 3
def prJOINING : Nat := 4
def prCOPYING : Nat := 5
def prSYNC : Nat := 6
def prSTALE : Nat := 7
def prPROMOTING : Nat := 8
def prFENCED : Nat := 9

def prState (s : State) : Nat := rd s PAIR_STATUS_STATE

/-- Pair position: 1 or 2; 0 without one (Table 2.3). -/
def prPos (s : State) : Nat := if rd s PAIR_STATUS_POS = 2 then 1 else if rd s PAIR_STATUS_POS = 1 then 2 else 0

/-- The module takes part in a pair. -/
def inPair (s : State) : Bool := prState s != prALONE && prPos s != 0

/-- The pair state changes: event 448. -/
def prEnter (st : Nat) (s : State) : State := if prState s = st then s else s |> wr PAIR_STATUS_STATE st |> raise 448

/-- Causes of STALE (Table 18.10). -/
def pcPLINK : Nat := 1
def pcBREAK : Nat := 2
def pcVERIFY : Nat := 3
def pcJOINREF : Nat := 4
def pcDEMOTED : Nat := 5

/-- A standby goes out of date: event 454. -/
def prStale (cause : Nat) (s : State) : State :=
  s |> wr PAIR_STATUS_CAUSE cause |> prEnter prSTALE |> clr I.PAIR_INCOMPL |> clr I.PAIR_LASTBLK |> clr I.PAIR_TC
    |> clr PAIR_COPY_REMAIN |> raise 454

/-- STOPCAUSE 0x06 clears when the module becomes a standby again or active (R427). -/
def pairStopClear (s : State) : State := when (rd s CYC_STATE_STOPCAUSE == 6) (clr CYC_STATE_STOPCAUSE) s

/-- The time unit of a standby: PAIR, once the oven is warm (R278, Table 11.1). -/
def timPair (s : State) : State :=
  if timState s = tmWARMUP ∨ timState s = tmPAIR then s else s |> timEnter tmPAIR |> set1 I.TIM_PAIRSTEP

/-- The time unit leaves PAIR without a step (Table 11.1). -/
def timUnpair (s : State) : State :=
  if timState s ≠ tmPAIR then s
  else s |> clr I.TIM_PAIRSTEP |> (if on s TIM_CTRL_PPS_EN then holdover else timEnter tmFREERUN)

/-- A joining module asks the active for a copy, with what Table 18.5 compares. -/
def joinAsk (s : State) : State :=
  when (on s PAIR_STATUS_PLINK) (emit (.pair 12 [rd s PAIR_VER, rd s SYS_IDENT_ISSUE, rd s SYS_IDENT_VARIANT, rd s PAIR_CTRL_PAIRID,
    prPos s, rd s I.SFU_RTID])) s

/-- A standby runs its tests in Triad mode (R440), unless a slice has failed or a change of mode or a join is under way (DESIGN CHOICE, log
entry 139). -/
def standbyTriad (s : State) : State :=
  when (rd s SLC_FAILED == 0 && !on s SLC_MODE_REQPEND && rd s SLC_READMIT_PHASE == 0) (fun t => t |> clr SLC_MODE |> wr SLC_MODE_PART 7
    |> clr I.SLC_FREE) s

/-- The module becomes a standby: JOINING. -/
def prJoin (s : State) : State :=
  s |> prEnter prJOINING |> clr PAIR_STATUS_CAUSE |> clr PAIR_STATUS_JOINERR |> clr I.PAIR_VERMISS |> clr I.PAIR_VEROK
    |> pairStopClear |> timPair |> standbyTriad |> joinAsk

/-- A join may be attempted: not after a refusal before REJOIN, and from STALE only while the link is up (R436, R438). -/
def mayJoin (s : State) : Bool := !on s I.PAIR_NOJOIN && (prState s != prSTALE || on s PAIR_STATUS_PLINK)

/-- The module is named active and drives the zone. -/
def prActivate (s : State) : State :=
  s |> prEnter prACTIVE |> clr PAIR_STATUS_CAUSE |> clr I.PAIR_RESIGN |> clr I.PAIR_PLANNED |> clr I.PAIR_RESIGNSENT
    |> pairStopClear |> timUnpair

/-! Demotion and fencing (R432, R433) -/

/-- The controller of a demoted active enters STOP with cause 0x06 (R432); one in STOP takes the cause. -/
def demoteStop (s : State) : State :=
  if ctlState s = stRUN ∨ ctlState s = stHALT then autoStop 6 s
  else s |> endPending cSUPERSEDED |> wr CYC_STATE_STOPCAUSE 6 |> when (ctlState s == stFAULT) enterStop

/-- A demoted active: cycle abandoned, controller in STOP with cause 0x06, no PTP. Its Jalora channels enter MIRROR at their
next round starts, and the service address is released with the state, and the sessions on it end (R444). -/
def prDemote (st cause ev : Nat) (s : State) : State :=
  s |> abandonCycle true |> demoteStop
    |> clr I.PAIR_RESIGN |> clr I.PAIR_PLANNED |> clr I.PAIR_RESIGNSENT |> wr PAIR_STATUS_CAUSE cause |> prEnter st |> raise ev
    |> serviceSessionsEnd |> timPair |> stoppedSlices |> warmAtStop

/-! Promotion (Table 18.7) -/

/-- A gratuitous ARP for the service address. -/
def arpFrame (s : State) : BbFrame :=
  ⟨0xFFFFFFFFFFFF, rd s PAIR_SVCMAC_MAC, none, none, .arp,
    arpRest 1 (rd s PAIR_SVCMAC_MAC) (rd s PAIR_SVCIP_IP) 0 (rd s PAIR_SVCIP_IP)⟩

/-- It is queued in class 7 on each enabled backbone port. -/
def arpSend (s : State) : State :=
  [0, 1, 2, 3].foldl (fun t n => when (portOn t n) (bbEnqueue ⟨n, 7, arpFrame t, none, none, none⟩) t) s

/-- The sequence generation of R299 starts afresh. -/
def frerAfresh (s : State) : State :=
  bbsSet (fun b => { b with streams := b.streams.map (fun p => (p.1, { p.2 with txSeq := 0 })) }) s

/-- Step 1, at tR: PROMOTING; an incomplete delta is discarded. -/
def prPromote (s : State) : State :=
  s |> prEnter prPROMOTING |> raise 457 |> incSat PAIR_CNT_PROMOTE 1 |> glnAdd 65 1 |> clr I.PAIR_INCOMPL |> clr I.PAIR_LASTBLK
    |> wr I.PAIR_PROMT (upNow s) |> clr I.PAIR_PROM2

/-- Steps 2 and 3, 20 µs after tR: CKP_SEQ, caches and mode; the time unit leaves PAIR. -/
def promoteLoad (s : State) : State :=
  let m := rd s I.PAIR_MODE
  { s with caches := [] } |> set1 I.PAIR_PROM2
    |> wr CKP_SEQ (rd s PAIR_ANNOUNCED) |> seqReserve |> wr SLC_MODE m |> wr SLC_MODE_PART (modeSlices m) |> timUnpair

/-- No start of the controller is possible: a restart is blocked, or the OCXO never became valid (R58, R142). -/
def startBlocked (s : State) : Bool := on s CYC_STATE_RSTBLOCK || on s I.PWR_OCXOFAIL

/-- Steps 4 and 6, 60 µs after tR: the service address, ACTIVE, and the pending start, unless a start is blocked; without HOLDUP_RDY
the engine is not yet enabled (R61). -/
def promoteEnd (s : State) : State :=
  s |> arpSend |> frerAfresh |> ownerRelease |> prActivate
    |> when (!startBlocked s) (fun t => t |> when (on t PWR_SUPPLY_HOLDUP_RDY) (set1 CYC_CTRL_EN) |> set1 CYC_STATE_TRANS
      |> wr I.CYC_PENDCMD 6 |> wr I.CYC_PENDDUE (rd s I.PAIR_PROMT + 60000))

/-- A promotion goes on as its times come. -/
def promoteOn (s : State) : State :=
  if prState s ≠ prPROMOTING then s
  else s |> when (!on s I.PAIR_PROM2 && decide (rd s I.PAIR_PROMT + 20000 ≤ upNow s)) promoteLoad
    |> when (decide (rd s I.PAIR_PROMT + 60000 ≤ upNow s)) promoteEnd

/-! POLL (R429 to R431) -/

/-- A POLL with EPOCH `e` that names `a` is accepted: a lower epoch only if it names the present active. -/
def pollAccepted (s : State) (e a : Nat) : Bool :=
  decide (rd s PAIR_EPOCH ≤ e) || (a != 0 && a == rd s PAIR_REFACT_ACTIVE)

/-- The pair state after an accepted POLL that names `a`. -/
def pollRole (a : Nat) (s0 : State) : State :=
  let s := wr I.PAIR_ZEROS (if a = 0 then min 3 (rd s0 I.PAIR_ZEROS + 1) else 0) s0
  let st := prState s
  let me := prPos s
  if st = prACTIVE then (if a = me then s else prDemote prSTALE pcDEMOTED 458 s)
  else if st = prREADY ∧ a = me then prActivate s
  else if st = prSYNC ∧ a = me then prPromote s
  else if st = prFENCED ∧ a = me then prActivate s
  else if (st = prREADY ∨ st = prSTALE ∨ st = prFENCED) ∧ a ≠ 0 ∧ a ≠ me then (if mayJoin s then prJoin s else s)
  else if (st = prJOINING ∨ st = prCOPYING ∨ st = prSTALE ∨ st = prFENCED) ∧ rd s I.PAIR_ZEROS = 3 then
    s |> prEnter prREADY |> clr PAIR_STATUS_CAUSE |> clr PAIR_COPY_REMAIN
  else s

/-- A valid POLL, direct or relayed: the referee link is there, and the POLL is accepted or ignored. -/
def pollTake (e a : Nat) (s : State) : State :=
  s |> when (decide (rd s PAIR_STATUS_MISSED ≥ 3)) (raise 451) |> clr PAIR_STATUS_MISSED |> wr I.PAIR_HBT (upNow s)
    |> (fun t => if pollAccepted t e a then t |> wr PAIR_EPOCH e |> wr PAIR_REFACT_ACTIVE a |> pollRole a else raise 465 t)

/-- POLL_RECEIVE: a frame with a correct CRC. A foreign PAIRID is discarded; a module that takes no part in a pair has its
transceiver off. The POLL is forwarded over the pair link (R433). -/
def execPollReceive (pairid : BitVec 16) (epoch : BitVec 32) (active : Fin 3) (s : State) : Out :=
  .next (if !inPair s || pairid.toNat != rd s PAIR_CTRL_PAIRID then s
    else s |> set1 PAIR_STATUS_REFOK |> clr PAIR_STATUS_RELAY |> wr I.PAIR_POLLT (upNow s + 1)
      |> clr I.PAIR_STSENT |> clr I.PAIR_STPART
      |> when (on s PAIR_STATUS_PLINK) (emit (.pair 3 [pairid.toNat, epoch.toNat, active.val]))
      |> pollTake epoch.toNat active)

/-- A POLL came directly in this heartbeat, of at least 990 µs. -/
def pollHere (s : State) : Bool := rd s I.PAIR_POLLT != 0 && decide (upNow s + 1 < rd s I.PAIR_POLLT + 990000)

/-- RELAYED_POLL_RECEIVE: used only where no POLL came directly in the heartbeat (R433). -/
def execRelayedPollReceive (pairid : BitVec 16) (epoch : BitVec 32) (active : Fin 3) (s : State) : Out :=
  .next (if !inPair s || pairid.toNat != rd s PAIR_CTRL_PAIRID || !on s PAIR_STATUS_PLINK || pollHere s then s
    else s |> clr PAIR_STATUS_REFOK |> set1 PAIR_STATUS_RELAY |> raise 464 |> pollTake epoch.toNat active)

/-- A heartbeat without a valid POLL: events 449 and 450. An active without one in 2 heartbeats and without pair link fences
itself. -/
def heartbeatMissed (s : State) : State :=
  let m := satAdd 8 (rd s PAIR_STATUS_MISSED) 1
  s |> wr PAIR_STATUS_MISSED m |> wr I.PAIR_HBT (upNow s) |> incSat PAIR_CNT_HBMISS 1 |> glnAdd 66 1 |> clr PAIR_STATUS_REFOK |> raise 449
    |> when (m == 3) (raise 450)
    |> when (prState s == prACTIVE && decide (m ≥ 2) && !on s PAIR_STATUS_PLINK) (prDemote prFENCED 0 460)

/-- HEARTBEAT_MISSED: at least 990 µs have passed since the last POLL or missed heartbeat. -/
def execHeartbeatMissed (s : State) : Out :=
  .next (if inPair s && decide (rd s I.PAIR_HBT + 990000 ≤ upNow s) then heartbeatMissed s else s)

/-! STATUS (Table 18.3) -/

/-- A frame on the referee bus: start byte, addresses, TYPE, LEN, payload, CRC (R428). -/
def refFrame (src ty : Nat) (payload : List Byte) : List Byte :=
  let body := [BitVec.ofNat 8 (16 * src), BitVec.ofNat 8 ty, BitVec.ofNat 8 payload.length] ++ payload
  [0x7E] ++ body ++ bytesBE 2 (crc16 body)

/-- Byte 7 of STATUS. -/
def statusFlags (s : State) : Nat :=
  b2n (on s I.PAIR_RESIGN) + 2 * b2n (on s I.PAIR_PLANNED) + 4 * b2n (on s PAIR_STATUS_PLINK) + 16 * b2n (on s PAIR_STATUS_REFOK)

/-- The payload of the module's STATUS, most significant byte first (DESIGN CHOICE, log entry 61). -/
def statusBytes (s : State) : List Byte :=
  bytesBE 2 (rd s PAIR_CTRL_PAIRID) ++ bytesBE 4 (rd s PAIR_EPOCH) ++ [BitVec.ofNat 8 (prState s), BitVec.ofNat 8 (statusFlags s)]
    ++ bytesBE 8 (if prState s = prACTIVE then rd s CKP_SEQ else rd s PAIR_APPLIED) ++ bytesBE 4 (rd s PAIR_HEALTH)

/-- It is the slot of a position: 100 µs ± 5 µs or 300 µs ± 5 µs after the first start bit of a POLL, which takes 70 µs (R429). -/
def inStatusSlot (s : State) (pos : Nat) : Bool :=
  let at_ := rd s I.PAIR_POLLT + (if pos = 1 then 29999 else 229999)
  pollHere s && decide (at_ ≤ now s + 5000 ∧ now s ≤ at_ + 5000)

/-- The first STATUS with RESIGN = 1 is sent, or given to the partner to send: event 459. -/
def resignSent (s : State) : State :=
  when (on s I.PAIR_RESIGN && !on s I.PAIR_RESIGNSENT) (fun t => t |> set1 I.PAIR_RESIGNSENT |> raise 459) s

/-- STATUS_SEND in the module's own slot, once for each POLL, or, with the partner's payload, in the partner's slot with RELAYED = 1
(R429, R433). A module that has only a relayed POLL gives its STATUS to the partner. Event 459 marks the first STATUS with RESIGN = 1. -/
def execStatusSend (partner : Option (List Byte)) (s : State) : Out :=
  .next (if !inPair s then s
    else match partner with
      | none =>
        if !on s PAIR_STATUS_REFOK then
          when (on s PAIR_STATUS_RELAY && on s PAIR_STATUS_PLINK) (fun t => t |> emit (.pair 10 ((statusBytes s).map BitVec.toNat)) |> resignSent) s
        else if on s I.PAIR_STSENT || !inStatusSlot s (prPos s) then s
        else s |> set1 I.PAIR_STSENT |> emit (.frame 0x27 12 (refFrame (prPos s) 2 (statusBytes s)))
          |> resignSent
      | some p =>
        when (on s PAIR_STATUS_REFOK && on s PAIR_STATUS_PLINK && !on s I.PAIR_PARTREF && !on s I.PAIR_STPART
            && inStatusSlot s (3 - prPos s))
          (fun t => t |> set1 I.PAIR_STPART
            |> emit (.frame 0x27 12 (refFrame (3 - prPos s) 2 ((p.take 20).set 7 (p.getD 7 0 ||| 8))))) s)

/-! The pair link (R434, R435) -/

/-- The pair link is lost: event 452; nothing is known of the partner any more, and a joining or synchronous standby becomes STALE (R434,
R438, R447). -/
def pairLinkLost (s : State) : State :=
  if !on s PAIR_STATUS_PLINK then s
  else s |> clr PAIR_STATUS_PLINK |> clr I.PAIR_PARTNER |> clr I.PAIR_PARTREF |> raise 452
    |> when (decide (prJOINING ≤ prState s ∧ prState s ≤ prSYNC)) (prStale pcPLINK)

/-- PAIR_LINK_DOWN. -/
def execPairLinkDown (s : State) : Out := .next (pairLinkLost s)

/-- MODULE_WITHDRAWN: both feeds, the PCIe link and the pair and referee links are gone (R30). -/
def execModuleWithdrawn (s : State) : Out :=
  .next (s |> feedLost 0 |> feedLost 1 |> clr HBR_LINK_LINKUP |> clr HBR_LINK_WIDTH |> clr HBR_LINK_SPEED
    |> pairLinkLost |> clr PAIR_STATUS_REFOK)

/-- PAIR_LINK_UP: event 453; a module in JOINING asks. -/
def execPairLinkUp (s : State) : Out :=
  .next (if !inPair s || on s PAIR_STATUS_PLINK then s
    else s |> set1 PAIR_STATUS_PLINK |> raise 453 |> when (prState s == prJOINING) joinAsk)

/-- PAIR_KEEPALIVE_SEND on a lane. -/
def execPairKeepaliveSend (lane : Fin 2) (s : State) : Out := .next (if inPair s then emit (.pair 1 [lane.val]) s else s)

/-- The slew that follows the active: at most 100 ppm towards it, its size not stated (log entry 3). -/
def pairSlew (ofs : Int) (s : State) : State :=
  let k : Int := min 100000000000000 (Config.freeValue s.freeCtr)
  s |> useFree |> timSet (fun u => { u with slew := if ofs > 0 then -k else if ofs < 0 then k else 0 }) |> rateShow

/-- Standby time minus active time, from the four stamps of an exchange: half the difference of what the two messages took. -/
def pairOfs (m : PairTime) : Int := ((m.t2 - m.t1) - (m.t4 - m.t3)) / 2

/-- A time message with the sender's time and what its TIME LED shows. -/
def timeMessage (s : State) : Emit := .pair 2 [rd s TIM_SEC, rd s TIM_NSEC, timeLamp s]

/-- PAIR_TIME_MESSAGE: an exchange; the active tells what its TIME LED shows (DEDUCED, log entry 111). -/
def execPairTimeMessage (m : PairTime) (s : State) : Out :=
  .next (if !on s PAIR_STATUS_PLINK then s
    else if pairStandby s then
      s |> emit (timeMessage s) |> wrS PAIR_TIMEOFS_OFS (pairOfs m) |> wr I.TIM_PLAMP m.lamp
        |> when (timState s == tmPAIR) (fun t =>
            if on t I.TIM_PAIRSTEP then t |> clr I.TIM_PAIRSTEP |> timeStep (-pairOfs m) else pairSlew (pairOfs m) t)
    else when (prState s == prACTIVE) (emit (timeMessage s)) s)

/-! Joining (R436, R437) -/

/-- The first condition of Table 18.5 that fails, or 0: `ver` to `rtid` are the partner's values, and `fault` tells that the
active's controller is in FAULT. -/
def joinErr (s : State) (ver issue variant pairid pos : Nat) (same : Bool) (rtid : Nat) (fault : Bool) : Nat :=
  if ver ≠ rd s PAIR_VER then 1
  else if issue ≠ rd s SYS_IDENT_ISSUE ∨ variant ≠ rd s SYS_IDENT_VARIANT then 2
  else if pairid ≠ rd s PAIR_CTRL_PAIRID ∨ pos = prPos s then 3
  else if !same then 4
  else if rtid ≠ rd s I.SFU_RTID then 5
  else if !on s PAIR_STATUS_PLINK || fault then 6
  else 0

/-- The joining module's part: COPYING with `units` of 64 KiB to move (event 455), or STALE with JOINREF (event 461). -/
def joinAnswer (err units : Nat) (s : State) : State :=
  if err = 0 then s |> prEnter prCOPYING |> wr PAIR_COPY_REMAIN units |> clr I.PAIR_LASTBLK |> clr I.PAIR_INCOMPL |> raise 455
  else s |> wr PAIR_STATUS_JOINERR err |> raise 461 |> set1 I.PAIR_NOJOIN |> prStale pcJOINREF

/-- JOIN_REQUEST: a joining module asks, and the active checks. -/
def execJoinRequest (ver : Byte) (issue variant : Nat) (pairid : BitVec 16) (pos : Fin 3) (same : Bool) (rtid : BitVec 32)
    (fault : Bool) (units : BitVec 32) (s : State) : Out :=
  let e := joinErr s ver.toNat issue variant pairid.toNat pos same rtid.toNat
    (if prState s = prACTIVE then ctlState s == stFAULT else fault)
  .next (if prState s = prACTIVE then s |> emit (.pair 7 [e]) |> when (e == 0) (raise 455)
    else if prState s = prJOINING then joinAnswer e units.toNat s else s)

/-- Memory that the deltas may reach (R438, R439). -/
def copyRegion (a : Nat) : Bool :=
  match regionOf a with
  | .ddr | .sram | .safetyArea => true
  | .image => imgArea a != .spare
  | _ => false

/-- A block of at most 64 KiB lies wholly in what the full copy moves: shared SRAM, the image, and the DDR ranges of PAIR_RGN0 to
PAIR_RGN7 (R437). -/
def copyBlock (s : State) (a n : Nat) : Bool :=
  let z := a + n - 1
  let ddr := (List.range 8).any (fun r =>
    let lo := 65536 * rd s (PAIR_RGN_BASE r)
    decide (lo ≤ a ∧ z < lo + 65536 * rd s (PAIR_RGN_SIZE r)))
  decide (1 ≤ n ∧ n ≤ 65536)
    && (if regionOf a = .ddr then ddr else copyRegion a && copyRegion z && decide (a / 65536 = z / 65536 ∨ 0x1000000000 ≤ a ∧ z < 0x1000400000))

/-- The checkpoint goes to the invalid bank, which becomes valid. -/
def bankPut (k : Checkpoint) (s : State) : State :=
  let b := 1 - rd s I.CKP_BANK
  { s with banks := s.banks.set b k } |> wr I.CKP_BANK b

/-- Every force released. -/
def forcesRelease (s : State) : State :=
  (List.range forceMax).foldl (fun t i =>
    when (on t (CYC_FORCE_VALID i)) (forceRelease (rd t (CYC_FORCE_SPACE i)) (rd t (CYC_FORCE_INDEX i))) t) s

/-- The small state of the full copy. The timers are now the active's, so that none is stamped anew (R201). -/
def smallPut (k : Checkpoint) (sf : Safe) (forces : List (Nat × Nat × Nat)) (mode : Nat) (record : List Byte)
    (retain : List Nat) (period phase : Nat) (s : State) : State :=
  forces.foldl (fun t f => forceSet f.1 f.2.1 f.2.2 t) (forcesRelease { s with safe := sf, safeC := sf })
    |> bankPut k |> wr I.PAIR_MODE mode |> clr I.TMR_REBASE
    |> wr IMG_RETAIN_MPL (retain.getD 0 0) |> wr IMG_RETAIN_TPL (retain.getD 1 0) |> wr IMG_RETAIN_CPL (retain.getD 2 0)
    |> wr IMG_RETAIN_WPL (retain.getD 3 0) |> wr CYC_PERIOD period |> wr CYC_PHASE phase
    |> when (!record.isEmpty) (fun t =>
        t |> memClear 0x1040500000 0x1040510000 |> memWrite 0x1040500000 (record.take 65536) |> set1 I.SFU_STORED
          |> wr I.SFU_STOREDLEN record.length |> wr I.SFU_STOREDCV (crc32 0xFFFFFFFF record) |> sfuStartCheck)

/-- One block applied. -/
def blockPut (b : CopyBlock) (s : State) : State :=
  match b with
  | .memory a bs => if copyBlock s a bs.length then memWrite a bs s else s
  | .program c => loadProgram c s
  | .small k sf fs m r rt p ph => smallPut k sf fs m r rt p ph s

/-- The force list. -/
def forceList (s : State) : List Nat :=
  (List.range forceMax).flatMap (fun i =>
    if on s (CYC_FORCE_VALID i) then [rd s (CYC_FORCE_SPACE i), rd s (CYC_FORCE_INDEX i), rd s (CYC_FORCE_VALUE i)] else [])

/-- Bytes of memory as numbers. -/
def copyNats (s : State) (a n : Nat) : List Nat := (committedRead s a n).map BitVec.toNat

/-- The stage entries of a bank. -/
def bankStages (s : State) (b : Nat) : List Nat := (List.range 32).map (stageOf s b)

/-- How many task table entries the stages of a bank reach: a stage names the first of up to four. -/
def taskCount (s : State) (b : Nat) : Nat :=
  (bankStages s b).foldl (fun n v => if bit v 63 then max n (bits v 0 16 + 4) else n) 0

/-- The program as the active gives it: identifier, bank in use, and of both banks the stages, the task table, and the binding table;
sizes, active pages and the words of the pages (R437). -/
def programData (s : State) : List Nat :=
  [rd s CYC_CHGID, rd s CYC_CHG_BANK]
    ++ [0, 1].flatMap (fun b => bankStages s b ++ [rd s (CYC_TASKTAB_BASE b)] ++ copyNats s (16 * rd s (CYC_TASKTAB_BASE b)) (16 * taskCount s b)
      ++ [rd s (IMG_BIND_BASE b), rd s (IMG_BIND_ENTRIES b)] ++ copyNats s (16 * rd s (IMG_BIND_BASE b)) (16 * rd s (IMG_BIND_ENTRIES b)))
    ++ [rd s IMG_SIZE0_IPL, rd s IMG_SIZE0_QPL, rd s IMG_SIZE1_MPL, rd s IMG_SIZE2_TPL, rd s IMG_SIZE2_CPL, rd s IMG_SIZE1_EPL, rd s IMG_SIZE2_WPL]
    ++ s.progPages ++ s.master.flatMap (fun w => [w.1, w.2])

/-- The active's side of a block: of memory the committed bytes of the range, of the program what programData gives,
of the small state what smallPut takes (R437). Their form on the link is the model's (log entry 105). -/
def blockSend (b : CopyBlock) (s : State) : State :=
  match b with
  | .memory a bs => when (copyBlock s a bs.length) (emit (.pair 9 (a :: (committedRead s a bs.length).map BitVec.toNat))) s
  | .program _ => emit (.pair 9 (programData s)) s
  | .small .. => emit (.pair 9 (archData (validBank s) ++ forceList s
      ++ [rd s SLC_MODE, rd s IMG_RETAIN_MPL, rd s IMG_RETAIN_TPL, rd s IMG_RETAIN_CPL, rd s IMG_RETAIN_WPL, rd s CYC_PERIOD, rd s CYC_PHASE]
      ++ (memRead s 0x1040500000 (rd s I.SFU_STOREDLEN)).map BitVec.toNat)) s

/-- FULL_COPY_BLOCK: `remain` is what is still to move after it. The active reads a block of what a COPYING partner takes; the standby
applies it. -/
def execFullCopyBlock (b : CopyBlock) (remain : BitVec 32) (s : State) : Out :=
  .next (if prState s = prACTIVE then when (rd s I.PAIR_PARTNER == prCOPYING && on s PAIR_STATUS_PLINK) (blockSend b) s
    else if prState s ≠ prCOPYING then s
    else s |> blockPut b |> wr PAIR_COPY_REMAIN remain.toNat |> when (remain.toNat == 0) (set1 I.PAIR_LASTBLK))

/-- The standby receives deltas. -/
def takesDeltas (s : State) : Bool := prState s == prCOPYING || prState s == prSYNC

/-- DELTA_HEADER: PAIR_ANNOUNCED; a header before the previous delta is complete breaks the stream (R438). -/
def execDeltaHeader (seq : BitVec 64) (s : State) : Out :=
  .next (if !takesDeltas s then s
    else s |> wr PAIR_ANNOUNCED seq.toNat |> (if on s I.PAIR_INCOMPL then prStale pcBREAK else set1 I.PAIR_INCOMPL))

/-! Deltas (R438) -/

/-- The safety receive slots of a pair record. -/
def slotsPut (l : List (Nat × Nat × List Byte)) (s : State) : State :=
  l.foldl (fun t e => memWrite (sfRx (e.1 % 128) (e.2.1 % 2)) (e.2.2.take 64) t) s

/-- Lines written to memory. -/
def linesPut (l : List (Nat × List Byte)) (s : State) : State :=
  l.foldl (fun t e => if copyRegion e.1 then memWrite (e.1 / 64 * 64) (e.2.take 64) t else t) s
/-- Output lines written to the committed Q copy. -/
def qLinesPut (l : List (Nat × List Byte)) (s : State) : State :=
  l.foldl (fun t e => memWrite (imgQC + 64 * (e.1 % 512)) (e.2.take 64) t) s

/-- Force changes of a pair record. -/
def forcesPut (l : List (Bool × Nat × Nat × Nat)) (s : State) : State :=
  l.foldl (fun t f => if f.1 then forceRelease f.2.1 f.2.2.1 t else forceSet f.2.1 f.2.2.1 f.2.2.2 t) s

/-- The switch that a tC mark of the delta before calls for: stage bank and migration list. -/
def deltaSwitch (s : State) : State :=
  if on s I.PAIR_TC then s |> clr I.PAIR_TC |> changeSwitch |> migrate |> changeFirstCommit else s

/-- A change set that the pair record carries during LOAD is loaded as well. -/
def deltaLoad (c : Option ChangeSet) (s : State) : State :=
  match c with
  | some c => { s with chg := some c } |> loadWrite c |> wr CYC_CHG_PHASE 2
  | none => s

/-- The delta applied: lines, output lines, checkpoint, CKP_SEQ, pair record, and the retained image to the Granary. -/
def deltaApply (d : Delta) (s : State) : State :=
  let s1 := s |> deltaSwitch |> slotsPut d.slots |> linesPut d.lines |> qLinesPut d.qlines |> bankPut d.ckp
  { s1 with safe := d.safe, safeC := d.safe }
    |> wr CKP_SEQ d.seq |> seqReserve |> wr I.CYC_T0SEC d.t0sec |> wr I.CYC_T0NS d.t0ns |> wr I.PAIR_MODE d.mode
    |> forcesPut d.forces |> deltaLoad d.load |> when d.tc (set1 I.PAIR_TC)
    |> journalRecord (d.lines.map (fun l => ⟨d.seq % 65536, l.1 / 64 * 64, true, []⟩))
    |> wr PAIR_APPLIED d.seq |> clr I.PAIR_INCOMPL |> emit (.pair 6 [d.seq])

/-- The state that the verification cycle of a delta reaches: the safety stage over the state before the delta, with its
receive slots and t0. Nothing of it is kept. -/
def verifyRun (d : Delta) (s : State) : State :=
  s |> slotsPut d.slots |> wr I.CYC_T0SEC d.t0sec |> wr I.CYC_T0NS d.t0ns |> wr I.CYC_T0SEQ (rd s CKP_SEQ)
    |> when (rd s SFU_STATUS_STATE == 3) (wr SFU_STATUS_STATE 4) |> sfuSafetyStage

/-- Transmit PDUs and stamp are those of the delta, as `t` holds them. -/
def verifySame (v t : State) : Bool :=
  memRead v sfStamp 8 == memRead t sfStamp 8
    && (List.range (recNConn v sfArea)).all (fun c =>
        !(cnCfg v sfArea c).valid || memRead v (sfTx c) (cnCfg v sfArea c).l == memRead t (sfTx c) (cnCfg v sfArea c).l)

/-- The result of a verification cycle (R440). -/
def verifyResult (ok : Bool) (s : State) : State :=
  if ok then s |> set1 I.PAIR_VEROK |> clr I.PAIR_VERMISS
  else
    let m := rd s I.PAIR_VERMISS + 1
    s |> raise 462 |> clr I.PAIR_VEROK |> wr I.PAIR_VERMISS (min m 3) |> when (decide (m ≥ 3)) (prStale pcVERIFY)

/-- DELTA_RECEIVE: a standby in SYNC verifies first; one in COPYING enters SYNC after the last block and one delta (R437). -/
def deltaReceive (d : Delta) (s : State) : State :=
  let t := deltaApply d s
  if prState s = prSYNC then verifyResult (verifySame (verifyRun d s) t) t
  else when (on s I.PAIR_LASTBLK) (fun u => u |> clr I.PAIR_LASTBLK |> prEnter prSYNC |> raise 456) t

/-- DELTA_RECEIVE. -/
def execDeltaReceive (d : Delta) (s : State) : Out :=
  .next (if takesDeltas s && on s I.PAIR_INCOMPL && d.seq == rd s PAIR_ANNOUNCED then deltaReceive d s else s)

/-- DELTA_ACKNOWLEDGE: the active's PAIR_APPLIED. -/
def execDeltaAcknowledge (seq : BitVec 64) (s : State) : Out :=
  .next (if prState s = prACTIVE then wr PAIR_APPLIED seq.toNat s else s)

/-! Self-test and health (R440, R441) -/

/-- STANDBY_SELF_TEST: one pass over every core and solver, every 10 s. -/
def execStandbySelfTest (ok : Bool) (s : State) : Out :=
  .next (if pairStandby s && decide (rd s I.PAIR_SELFT + 10000000000 ≤ upNow s) then
    s |> inc I.PAIR_SELFPASS |> wr I.PAIR_SELFOK (b2n ok) |> wr I.PAIR_SELFT (upNow s) else s)

/-- Links of the module's own path, channel 0 in bit 0. -/
def ownLinks (s : State) : Nat :=
  (List.range 4).foldl (fun v c => v + 2 ^ c * rd s (if prPos s = 1 then JLA_STATUS_LINKA c else JLA_STATUS_LINKB c)) 0

/-- TIMEOK (Table 18.6). -/
def timeOk (s : State) : Bool :=
  if pairStandby s then timState s == tmPAIR && decide ((rdS s PAIR_TIMEOFS_OFS).natAbs ≤ 50)
  else timState s == tmLOCKED || timState s == tmFREERUN

/-- The health word (Table 18.6). -/
def healthWord (s : State) : Nat :=
  b2n (rd s SLC_FAILED == 0) + 2 * b2n (rd s WNW_STATUS_CMP_OK == 7)
    + 4 * b2n (on s PWR_SUPPLY_FEED1_OK && on s PWR_SUPPLY_FEED2_OK) + 8 * b2n (!on s PWR_SUPPLY_HOLDUP_LOW)
    + 16 * b2n (!on s PWR_SUPPLY_PLATE_WARN) + 32 * b2n (timeOk s)
    + 64 * b2n (prState s == prACTIVE || on s I.PAIR_VEROK) + 128 * b2n (on s I.PAIR_SELFOK)
    + 2 ^ 12 * ownLinks s + 2 ^ 20 * rd s BBS_STATUS_LINK + 2 ^ 24 * rd s I.PAIR_SELFPASS

/-- HEALTH_UPDATE: every 10 ms; the word goes to the partner with the pair state and REFOWN. -/
def execHealthUpdate (s : State) : Out :=
  .next (if !inPair s || decide (upNow s < rd s I.PAIR_HEALTHT + 10000000) then s
    else s |> wr PAIR_HEALTH (healthWord s) |> wr I.PAIR_HEALTHT (upNow s)
      |> when (on s PAIR_STATUS_PLINK) (emit (.pair 4 [prState s, rd s PAIR_STATUS_REFOK, healthWord s])))

/-- PARTNER_HEALTH_RECEIVE: pair state, REFOWN and health of the partner; event 466 on a change of health. -/
def execPartnerHealthReceive (st : Fin 10) (refown : Bool) (health : BitVec 32) (s : State) : Out :=
  .next (if !inPair s || !on s PAIR_STATUS_PLINK then s
    else s |> wr I.PAIR_PARTNER st |> wr I.PAIR_PARTREF (b2n refown)
      |> when (health.toNat != rd s PAIR_PHEALTH_HEALTH) (fun t => t |> wr PAIR_PHEALTH_HEALTH health.toNat |> raise 466))

/-! Jalora in a pair (R442, R443) -/

/-- The path of the module's own port. -/
def ownPath (s : State) (c : Nat) : Nat := if on s (JLA_CTRL_PATHA_EN c) then 0 else 1

/-- A relayed module frame goes out at its action point, or is late: event 463. -/
def mirrorSend (c : Nat) (late : Bool) (bytes : List Byte) (s : State) : State :=
  if late then raise 463 s else emit (.frame (0x10 + c) (ownPath s c) (macFrame bytes)) s

/-- An OUTPUT payload in the standby's own transmit buffer. -/
def mirrorOutput (c seq ofs : Nat) (data : List Byte) (s : State) : State :=
  let b := rd s (JLA_STATUS_TXBUF c)
  s |> jlaStore (txBase s c b + ofs) data |> wr (JLA_TXSEQ_SEQ c) seq
    |> jset c (fun j => if b = 0 then { j with seq0 := seq } else { j with seq1 := seq })

/-- What the active sends at a round start: network time, page rotation, claims, trims, QUENCH and mailbox. -/
def mirrorRound (c : Nat) (delta : Int) (rot : Nat) (first : Bool) (claims : List Byte) (trims : List (Nat × Nat))
    (quench : List (Nat × Nat × Nat)) (busy : Bool) (mbox : List Byte) (s : State) : State :=
  let s1 := s |> jset c (fun j => { j with nt := ((now s : Int) + delta).toNat, rot := rot, firstRot := first, mboxLen := mbox.length })
    |> jlaStore (claimAddr s c 0) (claims.take (16 * claimCount s c)) |> wr (JLA_MBOXCTL_BUSY c) (b2n busy)
    |> wr (JLA_MBOXCTL_LEN c) mbox.length
  let s2 := trims.foldl (fun t e => if e.1 < nodeCount t c then jlaStore (delayAddr t c e.1 + 12) (bytesLE 4 e.2) t else t) s1
  let s3 := (quench.zipIdx).foldl (fun t q => if q.2 < 8 then jlaQuenchSet c q.2 q.1.1 q.1.2.2 q.1.2.1 t else t) s2
  (List.range 16).foldl (fun t i => wr (JLA_MBOX_DATA c i) (leBytes ((mbox.drop (4 * i)).take 4)) t) s3

/-- MIRROR_FRAME_RECEIVE. -/
def execMirrorFrameReceive (c : Fin 4) (m : MirrorMsg) (s : State) : Out :=
  .next (if !on s (I.JLA_MIRROR c) || !on s PAIR_STATUS_PLINK then s
    else match m with
      | .frame late bs => mirrorSend c late bs s
      | .output late seq ofs data bs => s |> mirrorOutput c seq ofs data |> mirrorSend c late bs
      | .round d rot f cl tr q b mb => mirrorRound c d rot f cl tr q b mb s)

/-- RELAYED_FRAME_RECEIVE: the copy of the other path, with the start observed at the partner's port (R443). -/
def execRelayedFrameReceive (c : Fin 4) (t : Int) (bytes : List Byte) (s : State) : Out :=
  .next (if inPair s && on s PAIR_STATUS_PLINK then jReceive c (1 - ownPath s c) t true bytes true s else s)

/-! Planned switch-over and rejoin (R448, R436) -/

/-- A switch-over is requested: refused unless the module is active and its partner in SYNC. -/
def switchRequest (s : State) : State :=
  if prState s = prACTIVE ∧ rd s I.PAIR_PARTNER = prSYNC then s |> set1 I.PAIR_RESIGN |> set1 I.PAIR_PLANNED
  else set1 PAIR_STATUS_SWREF s

/-- PLANNED_SWITCHOVER: PAIR_CTRL.SWITCH is written 1. -/
def execPlannedSwitchover (w : Writer) (s : State) : Out := .next (gateWrite w PAIR_CTRL_SWITCH 1 switchRequest s)

/-- A new join: a module in STALE joins at once where the other position is active and the link is up. -/
def rejoin (s : State) : State :=
  let t := clr I.PAIR_NOJOIN s
  let a := rd s PAIR_REFACT_ACTIVE
  if prState s = prSTALE ∧ a ≠ 0 ∧ a ≠ prPos s ∧ mayJoin t = true then prJoin t else t

/-- REJOIN: PAIR_CTRL.REJOIN is written 1. -/
def execRejoin (w : Writer) (s : State) : Out := .next (gateWrite w PAIR_CTRL_REJOIN 1 rejoin s)

end Sys2Proof.Machine
end

