-- ==== Sys2Proof/Machine/Power.lean ====
section
/-! DEFINITION. Power states, transitions and wake (R64 to R73), islands and blocks that shut down (R74 to R76), the feeds and the
power-fail sequence (R38, R46, R47). -/

namespace Sys2Proof.Machine

open R

/-! Power states (Table 3.4) -/

def pwRUN : Nat := 0
def pwIDLE : Nat := 1
def pwDROWSE : Nat := 2
def pwFALLOW : Nat := 3

def pwState (s : State) : Nat := rd s PWR_STATE

/-- Islands that may be on in a power state. -/
def pwIslands (st : Nat) : Nat :=
  if st = pwRUN then 0x1FFFFF else if st = pwIDLE then 0x1FFFC9 else if st = pwDROWSE then 0x142200 else 0x100000

/-- A request kept in PWR_PENDING waits under this key, a request in progress under opcode 0x27. -/
def pwStored : Nat := 0x127

/-- Requests that wait under a key complete with a status. -/
def pwFinish (key status : Nat) (s : State) : State :=
  (s.waiting.filter (fun w => w.1 == key)).foldl (fun t w => complete w.2 0x27 status t)
    { s with waiting := s.waiting.filter (fun w => w.1 != key) }

/-- PWR_PENDING empties; the command of the request completes with a status. -/
def pwDrop (status : Nat) (s : State) : State :=
  s |> pwFinish pwStored status |> clr PWR_PENDING_VALID |> clr PWR_PENDING_WAKE |> clr PWR_PENDING_SESSION
    |> clr PWR_PENDING_TARGET

/-- A request is stored, and the one stored before completes with SUPERSEDED (R69). -/
def pwStore (wake : Bool) (sess target : Nat) (s : State) : State :=
  s |> pwDrop cSUPERSEDED |> set1 PWR_PENDING_VALID |> wr PWR_PENDING_WAKE (b2n wake) |> wr PWR_PENDING_SESSION sess
    |> wr PWR_PENDING_TARGET target

/-- The wake target of a state (Table 3.6). -/
def wakeTarget (st : Nat) : Nat := if st = pwDROWSE then pwIDLE else pwRUN

/-- A wake from Fallow starts the module from step 2 of Table 3.3 without sampling the position, and ignores AUTOSTART. The OCXO, which
gets its power again, has its time to become valid. -/
def fallowWake (s : State) : State :=
  let t := resetKeeping keptByModule s
  { t with evLatch := s.evLatch, journalBuf := s.journalBuf }
    |> wr PWR_ISLSTAT 0x100000 |> clr PWR_ISLBUSY_BUSY_OFF |> clr PWR_ISLPEND_ENPEND |> clr PWR_CLKSEL_SRC
    |> set1 I.EVC_RELOAD |> set1 I.HELD |> set1 I.PWR_NOAUTO |> clr I.PWR_OCXOFAIL

/-- Close notices to sessions 1 to 7 (Table 3.7, step 1). -/
def closeNotices (s : State) : State :=
  [1, 2, 3, 4, 5, 6, 7].foldl (fun t n => when (on t (HBR_SESS_OPEN n)) (emit (.closeNotice n)) t) s

/-- Jalora channels are to end at their round boundary (Table 3.7, step 2). -/
def jlaEnd (s : State) : State := (List.range 4).foldl (fun t c => jlaDisableWrite c t) s

/-- A transition begins. -/
def pwBegin (target : Nat) (s : State) : State :=
  s |> when (pwState s == pwFALLOW) fallowWake |> set1 PWR_STATE_TRANS |> wr PWR_STATE_TARGET target
    |> when (decide (target ≥ pwDROWSE)) (fun t => t |> closeNotices |> jlaEnd)

/-- The status of a power-state request by Table 3.5, or OK. The role of the owner has been checked. -/
def pwCheck (s : State) (sess target : Nat) : Nat :=
  if target > pwFALLOW then cBADARG
  else if on s PWR_SUPPLY_PFW then cSTATE
  else if target ≥ pwIDLE ∧ ctlState s ≠ stSTOP then cSTATE
  else if target ≥ pwDROWSE ∧ sessRole s sess < 2 then cROLE
  else if target ≥ pwDROWSE ∧ (rd s PAIR_STATUS_POS ≠ 3 ∨ rd s PAIR_CTRL_PAIRID ≠ 0) then cPAIRED
  else cOK

/-- A permitted request: the state being entered or present is OK at once, another one begins, or is stored (R69). -/
def pwAccept (ref : Option CmdRef) (sess target : Nat) (s : State) : State :=
  if on s PWR_STATE_TRANS then
    (if rd s PWR_STATE_TARGET = target then finish ref 0x27 cOK s
     else s |> pwStore false sess target |> waitOpt ref pwStored)
  else if pwState s = target then finish ref 0x27 cOK s
  else s |> waitOpt ref 0x27 |> pwBegin target

/-- A request of a session. -/
def powerRequest (ref : Option CmdRef) (sess target : Nat) (s : State) : State :=
  let r := pwCheck s sess target
  if r ≠ cOK then finish ref 0x27 r s else pwAccept ref sess target s

/-- POWER: ARG0[2:0]. -/
def execPower (ref : CmdRef) (target : Fin 8) (s : State) : Out :=
  .next (cmdGate ref 0x27 id (powerRequest (some ref) ref.session target) s)

/-- Reports in the capture FIFO are written, once the log has been reloaded after a reset (R463, R464), and open entries closed. -/
def logDrain (s : State) : State :=
  when (!on s I.EVC_RELOAD) (fun t => t.evFifo.foldl (fun u r => logReport r u) { t with evFifo := [] }) s |> closeAll

/-- A persist that closes every open entry first (R461). -/
def persistClosed (s : State) : State := s |> logDrain |> glnPersist

/-- In Idle slices B and C lose what they hold, and a join of theirs is over; back in Run those that the mode names and that are not
marked failed join from slice A, and the others are free (R65, R67, R96). -/
def pwSlices (st : Nat) (s : State) : State :=
  if st = pwRUN then
    let m := Nat.land (Nat.land (modeSlices (rd s SLC_MODE)) (7 - rd s SLC_MODE_PART)) (7 - rd s SLC_FAILED)
    s |> wr I.SLC_REJOIN (Nat.lor (rd s I.SLC_REJOIN) m) |> joinStart |> (fun t => wr I.SLC_FREE (freeSlices t) t)
  else if st = pwIDLE then
    s |> wr SLC_MODE_PART (Nat.land (rd s SLC_MODE_PART) 1) |> clr I.SLC_FREE |> clr I.SLC_REJOIN |> clr SLC_READMIT_PHASE
      |> clr SLC_READMIT_SLICES |> clr SLC_READMIT_DIRTY |> eachSlice 6 sliceReset
  else s

/-- The islands that only the power state switches: 1 to 9, 11, 19 and 21 (R76). -/
def pwFixed : Nat := 0x1405FF

/-- Islands as a state has them on: PWR_ISLEN keeps what firmware wrote, and follows the state in its other bits (R64, R76). -/
def pwIslandsSet (st : Nat) (s : State) : State :=
  let en := Nat.lor (Nat.land (rd s PWR_ISLEN) (0x1FFFFF - pwFixed)) (Nat.land (pwIslands st) pwFixed)
  s |> wr PWR_ISLEN en |> wr PWR_ISLSTAT (Nat.land en (pwIslands st)) |> clr PWR_ISLBUSY_BUSY_OFF |> islandsFollow

/-- Steps 2 to 6 of Table 3.7: channels off, ownership released without orphaning and sessions closed (R320), Gleaner persisted, event 20 logged, islands
off; Fallow loses DDR and SRAM, and its OCXO stops. -/
def pwDown (st : Nat) (s : State) : State :=
  (List.range 4).foldl (fun t c => when (on t (JLA_CTRL_EN c)) (jlaDisabled c) t) s
    |> ownerRelease |> (fun t => [1, 2, 3, 4, 5, 6, 7].foldl (fun u n => sessClose n u) t)
    |> persistClosed |> raiseWith 20 st false |> logDrain |> pwIslandsSet st
    |> when (st == pwFALLOW) (fun t =>
        { t with mem := t.mem.filter (fun c => inGranary c.1) } |> clr PWR_CLKSEL_OCXO_OK |> clr PWR_CLKSEL_SRC)

/-- What entry to a state does. -/
def pwEnter (st : Nat) (s : State) : State :=
  if st ≥ pwDROWSE then pwDown st s
  else s |> when (pwState s != pwFALLOW) (fun t => t |> pwIslandsSet st |> pwSlices st)

/-- The stored request is applied. -/
def pwApply (s : State) : State :=
  if !on s PWR_PENDING_VALID then s
  else
    let target := rd s PWR_PENDING_TARGET
    let s1 := { s with waiting := s.waiting.map (fun w => if w.1 = pwStored then (0x27, w.2) else w) } |> pwDrop cOK
    if pwState s = target then completeWait 0x27 cOK s1 else pwBegin target s1

/-- A source caught by the wake latch is replayed when entry completes (R72). -/
def pwReplay (s : State) : State :=
  if on s I.PWR_LATCHED then s |> clr I.PWR_LATCHED |> pwStore true 0 (wakeTarget (pwState s)) else s

/-- The transition completes. -/
def pwComplete (s : State) : State :=
  let st := rd s PWR_STATE_TARGET
  s |> pwEnter st |> wr PWR_STATE_PREV (pwState s) |> wr PWR_STATE st
    |> when (pwState s == pwDROWSE && decide (st < pwDROWSE)) (fun t => t |> ringTakeAll |> dmaServeKept) |> clr PWR_STATE_TRANS |> clr PWR_STATE_TARGET
    |> completeWait 0x27 cOK |> when (decide (st ≥ pwDROWSE)) pwReplay |> pwApply

/-- TRANSITION_COMPLETE; a wake from Fallow completes with the start-up. -/
def execTransitionComplete (s : State) : Out :=
  .next (if !on s PWR_STATE_TRANS || on s I.HELD || (pwState s == pwFALLOW && !on s I.BOOTED) then s else pwComplete s)

/-! Wake (R70 to R72) -/

/-- Drowse or Fallow is being entered. -/
def entering (s : State) : Bool := on s PWR_STATE_TRANS && decide (rd s PWR_STATE_TARGET ≥ pwDROWSE)

/-- The state that a wake ends, or that is being entered: 0 if there is none. -/
def wakeFrom (s : State) : Nat :=
  if entering s then rd s PWR_STATE_TARGET
  else if pwState s ≥ pwDROWSE then pwState s else 0

/-- A wake request for the state's wake target (R69); of a source that the latch has caught when entry completes (R72). -/
def wakeRequest (late : Bool) (s : State) : State :=
  let from_ := wakeFrom s
  if entering s then
    (if late then set1 I.PWR_LATCHED s else pwStore true 0 (wakeTarget from_) s)
  else if on s PWR_STATE_TRANS then s
  else pwBegin (wakeTarget from_) s

/-- A wake source fires: its bit, event 3, and a request if it is enabled. -/
def wakeFire (b : Nat) (late : Bool) (s : State) : State :=
  if wakeFrom s = 0 ∨ on s PWR_SUPPLY_PFW = true ∨ (wakeFrom s = pwFALLOW ∧ (b = 1 ∨ b = 2)) then s
  else s |> wr PWR_WAKESRC_SRC (setBits (rd s PWR_WAKESRC_SRC) b 1 1) |> when (late && entering s) (set1 PWR_WAKESRC_LATE) |> raise 3
    |> when (bit (rd s PWR_WAKEEN_SRC) b) (wakeRequest late)

/-- The bits of the sources of WAKE_SOURCE: a BAR2 doorbell, PERST_N rising, a feed returning. -/
def wakeBit (k : Fin 3) : Nat := if k.val = 0 then 1 else if k.val = 1 then 3 else 4

/-- WAKE_SOURCE; `late` tells that it came in the last 50 µs of isolation from island 10 or 14. -/
def execWakeSource (k : Fin 3) (late : Bool) (s : State) : Out := .next (wakeFire (wakeBit k) (late && k.val == 0) s)

/-- WAKE_TIMER. -/
def execWakeTimer (s : State) : Out := .next (if rd s PWR_WAKETIME = 0 ∨ on s PWR_STATE_TRANS then s else wakeFire 0 false s)

/-- A frame is a wake frame (R71). -/
def isWakeFrame (s : State) (dst ether : Nat) (payload : List Byte) : Bool :=
  (dst == rd s SYS_MAC || dst == 0xFFFFFFFFFFFF) && ether == 0x88B6
    && payload.take 16 == List.replicate 6 0xFF ++ bytesBE 6 (rd s SYS_MAC) ++ bytesBE 4 (rd s PWR_WAKECODE)

/-- WAKE_FRAME on BB2 or BB3, with a correct FCS. -/
def execWakeFrame (dst : BitVec 48) (ether : BitVec 16) (payload : List Byte) (late : Bool) (s : State) : Out :=
  .next (if wakeFrom s = pwDROWSE ∧ isWakeFrame s dst.toNat ether.toNat payload then wakeFire 2 late s else s)

/-! Islands and blocks (R75, R76) -/

/-- Islands that firmware may switch, counted from 1. -/
def switchable (n : Nat) : Bool := n == 10 || decide (12 ≤ n ∧ n ≤ 18) || n == 20

/-- A bit of a field written. -/
def wrBit (f : Fld) (k v : Nat) (s : State) : State := wr f (setBits (rd s f) k 1 v) s

/-- What goes with an island that leaves service. -/
def islandLeaves (n : Nat) (s : State) : State :=
  if 15 ≤ n ∧ n ≤ 18 then islandsFollow s
  else if n = 10 then s |> clr HBR_LINK_LINKUP |> clr HBR_LINK_WIDTH |> clr HBR_LINK_SPEED
  else s

/-- An enable or disable of island `n`, counted from 1. -/
def islandSwitch (n : Nat) (en : Bool) (s : State) : State :=
  let k := n - 1
  if !switchable n then s
  else if en then
    (if bit (rd s PWR_ISLBUSY_BUSY_OFF) k then wrBit PWR_ISLPEND_ENPEND k 1 s
     else s |> wrBit PWR_ISLEN k 1 |> wrBit PWR_ISLSTAT k 1 |> powerFollow)
  else
    s |> wrBit PWR_ISLPEND_ENPEND k 0
      |> when (bit (rd s PWR_ISLSTAT) k && !bit (rd s PWR_ISLBUSY_BUSY_OFF) k) (fun t =>
          t |> wrBit PWR_ISLEN k 0 |> wrBit PWR_ISLBUSY_BUSY_OFF k 1 |> islandLeaves n)

/-- ISLAND_ENABLE: one bit of PWR_ISLEN; `n` counts from 0. -/
def execIslandEnable (w : Writer) (n : Fin 21) (en : Bool) (s : State) : Out :=
  .next (gateWrite w PWR_ISLEN (setBits (rd s PWR_ISLEN) n 1 (b2n en)) (islandSwitch (n + 1) en) s)

/-- The shutdown of a unit completes: BUSY_OFF clears, and a pending enable is taken. -/
def shutdownDone (busy pend : Fld) (enable : State → State) (s : State) : State :=
  if !on s busy then s else s |> clr busy |> clr pend |> when (on s pend) enable

/-- The engine of the controller: EN is 0 from now on, unless a START waited (R140, R143). -/
def cycleOff (s : State) : State :=
  if !on s CYC_CTRL_BUSY_OFF then s
  else s |> clr CYC_CTRL_BUSY_OFF |> wr CYC_CTRL_EN (rd s CYC_CTRL_ENPEND) |> clr CYC_CTRL_ENPEND

/-- An island, counted from 0. -/
def islandDown (k : Nat) (s : State) : State :=
  if !bit (rd s PWR_ISLBUSY_BUSY_OFF) k then s
  else s |> wrBit PWR_ISLBUSY_BUSY_OFF k 0 |> wrBit PWR_ISLPEND_ENPEND k 0
    |> (if bit (rd s PWR_ISLPEND_ENPEND) k then fun t => t |> wrBit PWR_ISLEN k 1 |> wrBit PWR_ISLSTAT k 1
        else wrBit PWR_ISLSTAT k 0)
    |> powerFollow

/-- SHUTDOWN_COMPLETE. A DMA channel shuts down only once it is OFF (R347). -/
def execShutdownComplete (u : OffUnit) (s : State) : Out :=
  .next (match u with
    | .island n => islandDown n s
    | .cycle => cycleOff s
    | .backbone => shutdownDone BBS_CTRL_BUSY_OFF BBS_CTRL_ENPEND (bbsEnable true) s
    | .gateway => shutdownDone CGW_CTRL_BUSY_OFF CGW_CTRL_ENPEND (cgwEnable true) s
    | .dma => shutdownDone DMA_CTRL_BUSY_OFF DMA_CTRL_ENPEND (dmaEnable true) s
    | .fio => shutdownDone FIO_CTRL_BUSY_OFF FIO_CTRL_ENPEND (fioEnable true) s
    | .safety => shutdownDone SFU_CTRL_BUSY_OFF SFU_CTRL_ENPEND (sfuEnable true) s
    | .jalora c => shutdownDone (JLA_CTRL_BUSY_OFF c) (JLA_CTRL_ENPEND c) (jlaEnable c) s
    | .dmaChannel n => when (dcState s n == dcOFF)
        (shutdownDone (DMA_CH_CTRL_BUSY_OFF n) (DMA_CH_CTRL_ENPEND n) (dmaChannelEnable n true)) s)

/-! Feeds, the power-fail sequence and the plate (R38, R46, R47, R51, R73) -/

/-- Every island but the always-on island off, and the module held: the Jalora channels stop, PoDL is off, and no transition or request
goes on. -/
def islandsOff (s : State) : State :=
  (List.range 4).foldl (fun t c => jlaStop c t) s
    |> wr PWR_ISLSTAT 0x100000 |> clr PWR_ISLBUSY_BUSY_OFF |> clr PWR_ISLPEND_ENPEND |> islandsFollow
    |> clr PWR_STATE_TRANS |> clr PWR_STATE_TARGET |> pwFinish 0x27 cSUPERSEDED |> pwDrop cSUPERSEDED |> clr HBR_LINK_LINKUP
    |> clr HBR_LINK_WIDTH |> clr HBR_LINK_SPEED |> set1 I.HELD

/-- PLATE_STOP: above +85 °C. -/
def execPlateStop (s : State) : Out :=
  .next (if on s PWR_SUPPLY_PLATE_STOP then s
    else s |> raise 13 |> noVerdictStop 5 |> set1 PWR_SUPPLY_PLATE_STOP
      |> set1 I.PWR_PLATEHOLD |> islandsOff)

/-- A report goes to the log without a raise: the return of a feed is logged, and no counter of losses counts it. -/
def logOnly (src : Nat) (s : State) : State :=
  let r := critReport (reportNow src 0 false s) s
  if islandPowered s 8 then capture r s
  else if s.evLatch.length < 16 then { s with evLatch := s.evLatch ++ [r] } else s

/-- FEED_RESTORED: feed `n` + 1 reaches 18.5 V; in Drowse or Fallow it is wake source 4. -/
def execFeedRestored (n : Fin 2) (s : State) : Out :=
  .next (if on s (feedOk n) then s else s |> set1 (feedOk n) |> logOnly (8 + n) |> wakeFire 4 false)

/-- In Drowse or Fallow GRN writes the entry of event 18 itself, and only a power-on reset ends the hold (R73). -/
def pfwAsleep (s : State) : State :=
  s |> glnRaise 18 |> logReport (critReport (reportNow 18 0 false s) s) |> closeAll |> set1 I.HELD |> set1 I.PWR_PORONLY

/-- Steps 1 and 2 of Table 2.5. -/
def pfwAwake (s : State) : State := s |> raise 10 |> persistClosed

/-- POWER_FAIL_WARNING. During a transition the sequence of Table 2.5 applies to every island that is on (R73). -/
def execPowerFailWarning (s : State) : Out :=
  .next (if on s PWR_SUPPLY_PFW then s
    else s |> set1 PWR_SUPPLY_PFW |> set1 PWR_SUPPLY_PFW_SEEN |> pwDrop cSUPERSEDED |> clr I.PWR_LATCHED
      |> (if pwState s ≥ pwDROWSE ∧ on s PWR_STATE_TRANS = false then pfwAsleep else pfwAwake))

/-- Steps 3 to 7 of Table 2.5. A commit not complete when the command is given is abandoned. -/
def powerDown (s : State) : State :=
  (List.range 4).foldl (fun t c => jlaStop c t)
      (s |> set1 I.PWR_PFLATE |> when (prState s == prACTIVE) (set1 I.PAIR_RESIGN) |> abandonCycle false
        |> set1 I.FIO_PFSAFE |> fioSafeOutputs |> sfuEndPublication)
    |> journalFlush |> raise 18 |> logDrain |> islandsOff

/-- RIDE_THROUGH_END: at tPF + 4 ms with PFW still set. -/
def execRideThroughEnd (s : State) : Out :=
  .next (if on s PWR_SUPPLY_PFW && !on s I.PWR_PFLATE && !on s I.HELD then powerDown s else s)

/-- POWER_FAIL_CLEARED: event 11, or the module reset with cause PFAIL; a module held by another reset just goes on (R47). -/
def execPowerFailCleared (s : State) : Out :=
  .next (if !on s PWR_SUPPLY_PFW then s
    else
      let t := clr PWR_SUPPLY_PFW s
      if on s I.PWR_PFLATE then moduleReset PWR_RSTCAUSE_PFAIL t
      else if on s I.HELD then t else raise 11 t)

end Sys2Proof.Machine
end

