-- ==== Sys2Proof/Machine/Ctl.lean ====
section
/-! DEFINITION. The controller's commands (R141 to R144), forcing and online change (R147 to R151), mode, slice and Winnower
commands (R92, R96, R98, R100, R104), period and phase (R131), boot complete and AUTOSTART (R60, R61). -/

namespace Sys2Proof.Machine

open R

/-! Refusals (R141, Table 6.3) -/

/-- The module may run control cycles: standalone, or the active of its pair (R427, R429). -/
def pairMayRun (s : State) : Bool := rd s PAIR_STATUS_STATE == 0 || rd s PAIR_STATUS_STATE == 3

/-- Refusal of START: STATE, BLOCKED, ALIGN, NOPROG in this order. An OCXO that never became valid counts as blocked (R58). -/
def startRefusal (s : State) : Nat :=
  if ctlState s ≠ stSTOP ∨ pairMayRun s = false then cSTATE
  else if startBlocked s then cBLOCKED
  else if jlaAlignBad s then cALIGN
  else if rd s CYC_CHGID = 0 ∨ on s I.BOOTED = false then cNOPROG
  else cOK

/-- Refusal of a CYC command of a session, or OK. -/
def cycRefusal (cmd sess : Nat) (s : State) : Nat :=
  if !(isOwner s sess && decide (sessRole s sess ≥ cycRole cmd)) then cROLE
  else if pairStandby s then cSTATE
  else if cmd = 1 then startRefusal s
  else if cmd = 2 then
    (if ctlState s = stFAULT ∨ (ctlState s = stSTOP ∧ startPending s = false) then cSTATE else cOK)
  else if cmd = 3 then (if ctlState s ≠ stRUN then cSTATE else if sfuRunning s then cSAFETY else cOK)
  else if cmd = 6 then (if ctlState s ≠ stFAULT then cSTATE else cOK)
  else if ctlState s ≠ stHALT then cSTATE
  else cOK

/-! Effects (Table 6.3, R143) -/

/-- A state change becomes pending; it may take effect from `due` on. -/
def setPending (cmd sess due : Nat) (s : State) : State :=
  s |> endPending cSUPERSEDED |> wr I.CYC_PENDCMD cmd |> wr I.CYC_PENDSESS sess |> wr I.CYC_PENDDUE due
    |> set1 CYC_STATE_TRANS

/-- The earliest instant at which START, STEP or RESUME takes effect: 50 µs after acceptance. -/
def dueNow (s : State) : Nat := upNow s + 50000

/-- A start is accepted: EN is 1 from now on, or ENPEND while the engine shuts down; without HOLDUP_RDY it stays 0 (R61); in Idle the module first returns to
Run (R140, R143, R66). -/
def startAccept (cmd sess : Nat) (s : State) : State :=
  s |> setPending cmd sess (dueNow s) |> when (on s PWR_SUPPLY_HOLDUP_RDY) (set1 CYC_CTRL_EN) |> when (on s CYC_CTRL_BUSY_OFF) (set1 CYC_CTRL_ENPEND)
    |> when (pwState s != pwRUN || on s PWR_STATE_TRANS) (pwAccept none sess pwRUN)

/-- STOP from HALT, at once; a STEP cycle in progress is abandoned. -/
def stopFromHalt (ref : Option CmdRef) (s : State) : State :=
  s |> endPending cSUPERSEDED |> when (on s I.CYC_STEPPING) (abandonCycle true) |> wr CYC_STATE_STOPCAUSE 1 |> enterStop
    |> stoppedSlices |> finish ref (cycOpcode 2) cOK

/-- STOP: at the next commit point or failed commit, at once from HALT, or at once against a pending start. -/
def stopAccept (ref : Option CmdRef) (sess : Nat) (s : State) : State :=
  if ctlState s = stRUN then s |> setPending 2 sess 0 |> cmdstat 2 sess cOK |> waitOpt ref (cycOpcode 2)
  else if ctlState s = stHALT then s |> stopFromHalt ref |> cmdstat 2 sess cOK |> warmAtStop
  else s |> endPending cSUPERSEDED |> cmdstat 2 sess cOK |> finish ref (cycOpcode 2) cOK

/-- ACK: FAULT to STOP with the critical entries acknowledged; STOPCAUSE stays. -/
def ackAccept (ref : Option CmdRef) (sess : Nat) (s : State) : State :=
  s |> critAck sess |> enterStop |> cmdstat 6 sess cOK |> finish ref (cycOpcode 6) cOK

/-- A refused command: its result in CYC_CMDSTAT, and nothing else changes; a refused acknowledgement is audited (R477). -/
def cycRefuse (ref : Option CmdRef) (cmd sess r : Nat) (s : State) : State :=
  s |> cmdstat cmd sess r |> when (cmd == 6) (audit 0x0A true sess 0 0 0) |> finish ref (cycOpcode cmd) r

/-- A CYC command of a session, by the command ring or by CYC_CMD. -/
def cycCommand (ref : Option CmdRef) (cmd sess : Nat) (s : State) : State :=
  if cmd = 0 ∨ 6 < cmd then s
  else
    let r := cycRefusal cmd sess s
    if r ≠ cOK then cycRefuse ref cmd sess r s
    else if cmd = 2 then stopAccept ref sess s
    else if cmd = 6 then ackAccept ref sess s
    else if cmd = 1 then s |> startAccept 1 sess |> cmdstat 1 sess cOK |> waitOpt ref (cycOpcode 1)
    else s |> setPending cmd sess (if cmd = 3 then 0 else dueNow s) |> cmdstat cmd sess cOK |> waitOpt ref (cycOpcode cmd)

/-- A CYC command taken from a ring. -/
def cycRun (ref : CmdRef) (cmd : Nat) (s : State) : State :=
  cmdRun ref (cycOpcode cmd) (cycCommand (some ref) cmd ref.session) s

/-- START. -/
def execStart (ref : CmdRef) (s : State) : Out := .next (cycRun ref 1 s)

/-- STOP. -/
def execStop (ref : CmdRef) (s : State) : Out := .next (cycRun ref 2 s)

/-- HALT. -/
def execHalt (ref : CmdRef) (s : State) : Out := .next (cycRun ref 3 s)

/-- STEP. -/
def execStep (ref : CmdRef) (s : State) : Out := .next (cycRun ref 4 s)

/-- RESUME. -/
def execResume (ref : CmdRef) (s : State) : Out := .next (cycRun ref 5 s)

/-- ACK. -/
def execAck (ref : CmdRef) (s : State) : Out := .next (cycRun ref 6 s)

/-! Forces (R147, R148) -/

/-- FORCE: ARG0[23:21] the space, [20:0] the index; ARG1 the value. A refused session is audited. -/
def execForce (ref : CmdRef) (space : Fin 8) (index : Fin 2097152) (value : BitVec 32) (s : State) : Out :=
  .next (cmdGate ref 0x30
    (fun t => audit 0x04 true ref.session (forceObject space index) (forceOld t space index) value.toNat t)
    (forceRequest ref space index value.toNat) s)

/-- UNFORCE. -/
def execUnforce (ref : CmdRef) (space : Fin 8) (index : Fin 2097152) (s : State) : Out :=
  .next (cmdGate ref 0x31
    (fun t => audit 0x05 true ref.session (forceObject space index) (forceOld t space index) 0 t)
    (unforceRequest ref space index) s)

/-! Online change (R150, R151) -/

/-- LOAD: the change set is in the command's buffer; none where the buffer could not be read or BUFLEN is too small for it (R308). A
standby refuses it (R450). -/
def execLoad (ref : CmdRef) (c : Option ChangeSet) (s : State) : Out :=
  .next (cmdRun ref 0x32 (fun t =>
    if !roleOk t ref.session 0x32 then loadRefused ref 1 ((c.map (·.newId)).getD 0) 0 t
    else if pairStandby t then
      t |> audit 0x0C true ref.session 0 0 ((c.map (·.newId)).getD 0) |> complete ref 0x32 cSTATE
    else match if bufReach t ref then c else none with
      | none => t |> audit 0x0C true ref.session 0 0 0 |> complete ref 0x32 cBUFERR
      | some l => loadRequest ref l t) s)

/-- The loader may write: no join copies, which takes the intervals first, and in RUN and HALT it is not between t0 − COPYGUARD and the
commit that follows (R150). -/
def loaderRuns (s : State) : Bool :=
  rd s SLC_READMIT_PHASE != 1 && rd s SLC_READMIT_PHASE != 2
    && !((ctlState s == stRUN || ctlState s == stHALT) && on s I.SLC_COPYSTOP)

/-- LOAD_COMPLETE: this module has written the whole set, or (`standby`) the standby in SYNC reports it loaded; LOAD completes
when this module has it and no standby in SYNC is still to load it. -/
def execLoadComplete (standby : Bool) (s : State) : Out :=
  .next (match s.chg with
  | none => s
  | some c =>
    if rd s CYC_CHG_PHASE ≠ 1 ∨ (standby = false ∧ loaderRuns s = false) then s
    else
      let t := if standby then set1 I.CHG_STANDBYDONE s
        else s |> when (!on s I.CHG_LOCALDONE) (loadWrite c) |> set1 I.CHG_LOCALDONE
      if on t I.CHG_LOCALDONE && (!pairedSync t || on t I.CHG_STANDBYDONE) then loadDone t else t)

/-- ARM; `verifies`: the new program and stage bank verify at a switch that takes place at once. A standby refuses it. -/
def execArm (ref : CmdRef) (verifies : Bool) (s : State) : Out :=
  .next (cmdRun ref 0x33 (fun t =>
    if roleOk t ref.session 0x33 && pairStandby t then
      t |> audit 0x0C true ref.session 1 0 ((t.chg.map (·.newId)).getD 0) |> complete ref 0x33 cSTATE
    else armRequest ref (roleOk t ref.session 0x33) verifies t) s)

/-! Mode, slices and Winnower -/

/-- MODE: ARG0[1:0]. -/
def execMode (ref : CmdRef) (mode : Fin 4) (s : State) : Out :=
  .next (cmdRun ref 0x26 (fun t =>
    if roleOk t ref.session 0x26 && pairStandby t then
      t |> audit 0x0D true ref.session mode (rd t SLC_MODE) mode |> complete ref 0x26 cSTATE
    else modeRequest (some ref) ref.session mode t) s)

/-- SLICE_FAILED_CLEAR: SLC_FAILED is written. -/
def execSliceFailedClear (w : Writer) (m : Fin 8) (s : State) : Out :=
  .next (gateWrite w SLC_FAILED m (sliceFailedClear m) s)

/-- CKP_WORST_CLEAR. -/
def execCkpWorstClear (w : Writer) (s : State) : Out := .next (gateWrite w CKP_WORST_CLR 1 (clr CKP_WORST) s)

/-! Period and phase (R131) -/

/-- P in nanoseconds. -/
def cycP (s : State) : Nat := 1000 * rd s CYC_PERIOD

/-- A write of CYC_PERIOD. -/
def periodSet (v : Nat) (s : State) : State :=
  if ctlState s ≠ stSTOP then set1 CYC_STATUS_CFGREF s
  else
    let p := max 100 (min v 1000000)
    s |> wr CYC_PERIOD p |> wr CYC_PHASE (rd s CYC_PHASE % (1000 * p)) |> fioWdAdj

/-- A write of CYC_PHASE. -/
def phaseSet (v : Nat) (s : State) : State :=
  if ctlState s ≠ stSTOP then set1 CYC_STATUS_CFGREF s else wr CYC_PHASE (v % cycP s) s

/-- PERIOD_WRITE. -/
def execPeriodWrite (w : Writer) (v : BitVec 20) (s : State) : Out :=
  .next (gateWrite w CYC_PERIOD v.toNat (periodSet v.toNat) s)

/-- PHASE_WRITE. -/
def execPhaseWrite (w : Writer) (v : BitVec 30) (s : State) : Out :=
  .next (gateWrite w CYC_PHASE v.toNat (phaseSet v.toNat) s)

/-! Boot complete and automatic start (R60, R61, Table 20.8) -/

/-- The engine may start by itself: a start would not be refused, and nothing is pending. -/
def mayAutoStart (s : State) : Bool := startRefusal s == cOK && rd s I.CYC_PENDCMD == 0

/-- BOOT_COMPLETE: steps 8 and 9 of Table 3.3, or step 7 of Table 20.8, whose activation is over unless a start follows. The mode
and the program are those of the settings. -/
def execBootComplete (mode : Fin 3) (prog : Option ChangeSet) (s : State) : Out :=
  .next (if !step9Ready s then s
    else
      let t := bootComplete mode prog s
      if on t I.UPD_WARMRUN then (if mayAutoStart t then startAccept 7 0 t else warmOver t)
      else clr UPD_STATUS_ACTIVATING t)

/-- What Table 3.3 and R61 require of an automatic start: AUTOSTART, hold-up ready, the supply not on its defaults, no wake from
Fallow; with TIMEQ the time unit warm, and locked where 1PPS is configured. -/
def autoReady (s : State) : Bool :=
  on s PWR_CTRL_AUTOSTART && on s PWR_SUPPLY_HOLDUP_RDY && !on s GRN_STATUS_DEFAULTS && !on s I.PWR_NOAUTO
    && (!on s PWR_CTRL_TIMEQ || (on s TIM_STATUS_WARM && (!on s TIM_CTRL_PPS_EN || timState s == tmLOCKED)))
    && (rd s PAIR_STATUS_POS == 3 || rd s PAIR_STATUS_STATE == 3)

/-- AUTOSTART. -/
def execAutostart (s : State) : Out := .next (if autoReady s && mayAutoStart s then startAccept 7 0 s else s)

end Sys2Proof.Machine
end

