-- ==== Sys2Proof/Machine/RegWrite.lean ====
section
/-! DEFINITION. Writes and reads of registers as an access makes them (R5 to R9, R512): what a write of each register does beside or
instead of setting its fields, halves of 64-bit registers (R6), locks of the host (R334, R335). -/

namespace Sys2Proof.Machine

open R

/-! Values that read back otherwise than written -/

/-- Fields whose values outside a range read back as the nearer limit, given by copy 0. JLA_OUTSLOT.COUNT is not one of them: a value
above 512 is kept and used as it stands (DESIGN CHOICE, log entry 136). -/
def clampTable : List (Fld × Nat × Nat) := [
  (SLC_READCFG_COPYGUARD, 5, 200), (SLC_READCFG_MAXTRY, 1, 7), (CKP_CTRL_MAXREEXEC, 1, 3), (CKP_CTRL_FAILLIM, 1, 4),
  (JLA_OUTSLOT_OWD 0, 1, 255), (JLA_SYNCCFG_RATELIM 0, 10, 500), (JLA_SYNCCFG_STEERLIM 0, 1, 50),
  (JLA_SYNCCFG_OFFLIM 0, 100, 1000), (JLA_CLAIMCFG_IDLE 0, 1, 255), (JLA_CLAIMCFG_ENTRIES 0, 0, 64),
  (JLA_MBOXCTL_LEN 0, 0, 64), (TIM_CTRL_SLEWLIM, 1, 100), (TIM_PPSCFG_TC, 8, 1023), (BBS_MGMT_RATE, 1, 255),
  (BBS_MGMT_MGMTWIN, 2, 255), (BBS_GCL_CTRL_LEN 0, 1, 256), (HBR_OWNCFG_OFFERTO, 1, 255), (HBR_LOCK_TIME, 1, 20), (HBR_CPLTO_TIMEOUT, 10, 10000), (DMA_CHAINLIM_LIMIT, 1, 65536),
  (FIO_WDT, 1, 1000), (FIO_RETRY, 10, 1000), (FIO_CHCFG_FILT 0, 0, 4), (FIO_PAIRCFG_PWDT, 1, 255), (FIO_PAIRTP_TPP, 10, 1000),
  (FIO_PAIRTP_TPW, 100, 500)]

/-- Action bits among the RWO fields: they read 0. -/
def actionRwo (f : Fld) : Bool :=
  f.key == SLC_MODEREQ_GO.key || f.key == WNW_CTRL_INJ_GO.key || f.key == (FIO_PAIRSTAT_CLR 0).key || f.key == PAIR_CTRL_SWITCH.key
    || f.key == PAIR_CTRL_REJOIN.key

/-- A record size (Table 9.14): 32 to 1,504, bits [3:0] 0. -/
def recSize (v : Nat) : Nat := clampNat 32 1504 v / 16 * 16

/-- Counter modes 5 to 7 read back as 0 (Table 16.6). -/
def fcModes (v : Nat) : Nat :=
  (List.range 8).foldl (fun a k => a + (if bits v (3 * k) 3 ≤ 4 then bits v (3 * k) 3 else 0) * 2 ^ (3 * k)) 0

/-- A PTP interval clamped to a range (Table 11.2). -/
def ptpInterval (lo hi : Int) (v : Nat) : Nat := ofSigned 4 (clampInt lo hi (toSigned 4 v))

/-- What a field of copy 0 reads back after a write; `val` gives the values written to the register's fields. -/
def fixValue (ix : List Nat) (val : Fld → Nat) (f : Fld) : Nat :=
  let v := val f
  let k := f.key
  let n := ix.getD 0 0
  match clampTable.find? (fun c => c.1.key == k) with
  | some c => clampNat c.2.1 c.2.2 v
  | none =>
    if actionRwo f then 0
    else if k = (JLA_RECSZ 0).key then recSize v
    else if k = (TIM_PTP_PROTO 0).key then (if v ≤ 3 then v else 0)
    else if k = (TIM_PTP_LOGSYNC 0).key then ptpInterval (-7) (if val (TIM_PTP_PROTO 0) = 3 then 0 else 1) v
    else if k = (TIM_PTP_DOMAIN 0).key then (if val (TIM_PTP_PROTO 0) = 3 then 0 else min v 127)
    else if k = (TIM_PTP_LOGDREQ 0).key then ptpInterval (-7) 4 v
    else if k = (BBS_GCLE_ENTRY 0 0 0).key then v / 2 ^ 56 * 2 ^ 56 + v % 2 ^ 32
    else if k = (TIM_PTP_LOGANN 0).key then ptpInterval 0 4 v
    else if k = (TIM_PTP_LOGPDLY 0).key then ptpInterval 0 3 v
    else if k = BBS_TBLCMD_OP.key then (if v ≤ 3 then v else 0)
    else if k = (BBS_PORT_FRER 0).key then (if n ≤ 1 then v else 0)
    else if k = (FIO_CHCFG_SAFE 0).key then (if v = 3 then 0 else v)
    else if k = (FIO_CHCFG_MODE 0).key then (if v = 3 ∧ n < 16 then 0 else v)
    else if k = FIO_FCCFG_MODES.key then fcModes v
    else v

/-! A register write -/

/-- A write of one register on its way to its effect: the writer, the indices of the copy and its distance from copy 0; for a
field of copy 0, the value that takes effect, and whether the value written was refused. -/
structure RegArg where
  w : Writer
  ix : List Nat
  sh : Nat
  val : Fld → Nat
  refused : Fld → Bool

/-- First and second index of the copy. -/
def RegArg.i (a : RegArg) : Nat := a.ix.getD 0 0
def RegArg.j (a : RegArg) : Nat := a.ix.getD 1 0

/-- Session of the writer; 0 for a writer without one. -/
def RegArg.sess (a : RegArg) : Nat := (writerSess a.w).getD 0

/-- A field takes what is written, by its access code (Table 0.3). -/
def putField (a : RegArg) (s : State) (f : Fld) : State :=
  let g := f.shift a.sh
  match f.acc with
  | .rw | .rwl | .rwo => if a.refused f then s else wr g (fixValue a.ix a.val f) s
  | .w1c => wr g (Nat.land (rd s g) (2 ^ g.width - 1 - a.val f % 2 ^ g.width)) s
  | .ro | .wo => s

/-- The fields of a register take what is written. -/
def putFields (d : RegDesc) (a : RegArg) (s : State) : State := d.fields.foldl (putField a) s

/-- The bits written 1 to a W1C field clear. -/
def putW1c (a : RegArg) (f : Fld) (s : State) : State := putField a s f

/-- A write refused by configuration: it has no effect but a flag. -/
def cfgGuard (c : Bool) (flag : Fld) (g : State → State) (s : State) : State := if c then set1 flag s else g s

/-! Blocks SLC, WNW, CKP, CYC -/

def actSlc (d : RegDesc) (a : RegArg) (s : State) : State :=
  let b := d.base
  if b = SLC_MODEREQ_GO.addr then
    s |> putFields d a |> when ((a.val SLC_MODEREQ_GO == 1 || a.refused SLC_MODEREQ_GO) && (writerSess a.w).isSome)
      (modeRequest none a.sess (a.val SLC_MODEREQ_MODE))
  else if b = SLC_FAILED.addr then sliceFailedClear (a.val SLC_FAILED) s
  else putFields d a s

def actWnw (d : RegDesc) (a : RegArg) (s : State) : State :=
  s |> putFields d a
    |> when (d.base == WNW_CTRL_INJ_GO.addr && a.val WNW_CTRL_INJ_GO == 1 && !a.refused WNW_CTRL_INJ_GO) winnowerInject

def actCkp (d : RegDesc) (a : RegArg) (s : State) : State :=
  s |> putFields d a |> when (d.base == CKP_WORST_CLR.addr && a.val CKP_WORST_CLR == 1) (clr CKP_WORST)

/-- CYC_CMD: the session is the one firmware names, or session 0 for the host. -/
def cmdSession (w : Writer) (named : Nat) : Option Nat :=
  match w with
  | .host => some 0
  | .firmware _ => some named
  | _ => none

/-- A write of CYC_CMD by a session that may not give the command is discarded (Table 0.3); CYC_CMDSTAT shows ROLE (R141). -/
def cycDiscarded (cmd sess : Nat) (s : State) : State := if cmd = 0 ∨ 6 < cmd then s else cmdstat cmd sess cROLE s

def actCyc (d : RegDesc) (a : RegArg) (s : State) : State :=
  let b := d.base
  if b = CYC_PERIOD.addr then (if a.refused CYC_PERIOD then s else periodSet (a.val CYC_PERIOD) s)
  else if b = CYC_PHASE.addr then (if a.refused CYC_PHASE then s else phaseSet (a.val CYC_PHASE) s)
  else if b = CYC_CMD.addr then
    match cmdSession a.w (a.val CYC_CMD_SESSION) with
    | some n => if a.refused CYC_CMD then cycDiscarded (a.val CYC_CMD) n s else cycCommand none (a.val CYC_CMD) n s
    | none => s
  else s |> putFields d a |> when (b == CYC_CTRL_HALTOUT.addr) haltoutEffect

/-! Jalora -/

/-- A configuration register of a channel: every RWL register but JLA_CTRL (R234). -/
def jlaConfig (d : RegDesc) : Bool :=
  d.base != (JLA_CTRL_EN 0).addr && d.fields.any (fun f => f.acc == .rwl)

/-- The channel's configuration is closed (R234). -/
def jlaClosed (s : State) (c : Nat) : Bool := on s (JLA_CTRL_EN c) || on s (JLA_CTRL_DISPEND c)

/-- JLA_CTRL: the path enables are configuration; EN enables or disables. -/
def jlaCtrl (d : RegDesc) (a : RegArg) (s : State) : State :=
  let c := a.i
  let pathA := a.val (JLA_CTRL_PATHA_EN 0)
  let pathB := a.val (JLA_CTRL_PATHB_EN 0)
  let changes := rd s (JLA_CTRL_PATHA_EN c) != pathA || rd s (JLA_CTRL_PATHB_EN c) != pathB
  s |> putW1c a (JLA_CTRL_CFGREF 0)
    |> when changes (cfgGuard (jlaClosed s c) (JLA_CTRL_CFGREF c) (fun t =>
        t |> wr (JLA_CTRL_PATHA_EN c) pathA |> wr (JLA_CTRL_PATHB_EN c) pathB))
    |> (if a.val (JLA_CTRL_EN 0) = 1 then jlaEnableWrite c else jlaDisableWrite c)

def actJla (d : RegDesc) (a : RegArg) (s : State) : State :=
  let b := d.base
  let c := a.i
  if b = (JLA_CTRL_EN 0).addr then jlaCtrl d a s
  else if jlaConfig d then cfgGuard (jlaClosed s c) (JLA_CTRL_CFGREF c) (putFields d a) s
  else if b = (JLA_TXRDY_BUF 0).addr then txReady c (a.val (JLA_TXRDY_BUF 0)) s
  else if b = (JLA_QUENCH_MODE 0 0).addr then
    (if a.refused (JLA_QUENCH_MODE 0 0) || a.refused (JLA_QUENCH_LAST 0 0) || a.refused (JLA_QUENCH_FIRST 0 0) then s
     else jlaQuenchSet c a.j (a.val (JLA_QUENCH_MODE 0 0)) (a.val (JLA_QUENCH_LAST 0 0)) (a.val (JLA_QUENCH_FIRST 0 0)) s)
  else if b = (JLA_MBOXCTL_GO 0).addr then
    s |> putFields d a |> when (a.val (JLA_MBOXCTL_GO 0) == 1) (mailboxGo c (a.val (JLA_MBOXCTL_LEN 0)))
  else if b = (JLA_PODL_ENA 0).addr then
    s |> when (rd s (JLA_PODL_ENA c) != a.val (JLA_PODL_ENA 0)) (podlEnable c 0 (a.val (JLA_PODL_ENA 0) == 1))
      |> when (rd s (JLA_PODL_ENB c) != a.val (JLA_PODL_ENB 0)) (podlEnable c 1 (a.val (JLA_PODL_ENB 0) == 1))
  else if b = (JLA_CNTCTL_CLR 0).addr then
    when (a.val (JLA_CNTCTL_CLR 0) == 1) (jset c (fun j => { j with clrPend := true })) s
  else if b = (JLA_CLAIMREV_SLOT 0).addr then
    match grantOf s c (a.val (JLA_CLAIMREV_SLOT 0)) with
    | some i => grantEnd c i s
    | none => s
  else putFields d a s

/-! Time unit and backbone -/

def actTim (d : RegDesc) (a : RegArg) (s : State) : State :=
  let b := d.base
  let n := a.i
  if b = TIM_CTRL_PPS_EN.addr then
    let en := a.val TIM_CTRL_PPS_EN == 1
    s |> putFields d a |> when (on s TIM_CTRL_PPS_EN != en && !a.refused TIM_CTRL_PPS_EN) (ppsEnable en)
  else if b = TIM_SETNS_GO.addr then
    s |> putFields d a |> when (a.val TIM_SETNS_GO == 1 && !a.refused TIM_SETNS_GO) (timeSetGo none a.sess)
  else if b = (TIM_TE_CTRL_ARM 0).addr then
    teArm n (a.val (TIM_TE_CTRL_ARM 0) == 1) (a.val (TIM_TE_CTRL_SAFEOFF 0) == 1) (a.val (TIM_TE_CTRL_LEVEL 0) == 1)
      (a.val (TIM_TE_CTRL_MODE 0)) (a.val (TIM_TE_CTRL_WIDTH 0)) s
  else if b = (TIM_TE_TIME_SEC 0).addr ∨ b = (TIM_TE_PERIOD_PERIOD 0).addr ∨ b = (TIM_TE_OFFSET_OFFSET 0).addr then
    s |> putFields d a |> teReprogram n s
  else putFields d a s

/-- The table command written with GO (R301). -/
def tableGo (table op i : Nat) (s : State) : State :=
  if op = 0 then tableRead table i s
  else if op = 1 then tableWrite table i s
  else if op = 2 then tableFind s
  else if op = 3 then tableDelete table i s
  else s

def actBbs (d : RegDesc) (a : RegArg) (s : State) : State :=
  let b := d.base
  let n := a.i
  if b = BBS_CTRL_EN.addr then bbsEnable (a.val BBS_CTRL_EN == 1) s
  else if b = (BBS_QUENCH_INDROP 0).addr then
    (if a.refused (BBS_QUENCH_INDROP 0) || a.refused (BBS_QUENCH_CLASSES 0) then s
     else bbsQuench n (a.val (BBS_QUENCH_INDROP 0) == 1) (a.val (BBS_QUENCH_CLASSES 0)) s)
  else if b = BBS_TBLCMD_GO.addr then
    s |> putFields d a |> (fun t => when (a.val BBS_TBLCMD_GO == 1)
        (tableGo (rd t BBS_TBLCMD_TABLE) (rd t BBS_TBLCMD_OP) (rd t BBS_TBLCMD_INDEX)) t)
  else if b = (BBS_GCL_CTRL_GO 0).addr then
    s |> putFields d a |> when (a.val (BBS_GCL_CTRL_GO 0) == 1) (gclGo n (a.val (BBS_GCL_CTRL_LEN 0)))
  else if b = (BBS_TXTAIL_TAIL 0).addr then txTail n (a.val (BBS_TXTAIL_TAIL 0)) s
  else if b = (BBS_GCLE_ENTRY 0 0 0).addr then
    (if a.j = rd s (BBS_GCL_CTRL_OPERBANK n) then s else putFields d a s)
  else putFields d a s

/-! Host bridge -/

/-- Blocks that a host lock never holds: SLC, WNW, CKP, CYC, LSV, IMG, TMR, SFU, PAIR, PWR (R335). -/
def lockBarred (b : Nat) : Bool := decide (1 ≤ b ∧ b ≤ 7) || b == 0x26 || b == 0x27 || b == 0x2D

/-- HBR_LOCK.GO. -/
def hostLockGo (s : State) : State :=
  let b := rd s HBR_LOCK_BLOCK
  if lockBarred b then wr HBR_LOCKST_RESULT 1 s
  else if on s HBR_LOCKST_HELD then wr HBR_LOCKST_RESULT 2 s
  else s |> clr HBR_LOCKST_RESULT |> set1 HBR_LOCKST_HELD |> wr HBR_LOCKST_BLOCK b |> wr I.HBR_LOCKT (upNow s)

/-- HBR_LOCK.UNLOCK. -/
def hostUnlock (s : State) : State := clr HBR_LOCKST_HELD s

/-- HBR_RPr_CFG (R309): the counts are fixed while EN = 1. How many completion slots are free lies in host memory: a free
value. -/
def ringCfg (d : RegDesc) (a : RegArg) (s : State) : State :=
  let r := a.i
  let was := on s (HBR_RP_CFG_EN r)
  let en := a.val (HBR_RP_CFG_EN 0) == 1
  s |> wr (HBR_RP_CFG_VEC r) (a.val (HBR_RP_CFG_VEC 0))
    |> when (!was) (fun t => t |> wr (HBR_RP_CFG_CPLENT r) (a.val (HBR_RP_CFG_CPLENT 0)) |> wr (HBR_RP_CFG_CMDENT r) (a.val (HBR_RP_CFG_CMDENT 0)))
    |> when (en && !was) (ringEnable r)
    |> when (!en && was) (fun t => t |> useFree |> ringDisable r (Config.freeValue s.freeCtr))

def actHbr (d : RegDesc) (a : RegArg) (s : State) : State :=
  let b := d.base
  let r := a.i
  if b = HBR_LOCK_GO.addr then
    s |> putFields d a |> when (a.val HBR_LOCK_UNLOCK == 1) hostUnlock |> when (a.val HBR_LOCK_GO == 1) hostLockGo
  else if b = (HBR_RP_CFG_EN 0).addr then ringCfg d a s
  else if b = (HBR_RP_CBASE_BASE 0).addr ∨ b = (HBR_RP_QBASE_BASE 0).addr then
    (if on s (HBR_RP_CFG_EN r) then s else putFields d a s)
  else putFields d a s

/-! CAN FD gateway and DMA -/

/-- CGW_CHn_CFG: JCH and NODE are configuration; CHEN enables or disables. -/
def canCfg (d : RegDesc) (a : RegArg) (s : State) : State :=
  let n := a.i
  let en := a.val (CGW_CH_CFG_CHEN 0) == 1
  let changes := rd s (CGW_CH_CFG_JCH n) != a.val (CGW_CH_CFG_JCH 0) || rd s (CGW_CH_CFG_NODE n) != a.val (CGW_CH_CFG_NODE 0)
  s |> putW1c a (CGW_CH_CFG_CFGREF 0)
    |> when changes (cfgGuard (on s (CGW_CH_CFG_CHEN n)) (CGW_CH_CFG_CFGREF n) (fun t =>
        t |> wr (CGW_CH_CFG_JCH n) (a.val (CGW_CH_CFG_JCH 0)) |> wr (CGW_CH_CFG_NODE n) (a.val (CGW_CH_CFG_NODE 0))))
    |> when (on s (CGW_CH_CFG_CHEN n) != en) (canChannelWrite n en)

def actCgw (d : RegDesc) (a : RegArg) (s : State) : State :=
  let b := d.base
  let n := a.i
  if b = CGW_CTRL_EN.addr then cgwEnable (a.val CGW_CTRL_EN == 1) s
  else if b = (CGW_CH_CFG_CHEN 0).addr then canCfg d a s
  else if b = CGW_MAPBASE_BASE.addr then
    (if on s (CGW_CH_CFG_CHEN 0) || on s (CGW_CH_CFG_CHEN 1) then
      (List.range 2).foldl (fun t k => when (on s (CGW_CH_CFG_CHEN k)) (set1 (CGW_CH_CFG_CFGREF k)) t) s
     else putFields d a s)
  else if b = (CGW_CH_NBT_BRPM1 0).addr ∨ b = (CGW_CH_DBT_BRPM1 0).addr ∨ b = (CGW_CH_MODE_FD 0).addr then
    cfgGuard (on s (CGW_CH_CFG_CHEN n)) (CGW_CH_CFG_CFGREF n) (putFields d a) s
  else putFields d a s

/-- DMA_CHn_CFG, _CHAIN and _RING are closed while the channel is ACTIVE or HALTED (R368). -/
def dmaClosed (s : State) (n : Nat) : Bool := dcState s n == dcACTIVE || dcState s n == dcHALTED

/-- A _CFG value that is refused (R357, R368). -/
def dmaCfgBad (a : RegArg) : Bool :=
  let ring := a.val (DMA_CH_CFG_RING 0) == 1
  a.val (DMA_CH_CFG_TRIG 0) == 3 || (ring && (a.val (DMA_CH_CFG_TRIG 0) != 0 || a.val (DMA_CH_CFG_REUSE 0) == 1))

/-- DMA_CHn_CTRL: EN, then CLRHALT, ABORT and GO. -/
def dmaCtrl (d : RegDesc) (a : RegArg) (s : State) : State :=
  let n := a.i
  let en := a.val (DMA_CH_CTRL_EN 0) == 1
  s |> putW1c a (DMA_CH_CTRL_CFGREF 0) |> when (on s (DMA_CH_CTRL_EN n) != en || on s (DMA_CH_CTRL_ENPEND n)) (dmaChannelEnable n en)
    |> when (a.val (DMA_CH_CTRL_CLRHALT 0) == 1) (dmaClearHalt n)
    |> when (a.val (DMA_CH_CTRL_ABORT 0) == 1) (dmaAbort n)
    |> when (a.val (DMA_CH_CTRL_GO 0) == 1) (dmaGo n)

def actDma (d : RegDesc) (a : RegArg) (s : State) : State :=
  let b := d.base
  let n := a.i
  if b = DMA_CTRL_EN.addr then dmaEnable (a.val DMA_CTRL_EN == 1) s
  else if b = (DMA_CH_CTRL_EN 0).addr then dmaCtrl d a s
  else if b = (DMA_CH_CFG_RING 0).addr then cfgGuard (dmaClosed s n || dmaCfgBad a) (DMA_CH_CTRL_CFGREF n) (putFields d a) s
  else if b = (DMA_CH_CHAIN_BASE 0 0).addr ∨ b = (DMA_CH_RING_BASE 0).addr then
    cfgGuard (dmaClosed s n) (DMA_CH_CTRL_CFGREF n) (putFields d a) s
  else if b = (DMA_CH_IDX_TAIL 0).addr then dmaTail n (a.val (DMA_CH_IDX_TAIL 0)) s
  else putFields d a s

/-! Field I/O, safety, pair -/

def actFio (d : RegDesc) (a : RegArg) (s : State) : State :=
  let b := d.base
  let n := a.i
  if b = FIO_CTRL_EN.addr then s |> putW1c a FIO_CTRL_CFGREF |> fioEnable (a.val FIO_CTRL_EN == 1)
  else if b = FIO_MAP_WBASE.addr ∨ b = (FIO_CHCFG_MODE 0).addr ∨ b = FIO_FCCFG_MODES.addr ∨ b = FIO_PAIRCFG_PEN.addr
      ∨ b = FIO_PAIRTP_TPW.addr then
    cfgGuard (on s FIO_CTRL_EN) FIO_CTRL_CFGREF (putFields d a) s
  else if b = (FIO_CHSTAT_CLR 0).addr then
    s |> putFields d a |> when (a.val (FIO_CHSTAT_CLR 0) == 1) (outputLatchClear n)
  else if b = (FIO_FCSET_VALUE 0).addr then fcSet n (a.val (FIO_FCSET_VALUE 0)) s
  else if b = (FIO_PAIRSTAT_CLR 0).addr then
    when (a.val (FIO_PAIRSTAT_CLR 0) == 1 && !a.refused (FIO_PAIRSTAT_CLR 0)) (pairLatchClear n) s
  else if b = FIO_WDT.addr then s |> putFields d a |> fioWdAdj
  else putFields d a s

def actSfu (d : RegDesc) (a : RegArg) (s : State) : State :=
  let b := d.base
  if b = SFU_CTRL_EN.addr then s |> putW1c a SFU_CTRL_CFGREF |> sfuEnable (a.val SFU_CTRL_EN == 1)
  else if b = SFU_CFGCTL_LOAD.addr then
    s |> when (a.val SFU_CFGCTL_LOAD == 1) (sfuLoad a.sess) |> when (a.val SFU_CFGCTL_COMMISSION == 1) (sfuCommission a.sess)
      |> when (a.val SFU_CFGCTL_DECOMMISSION == 1) (sfuDecommission a.sess)
  else if b = SFU_BBCFG_PORT.addr ∨ b = SFU_BBSRC_SRCIP.addr then cfgGuard (on s SFU_CTRL_EN) SFU_CTRL_CFGREF (putFields d a) s
  else putFields d a s

def actPair (d : RegDesc) (a : RegArg) (s : State) : State :=
  let act := d.base == PAIR_CTRL_SWITCH.addr
  s |> putFields d a
    |> when (act && a.val PAIR_CTRL_REJOIN == 1 && !a.refused PAIR_CTRL_REJOIN) rejoin
    |> when (act && a.val PAIR_CTRL_SWITCH == 1 && !a.refused PAIR_CTRL_SWITCH) switchRequest

/-! Events, Gleaner, access control, power -/

def actEvc (d : RegDesc) (a : RegArg) (s : State) : State :=
  let b := d.base
  if b = EVC_CRITACK_ACK.addr then
    s |> when (a.val EVC_CRITACK_ACK == 1) (critAck a.sess) |> when (a.val EVC_CRITACK_CLR == 1) (critClear a.sess)
  else if b = EVC_FWLOG_CRIT.addr then firmwareLog (a.val EVC_FWLOG_CRIT == 1) (a.val EVC_FWLOG_DETAIL) s
  else putFields d a s

def actGln (d : RegDesc) (a : RegArg) (s : State) : State :=
  let b := d.base
  if b = GLN_PERSIST_GO.addr then when (a.val GLN_PERSIST_GO == 1) glnPersist s
  else if b = GLN_UCLR_GO.addr then when (a.val GLN_UCLR_GO == 1) (glnUserClear a.sess) s
  else if b = GLN_HADD_HIST.addr then histogramAdd (a.val GLN_HADD_HIST) (a.val GLN_HADD_BIN) s
  else putFields d a s

def actAcc (d : RegDesc) (a : RegArg) (s : State) : State :=
  if d.base = ACC_LOCK.addr then
    s |> when (a.val ACC_LOCK == 1) (lockSet a.sess) |> when (a.val ACC_LOCK_UNLOCK == 1) (lockRelease a.sess)
  else putFields d a s

/-- PWR_ISLEN: each island's bit enables or disables it. -/
def islandsWrite (v : Nat) (s : State) : State :=
  (List.range 21).foldl (fun t k => islandSwitch (k + 1) (bit v k) t) s

/-- PWR_CLKSEL: while the cycle engine is enabled the write has no effect but REFUSED (R57). -/
def clockWrite (a : RegArg) (s : State) : State :=
  if on s CYC_CTRL_EN then set1 PWR_CLKSEL_REFUSED s
  else s |> putW1c a PWR_CLKSEL_REFUSED |> clockSelect (a.val PWR_CLKSEL_SRC == 1)

def actPwr (d : RegDesc) (a : RegArg) (s : State) : State :=
  let b := d.base
  if b = PWR_REQ_TARGET.addr then
    match cmdSession a.w (a.val PWR_REQ_SESSION) with
    | some n => when (isOwner s n && !a.refused PWR_REQ_TARGET) (powerRequest none n (a.val PWR_REQ_TARGET)) s
    | none => s
  else if b = PWR_CLKSEL_SRC.addr then clockWrite a s
  else if b = PWR_ISLEN.addr then islandsWrite (a.val PWR_ISLEN) s
  else putFields d a s

/-- What a write of a register does, by its block. -/
def regAct (blk : Nat) (d : RegDesc) (a : RegArg) (s : State) : State :=
  if blk = 0x01 then actSlc d a s else if blk = 0x02 then actWnw d a s else if blk = 0x03 then actCkp d a s
  else if blk = 0x04 then actCyc d a s else if 0x10 ≤ blk ∧ blk ≤ 0x13 then actJla d a s
  else if blk = 0x20 then actTim d a s else if blk = 0x21 then actBbs d a s else if blk = 0x22 then actHbr d a s
  else if blk = 0x23 then actCgw d a s else if blk = 0x24 then actDma d a s else if blk = 0x25 then actFio d a s
  else if blk = 0x26 then actSfu d a s else if blk = 0x27 then actPair d a s else if blk = 0x28 then actEvc d a s
  else if blk = 0x29 then actGln d a s else if blk = 0x2C then actAcc d a s else if blk = 0x2D then actPwr d a s
  else putFields d a s

/-! Refusals field by field (R8, R9, R512) -/

/-- A gate control list entry of the bank that operates, whose field is read-only (R304). -/
def gateEntryRo (s : State) (h : Hit) : Bool :=
  h.desc.base == (BBS_GCLE_ENTRY 0 0 0).addr && h.ix.getD 1 0 == rd s (BBS_GCL_CTRL_OPERBANK (h.ix.getD 0 0))

/-- Codes of the fields of a register under a write. -/
def regCodes (s : State) (w : Writer) (h : Hit) (v : Nat) : List (Nat × Nat) :=
  h.desc.fields.map (fun f =>
    (f.key, match f.acc with
      | .rwl | .rwo | .wo => if gateEntryRo s h then fOK else fieldCode s w (f.shift h.shift) (bits v f.lo f.width)
      | .rw | .ro | .w1c => fOK))

/-- A write of a whole register: refused fields keep what they read and their actions are not performed. -/
def regWrite (w : Writer) (h : Hit) (v : Nat) (s : State) : State × Nat :=
  let codes := regCodes s w h v
  let bad := fun f : Fld => (Assoc.find f.key codes).getD fOK != fOK
  let code := codes.foldl (fun c p => codeJoin c p.2) fOK
  let a : RegArg := ⟨w, h.ix, h.shift, fun f => if bad f then readField s (f.shift h.shift) else bits v f.lo f.width, bad⟩
  (s |> when (code != fOK) (auditWrite w (h.desc.base + h.shift) (readReg s h) v)
     |> regAct (blockOf (h.desc.base + h.shift)) h.desc a, code)

/-- Registers written by one access. -/
def regsWrite (w : Writer) (l : List (Hit × Nat)) (data : Nat) (s : State) : State × Nat :=
  l.foldl (fun p q =>
    let r := regWrite w q.1 (bits data q.2 (if q.1.desc.is64 then 64 else 32)) p.1
    (r.1, codeJoin p.2 r.2)) (s, fOK)

/-! Halves (R6) -/

/-- Address of the register that a half belongs to. -/
def Hit.addr (h : Hit) : Nat := h.desc.base + h.shift

/-- The half that a writer has accessed and whose other half has not come. -/
def halfOf (s : State) (w : Writer) (a : Nat) (write : Bool) : Option HalfAccess :=
  s.halves.find? (fun x => x.writer == w && x.addr == a && x.write == write)

/-- The half of a register that a writer has written, or has latched by a read, is dropped. -/
def halfDrop (w : Writer) (a : Nat) (write : Bool) (s : State) : State :=
  { s with halves := s.halves.filter (fun x => !(x.writer == w && x.addr == a && x.write == write)) }

/-- A 4-byte write to one half. -/
def halfWrite (w : Writer) (h : Hit) (data : Nat) (s : State) : State × Nat :=
  let s1 := halfDrop w h.addr true s
  if h.high then
    let low := match halfOf s w h.addr true with | some x => x.data | none => presentValue s h
    regWrite w h (low % 2 ^ 32 + data % 2 ^ 32 * 2 ^ 32) s1
  else ({ s1 with halves := s1.halves ++ [⟨w, h.addr, true, data % 2 ^ 32, upNow s⟩] }, fOK)

/-! Reads -/

/-- TIM_SEC, TIM_NSEC and TIM_FRAC read as last latched (R289). -/
def readWhole (s : State) (h : Hit) : Nat :=
  if h.addr = TIM_SEC.addr then s.tim.latSec
  else if h.addr = TIM_NSEC.addr then s.tim.latNsec
  else if h.addr = TIM_FRAC.addr then s.tim.latFrac
  else readReg s h

/-- A read of TIM_SEC, or of its low half, latches the time. -/
def readLatch (h : Hit) (s : State) : State := when (h.addr == TIM_SEC.addr && !h.high) timLatch s

/-- A read that reaches registers: the state after it, and the data. -/
def regRead (w : Writer) (r : Reach) (s : State) : State × Nat :=
  match r with
  | .whole l => let t := l.foldl (fun u p => readLatch p.1 u) s
      (t, l.foldl (fun v p => v + readWhole t p.1 * 2 ^ p.2) 0)
  | .half h =>
    let t := readLatch h s
    let u := halfDrop w h.addr false t
    if h.high then
      (u, match halfOf s w h.addr false with | some x => x.data | none => bits (readWhole t h) 32 32)
    else ({ u with halves := u.halves ++ [⟨w, h.addr, false, bits (readWhole t h) 32 32, upNow s⟩] }, bits (readWhole t h) 0 32)

/-! Accesses (R3, R5, R11, R74) -/

/-- A write access to register space and its code, as the target makes it. -/
def storeNow (w : Writer) (a size data : Nat) (s : State) : State × Nat :=
  let c := accessCode s a size
  if c ≠ fOK then (reportWrite w a c s, c)
  else match reach a size with
    | none => (s, fDECODE)
    | some r =>
      let p := match r with | .half h => halfWrite w h data s | .whole l => regsWrite w l data s
      (reportWrite w a p.2 p.1, p.2)

/-- A read access to register space: state, code and data. -/
def loadNow (w : Writer) (a size : Nat) (s : State) : State × Nat × Nat :=
  let c := accessCode s a size
  if c ≠ fOK then (s, c, codeData c size)
  else match reach a size with
    | none => (s, fDECODE, 0)
    | some r => let p := regRead w r s
        (p.1, fOK, p.2)

/-! Locks of the host (R334, R335) -/

/-- An access that waited is made. -/
def heldRun (s : State) (x : HeldAccess) : State :=
  match x.data with
  | some d => (storeNow x.writer x.addr x.size d s).1
  | none => let p := loadNow x.writer x.addr x.size s
      emit (.readData (writerInit x.writer) x.addr p.2.1 p.2.2) p.1

/-- Writers whose accesses the slices make. -/
def ofSlices (w : Writer) : Bool :=
  match w with
  | .userCore => true
  | .firmware _ => true
  | _ => false

/-- The stores of a queue that is issued in the log window still wait: what the slices store after them comes after them (R111). -/
def queueFirst (s : State) : Bool := on s I.CKP_REGDIRECT && !s.regq.isEmpty

/-- Accesses to blocks that are no longer locked are made, oldest first; those of the slices after the queue. -/
def releaseHeld (s : State) : State :=
  let free := fun x : HeldAccess => !blockLocked s (blockOf x.addr) && !(queueFirst s && ofSlices x.writer)
  (s.heldAcc.filter free).foldl heldRun { s with heldAcc := s.heldAcc.filter (fun x => !free x) }

/-- The half that the host has accessed is dropped, and what waited for its lock goes on. -/
def hostHalfBreak (s : State) : State := s |> hostHalfDrop |> releaseHeld

/-- Another host access comes between the two halves: any but a 4-byte access of the same kind to the high half. -/
def hostTouch (a size : Nat) (write : Bool) (s : State) : State :=
  if s.halves.any (fun x => x.writer == .host && !(x.addr + 4 == a && size == 4 && x.write == write)) then hostHalfBreak s else s

/-- Whether an access waits for a lock of the host. -/
def mustWait (w : Writer) (a : Nat) (s : State) : Bool := w != .host && blockLocked s (blockOf a)

/-- A write access to register space and its code; one that waits answers OK. -/
def storeReg (w : Writer) (a size data : Nat) (s : State) : State × Nat :=
  if mustWait w a s then ({ s with heldAcc := s.heldAcc ++ [⟨w, a, size, some data⟩] }, fOK)
  else
    let p := storeNow w a size data (when (w == .host) (hostTouch a size true) s)
    (releaseHeld p.1, p.2)

/-- A read access to register space: state, code and data; none while it waits. -/
def loadReg (w : Writer) (a size : Nat) (s : State) : State × Option (Nat × Nat) :=
  if mustWait w a s then ({ s with heldAcc := s.heldAcc ++ [⟨w, a, size, none⟩] }, none)
  else
    let p := loadNow w a size (when (w == .host) (hostTouch a size false) s)
    (releaseHeld p.1, some p.2)

/-- The checkpoint unit issues a queued store; of one that fails it logs address, data and code, and raises event 74 (R110, R112). -/
def issueStore (s : State) (q : RegStore) : State :=
  let p := storeReg q.writer q.addr q.size q.data s
  when (p.2 != fOK) (fun t =>
    { t with regErrs := t.regErrs ++ [(q, p.2)] } |> raiseWith 74 (accessDetail q.addr p.2 (writerInit q.writer)) false) p.1

/-- Queued stores are issued in order, each awaited: one that a lock of the host holds off keeps its place, with those behind it
(R110, R118). -/
def issueQueue : List RegStore → State → State
  | [], s => wr CKP_REGQ_ENTRIES 0 { s with regq := [] }
  | q :: l, s =>
    if mustWait q.writer q.addr s then wr CKP_REGQ_ENTRIES (l.length + 1) { s with regq := q :: l }
    else issueQueue l (issueStore s q)

/-- A store after the queue was issued in the log window: made at once, or behind what still waits for a lock of the host (R111). One
that is answered with an error counts as a queued store of R112: event 74 (DESIGN CHOICE, log entry 131). -/
def afterQueue (q : RegStore) (s : State) : State :=
  if queueFirst s then { s with heldAcc := s.heldAcc ++ [⟨q.writer, q.addr, q.size, some q.data⟩] } else issueStore s q

/-- The stores of a queue issued in the log window that a lock of the host held off go on, and what waits behind them (R111). -/
def issueDirect (s : State) : State := when (queueFirst s) (fun t => t |> issueQueue t.regq |> releaseHeld) s

/-! The rows -/

/-- REGISTER_WRITE: a write access of a writer to register space; or, of the host, one to BAR4, which breaks in on a half access (R334); a
poisoned one, discarded and reported; an AtomicOp, completed with Unsupported Request (R325). -/
def execRegisterWrite (w : Writer) (a : WriteTo) (size : Fin 16) (data : BitVec 64) (s : State) : Out :=
  .next (match a with
    | .space x => (storeReg w x.toNat size data.toNat s).1
    | .msix o => when (w == .host) (fun t => t |> hostHalfBreak |> msixWrite o.toNat size data.toNat) s
    | .poisoned => when (w == .host) (emit .poisonedReport) s
    | .atomic => when (w == .host) (fun t => t |> hostHalfBreak |> emit .unsupportedRequest) s)

/-- A read of the host completes with its data; HBR_RDERR and event 328 where the code is not OK (R329). -/
def hostReadDone (a code data : Nat) (s : State) : State :=
  s |> when (code != fOK) (fun t =>
      t |> wr HBR_RDERR_CODE code |> wr HBR_RDERR_ADDR a |> incSat HBR_RDERR_COUNT 1 |> raiseWith 328 (accessDetail a code 2) false)
    |> emit (.readData 2 a code data)

/-- Whether what an access reaches is one half of a 64-bit register. -/
def Reach.isHalf : Reach → Bool
  | .half _ => true
  | .whole _ => false

/-- Whether a 4-byte access at an address reaches one half of a 64-bit register (R6). -/
def reachesHalf (a : Nat) : Bool := (reach a 4).elim false Reach.isHalf

/-- A 4-byte access to one half: a write with its data, or a read, whose answer goes to the initiator once it is made. -/
def halfAccess (w : Writer) (a : Nat) (data : Option Nat) (s : State) : State :=
  match data with
  | some d => (storeReg w a 4 d s).1
  | none =>
    let p := loadReg w a 4 s
    p.2.elim p.1 (fun r => if w = .host then hostReadDone a r.1 r.2 p.1 else emit (.readData (writerInit w) a r.1 r.2) p.1)

/-- REGISTER_HALF_ACCESS: a 4-byte access to one half of a 64-bit register; a write where there are data, and else a read, whose
data go to the initiator. -/
def execRegisterHalfAccess (w : Writer) (a : BitVec 40) (data : Option Word) (s : State) : Out :=
  .next (when (reachesHalf a.toNat) (halfAccess w a.toNat (data.map (·.toNat))) s)

end Sys2Proof.Machine
end

