-- ==== Sys2Proof/Machine/Bridge.lean ====
section
/-! DEFINITION. Accesses of the slices to the fabric (R82, R83, R91, R106, R109 to R117, R189), reads of the host (R329), outbound
reads that fail or are retried (R332, R333), locks of the host (R334, R335), and slice interrupts (R456). -/

namespace Sys2Proof.Machine

open R

/-! The fabric as the slices reach it -/

/-- The writer that an access of the slices is attributed to: user mode, or firmware for a session (R9). -/
def sliceWriter (fw : Option (Fin 8)) : Writer :=
  match fw with
  | none => .userCore
  | some n => .firmware n

/-- Who makes an access of the slices, as the image and the safety area tell initiators apart. -/
def accInit (m : SliceAcc) : Initiator := if m.own.isNone then .slices else .otherSlice

/-- The slice of an access executes. -/
def accRuns (m : SliceAcc) (s : State) : Bool :=
  match m.own with
  | none => slicesRun s
  | some k => ownRuns s k

/-- Bytes of fabric memory as the slices read them: the image as the cycle has it while the log window of the participating ones is
open (R109, R191). -/
def sliceBytes (i : Initiator) (s : State) (a n : Nat) : List Byte :=
  if regionOf a = .image ∧ i = .slices ∧ on s CKP_STATUS_LOGOPEN = true then cycBytes s a n else memReadBy s a n

/-- A load outside register space: state, code and data. -/
def memLoad (i : Initiator) (a size : Nat) (s : State) : State × Nat × Nat :=
  if !sizeOk a size then (s, fSIZE, 0)
  else if regionOf a = .outbound then
    if obCode s a = fOK then let r := freeBytes size s
      (r.2, fOK, leBytes r.1)
    else (s, fDECODE, 0)
  else if memCode s a ≠ fOK then (s, memCode s a, codeData (memCode s a) size)
  else (s, fOK, leBytes (sliceBytes i s a size))

/-- A store outside register space, not staged and not logged, and its code. -/
def memStore (i : Initiator) (a size data : Nat) (s : State) : State × Nat :=
  if !sizeOk a size then (s, fSIZE)
  else if regionOf a = .outbound then obWrite obSlices a (bytesLE size data) s
  else memWriteBy i a (bytesLE size data) s

/-- A load or store of a core that is not naturally aligned (Table 4.1). -/
def misaligned (a size : Nat) : Bool := (size == 2 || size == 4 || size == 8) && a % size != 0

/-- Memory that takes LR, SC and AMOs: DDR and shared SRAM, in words of 4 and 8 bytes (Table 4.1). -/
def atomicAt (a size : Nat) : Bool :=
  let r := regionOf a
  (r == .ddr || r == .sram || r == .safetyArea || r == .undoLog) && (size == 4 || size == 8)

/-- Memory whose lines the caches hold. -/
def cached (a : Nat) : Bool := regionOf a == .ddr || regionOf a == .sram || regionOf a == .safetyArea

/-! FABRIC_READ (R82) -/

/-- An outbound load of the slices at an address ends. -/
def slcReadDone (own : Option (Fin 3)) (core a : Nat) (s : State) : State :=
  { s with outReads := s.outReads.filter (fun r => !(r.init == obSlices && r.own == own && r.core == core && r.addr == a)) }

/-- The load is issued, and its data are delivered; one that waits for the host is delivered later. -/
def slcLoad (m : SliceAcc) (a size : Nat) (stalled : Bool) (s : State) : State :=
  let w := sliceWriter m.fw
  if regionOf a = .registers then
    let p := loadReg w a size s
    match p.2 with
    | some r => emit (.readData (writerInit w) a r.1 r.2) p.1
    | none => p.1
  else if stalled && regionOf a == .outbound && sizeOk a size && obCode s a == fOK then
    (if s.outReads.any (fun r => r.init == obSlices && r.addr == a) then s else obIssue obSlices m.own m.core a size s)
  else
    let p := memLoad (accInit m) a size s
    p.1 |> slcReadDone m.own m.core a |> when (cached a && p.2.1 == fOK) (cacheTouch m.own m.core a false)
      |> emit (.readData (writerInit w) a p.2.1 p.2.2)

/-- Memory protection lets the access pass; firmware for a session runs in machine mode (Table 4.1). -/
def accPmp (m : SliceAcc) (a size : Nat) (store : Bool) (s : State) : Bool :=
  let c := coreOf s m.own m.core
  pmpAllows (if m.fw.isSome then { c with user := false } else c) a size store

/-- A load of a core: one that is not aligned raises the address-misaligned exception, a load-reserved outside DDR and shared SRAM,
or what memory protection refuses, an access fault; a load-reserved reserves its granule (Table 4.1, R186, R326). -/
def coreLoad (m : SliceAcc) (lr : Bool) (a size : Nat) (stalled : Bool) (s : State) : State :=
  if misaligned a size then coreFault m.own m.core (exMisaligned false) a s
  else if (lr && !atomicAt a size) || !accPmp m a size false s then accessFault m.own m.core false a s
  else s |> slcLoad m a size stalled |> when lr (reserve m.own m.core a)

/-- A read of a core: a load, or of a CSR, whose value is delivered to every slice at its stagger offset (R82, R281). -/
def sliceLoad (m : SliceAcc) (k : LoadKind) (a size : Nat) (stalled : Bool) (s : State) : State :=
  match k with
  | .plain => coreLoad m false a size stalled s
  | .reserved => coreLoad m true a size stalled s
  | .csr n => csrLoad m.own m.core n.toNat s

/-- FABRIC_READ: a load of the participating slices, or of a slice with tasks of its own. `differ` names the
slices whose request differs from the issued one, which the port check names (R86), and `stalled` tells that an outbound load waits for
the host. -/
def execFabricRead (m : SliceAcc) (k : LoadKind) (a : BitVec 40) (size : Fin 16) (differ : Fin 8) (stalled : Bool) (s : State) : Out :=
  .next (if accRuns m s then
    s |> sliceLoad m k a.toNat size stalled |> when m.own.isNone (nameDivergent differ 4)
  else s)

/-! SLICE_STORE (R83) -/

/-- The store needs a new undo log entry (R113, R117). -/
def needsEntry (s : State) (a : Nat) : Bool :=
  !on s I.CKP_LOGFULL && !undoHit s (a / 64 * 64) && decide (s.undo.length < undoCapacity)

/-- A store of the cycle to logged memory; in the image the page is marked for a join. -/
def loggedStore (a : Nat) (bs : List Byte) (s : State) : State :=
  s |> when (regionOf a == .image) (joinMark (imgPage a)) |> sliceMemStore a bs

/-- A store of the cycle to logged memory that needs an entry within 20 ns of the last one is held (R116). -/
def logStore (w : Writer) (a size data : Nat) (soon : Bool) (s : State) : State :=
  if soon && needsEntry s a then { s with stalled := s.stalled ++ [⟨w, a, size, data⟩] }
  else loggedStore a (bytesLE size data) s

/-- A store of the cycle to an area of the image that Table 8.3 does not permit. -/
def cycleRefused (m : SliceAcc) (a : Nat) (s : State) : State := s |> protRecord 0 a 98 |> accessFault m.own m.core true a

/-- A store of the cycle to the image window (Table 8.3, first column). -/
def cycleImage (m : SliceAcc) (a size data : Nat) (soon : Bool) (s : State) : State :=
  if imgArea a = .qWork then s |> joinMark (imgPage a) |> qStore (a - imgQ) (bytesLE size data)
  else if imgArea a = .words ∨ imgArea a = .enable then logStore (sliceWriter m.fw) a size data soon s
  else cycleRefused m a s

/-- A store of the cycle to a register: queued, or issued directly once the queue has overflowed (R110, R111). The stores issued at the
overflow find no commit being completed, so that JLA_TXRDY latches CKP_SEQ and not CKP_SEQ + 1 (DESIGN CHOICE, log entry 131). -/
def cycleRegister (w : Writer) (a size data : Nat) (s : State) : State :=
  let q : RegStore := ⟨w, a, size, data⟩
  let n := s.regq.length + 1
  if on s I.CKP_REGDIRECT then afterQueue q s
  else if s.regq.length < 256 then
    { s with regq := s.regq ++ [q] } |> wr CKP_REGQ_ENTRIES n |> wr CKP_REGQ_PEAK (max n (rd s CKP_REGQ_PEAK))
  else s |> issueQueue s.regq |> set1 I.CKP_REGDIRECT |> afterQueue q |> set1 CKP_STATUS_NONRB |> raise 68

/-- A store that is issued as it comes: by the participating slices outside the log window, or by a slice with tasks of its own. One
that Table 8.3 does not permit the participating slices raises an access fault in its core. -/
def directStore (m : SliceAcc) (a size data : Nat) (s : State) : State :=
  let w := sliceWriter m.fw
  if regionOf a = .registers then (storeReg w a size data s).1
  else
    let p := memStore (accInit m) a size data s
    p.1 |> writeAnswer w a p.2
      |> when (m.own.isNone && regionOf a == .image && imgDenied a && p.2 == fOK) (accessFault m.own m.core true a)

/-- A store of the participating slices in the log window, as the store vote unit issues it. -/
def cycleStore (m : SliceAcc) (a size data : Nat) (soon : Bool) (s : State) : State :=
  let w := sliceWriter m.fw
  let ok := sizeOk a size && memCode s a == fOK
  match regionOf a with
  | .registers => cycleRegister w a size data s
  | .image => if ok then cycleImage m a size data soon s else directStore m a size data s
  | .ddr | .sram => if ok then logStore w a size data soon s else directStore m a size data s
  | .safetyArea => if ok && safetyRight .slices a then logStore w a size data soon s else directStore m a size data s
  | _ => directStore m a size data s

/-- The store is issued. -/
def issueSlice (m : SliceAcc) (a size data : Nat) (soon : Bool) (s : State) : State :=
  if on s CKP_STATUS_LOGOPEN then cycleStore m a size data soon s else directStore m a size data s

/-- The window of slice C in Duo mode (SLC_CWIN, in units of 64 KiB). -/
def inCwin (s : State) (a size : Nat) : Bool :=
  decide (rd s SLC_CWIN_BASE * 65536 ≤ a ∧ a + size ≤ (rd s SLC_CWIN_BASE + rd s SLC_CWIN_SIZE) * 65536)

/-- Slice C in Duo mode stores outside its window (R91). -/
def cwinRefuses (m : SliceAcc) (a size : Nat) (s : State) : Bool := m.own.isSome && rd s SLC_MODE == 1 && !inCwin s a size

/-- The store vote: three slices issue what two agree on; two issue what both agree on; a slice alone issues its own. `differ`
names the slices whose copy differs from the others'; the window's result shows them (R83, R86). -/
def storeVote (m : SliceAcc) (differ a size data : Nat) (soon : Bool) (s : State) : State :=
  let part := rd s SLC_MODE_PART
  let d := Nat.land differ part
  if partCount s < 2 ∨ d = 0 ∨ (partCount s = 3 ∧ (oneSlice d).isSome = true) then
    s |> issueSlice m a size data soon |> nameDivergent differ 5
  else nameDivergent (if partCount s = 3 then differ else Nat.lor differ part) 5 s

/-- A store as its slice sends it out. -/
def sendStore (m : SliceAcc) (differ a size data : Nat) (soon : Bool) (s : State) : State :=
  s |> when (cached a) (cacheTouch m.own m.core a true)
    |> (if m.own.isNone then storeVote m differ a size data soon else directStore m a size data)

/-- A store-conditional or an AMO: what it stores, if it stores, and what its core gets. -/
def atomicParts (m : SliceAcc) (k : StoreKind) (a size data : Nat) (s : State) : Option Nat × Nat :=
  let old := if memCode s a = fOK then leBytes (sliceBytes (accInit m) s a size) else codeData (memCode s a) size
  match k with
  | .plain => (some data, 0)
  | .sc => if reserved s m.own m.core a then (some data, 0) else (none, 1)
  | .amo op => (some (amoValue op size old data), old)

/-- A store of a core: one that is not aligned raises the address-misaligned exception, and an SC or AMO outside DDR and shared SRAM an
access fault, and so does one that memory protection refuses (Table 4.1, R186, R326); a store ends the reservations of its granule. -/
def coreStore (m : SliceAcc) (k : StoreKind) (differ a size data : Nat) (soon : Bool) (s : State) : State :=
  if misaligned a size then coreFault m.own m.core (exMisaligned true) a s
  else if !accPmp m a size true s then accessFault m.own m.core true a s
  else if cwinRefuses m a size s then s |> raise 49 |> accessFault m.own m.core true a
  else if k = .plain then s |> unreserve m.own m.core a false |> sendStore m differ a size data soon
  else if !atomicAt a size then accessFault m.own m.core true a s
  else
    let p := atomicParts m k a size data s
    let s1 := match p.1 with
      | some v => s |> unreserve m.own m.core a (k == .sc) |> sendStore m differ a size v soon
      | none => coreSet m.own m.core (fun c => { c with resv := none }) s
    emit (.atomicResult a p.2) s1

/-- SLICE_STORE: a store, store-conditional or AMO of the participating slices, or of a slice with tasks of its own; `soon` tells that
the last undo log entry was written less than 20 ns ago. -/
def execSliceStore (m : SliceAcc) (k : StoreKind) (differ : Fin 8) (a : BitVec 40) (size : Fin 16) (data : BitVec 64) (soon : Bool)
    (s : State) : Out :=
  .next (if accRuns m s then coreStore m k differ a.toNat size data.toNat soon s else s)

/-- STALLED_STORE_RELEASE: the entry of the oldest store that is held is written, and the store is made (R116). -/
def execStalledStoreRelease (s : State) : Out :=
  .next (match s.stalled with
  | [] => s
  | q :: rest => if on s CKP_STATUS_LOGOPEN then loggedStore q.addr (bytesLE q.size q.data) { s with stalled := rest } else s)

/-! IMAGE_WRITE (R189) -/

/-- IMAGE_WRITE by an initiator other than the participating slices: a permitted access, or a DMA burst, which crosses no
256-byte boundary. -/
def execImageWrite (i : Initiator) (a : BitVec 40) (bs : List Byte) (s : State) : Out :=
  .next (if i = .slices ∨ regionOf a.toNat ≠ .image then s
    else if i ≠ .dma ∧ sizeOk a.toNat bs.length = false then s
    else (memWriteBy i a.toNat (bs.take (256 - a.toNat % 256)) s).1)

/-! Reads of the host (R329) -/

/-- A read through BAR0 at an offset. -/
def inboundRead (o size : Nat) (s : State) : State :=
  let p := loadReg .host (regSpace + o) size s
  p.2.elim p.1 (fun r => hostReadDone (regSpace + o) r.1 r.2 p.1)

/-- Code of a read in BAR2 or BAR4: of a size other than 4 or 8, or unaligned, SIZE (R329). -/
def barCode (o size : Nat) : Nat := if !(size == 4 || size == 8) || o % size != 0 then fSIZE else fOK

/-- INBOUND_READ. Any host access breaks in on a half access (R334). -/
def execInboundRead (p : BarAddr) (size : Fin 16) (s : State) : Out :=
  .next (if p.bar.val = 0 then inboundRead p.offset.toNat size s
    else
      let o := p.offset.toNat
      let c := barCode o size
      s |> hostHalfBreak |> hostReadDone o c (if c = fOK then barRead s p.bar o size else 0))

/-! Outbound reads (R332, R333) -/

/-- The outbound read of an initiator fails with DECODE: a load of the slices gets 0, a descriptor of the DMA ends. -/
def obFails (init : Nat) (r : OutRead) (s : State) : State :=
  if init = obSlices then s |> slcReadDone r.own r.core r.addr |> emit (.readData 0 r.addr fDECODE 0)
  else match (dch s init).words with
    | some w => dmaEnded init dsFABRIC fDECODE (dTotal (dDesc w)) s
    | none => when (dmaFetching s init) (dmaFetchFails init dsDESCREAD fDECODE) s |> obDone init

/-- The open read that ends: of the slices, the one at the address; a DMA channel has only one. -/
def obEnds (s : State) (init addr : Nat) : Option OutRead := obOpenAt s init (fun r => init != obSlices || r.addr == addr)

/-- A failed outbound read of an initiator is recorded with a status, and event 331 is raised. The ring engine's reads are parts of
its commands, which say what becomes of them. -/
def obFailed (init status addr : Nat) (s : State) : State :=
  if init = 17 then s |> obError status 17 addr |> raise 331
  else match obEnds s init addr with
    | none => s
    | some r => s |> obError status init r.addr |> raise 331 |> obFails init r

/-- OUTBOUND_READ_TIMEOUT: no completion within HBR_CPLTO µs. `addr` is the address of a read of the ring engine or of the slices. -/
def execOutboundReadTimeout (init : Fin 18) (addr : BitVec 40) (s : State) : Out :=
  .next (if init.val = 17 ∨ (obEnds s init addr.toNat).any (fun r => decide (r.since + 1000 * rd s HBR_CPLTO_TIMEOUT ≤ upNow s)) = true then obFailed init 4 addr.toNat s else s)

/-- OUTBOUND_READ_ERROR: Unsupported Request (1), Completer Abort (2) or a poisoned completion (3). -/
def execOutboundReadError (init : Fin 18) (kind : Fin 3) (addr : BitVec 40) (s : State) : Out :=
  .next (obFailed init (kind.val + 1) addr.toNat s)

/-- The 16th retry response to the same read: a load of the slices faults, a DMA channel ends. -/
def obExhaust (init : Nat) (r : OutRead) (s : State) : State :=
  let s1 := s |> incSat HBR_XCNT_EXHAUST 1 |> raise 329
  if init = obSlices then s1 |> slcReadDone r.own r.core r.addr |> accessFault r.own r.core false r.addr
  else match (dch s init).words with
    | some w => dmaEnded init dsRETRY fOK (dTotal (dDesc w)) s1
    | none => when (dmaFetching s1 init) (dmaFetchFails init dsRETRY fOK) s1 |> obDone init

/-- A retry response to an outbound read. -/
def obRetry (init : Nat) (r : OutRead) (s : State) : State :=
  let s1 := incSat HBR_XCNT_RETRY 1 s
  if r.retries + 1 ≥ 16 then obExhaust init r s1
  else { s1 with outReads := s1.outReads.map (fun x =>
      if x == r then { x with retries := x.retries + 1, reissue := true, since := upNow s } else x) }

/-- CROSSING_DEADLOCK_BREAK: an inbound read and the outbound read of an initiator have waited 2 µs for each other. -/
def execCrossingDeadlockBreak (init : Fin 17) (o : BitVec 24) (size : Fin 16) (s : State) : Out :=
  .next (match obOpen s init with
  | none => s
  | some r => if obAged s init 2000 then s |> obRetry init r |> inboundRead o.toNat size else s)

/-- READ_REISSUE: 1 µs after the retry response, as a new request; a window that no longer takes accesses answers DECODE (R326). -/
def execReadReissue (init : Fin 17) (s : State) : Out :=
  .next (match s.outReads.find? (fun r => r.init == init.val && r.reissue) with
  | none => s
  | some r =>
    if upNow s < r.since + 1000 then s
    else if obCode s r.addr ≠ fOK then obFails init r s
    else { s with outReads := s.outReads.map (fun x => if x == r then { x with reissue := false, since := upNow s } else x) })

/-! Locks (R334, R335) -/

/-- HALF_LOCK_TIMEOUT: 1 µs after the low half. -/
def execHalfLockTimeout (s : State) : Out :=
  .next (if s.halves.any (fun x => x.writer == .host && decide (x.since + 1000 ≤ upNow s)) then s |> hostHalfBreak |> issueDirect else s)

/-- HOST_LOCK_GO: HBR_LOCK is written with GO, a block and a time. -/
def execHostLockGo (w : Writer) (block : BitVec 8) (time : BitVec 5) (s : State) : Out :=
  .next (gateWrites w [(HBR_LOCK_GO, 1), (HBR_LOCK_BLOCK, block.toNat), (HBR_LOCK_TIME, time.toNat)]
    (fun taken t => t |> when (taken HBR_LOCK_BLOCK) (wr HBR_LOCK_BLOCK block.toNat)
      |> when (taken HBR_LOCK_TIME) (wr HBR_LOCK_TIME (clampNat 1 20 time.toNat)) |> when (taken HBR_LOCK_GO) hostLockGo) s)

/-- HOST_UNLOCK: what waited for the lock goes on. -/
def execHostUnlock (w : Writer) (s : State) : Out :=
  .next (gateWrite w HBR_LOCK_UNLOCK 1 (fun t => t |> hostUnlock |> releaseHeld |> issueDirect) s)

/-- HOST_LOCK_TIMEOUT: TIME µs after the lock. -/
def execHostLockTimeout (s : State) : Out :=
  .next (if on s HBR_LOCKST_HELD && decide (rd s I.HBR_LOCKT + 1000 * rd s HBR_LOCK_TIME ≤ upNow s) then s |> clr HBR_LOCKST_HELD |> lockBroken |> releaseHeld |> issueDirect else s)

/-! FILL (R352) -/

/-- FILL: memory in bursts, or one access to a register, which waits for a lock of the host (R335, R360). -/
def fillAct (n : Nat) (d : DDesc) (s : State) : State :=
  if rangeMeets (dstExtent d) regRange then
    if mustWait .dma d.dst s then s else
    let p := storeReg .dma d.dst d.len (leBytes ((List.range d.len).map (fun i => fillByte d (d.dst + i)))) s
    dmaEnded n (if p.2 = fOK then dsOK else dsFABRIC) p.2 (if p.2 = fOK then 0 else d.len) p.1
  else
    let p := fillRun n d d.len s
    dmaEnded n (if p.code = fOK then dsOK else dsFABRIC) p.code (d.len - p.moved) p.s

/-- FILL. -/
def execFill (n : Fin 16) (s : State) : Out := .next (dmaMode n 1 (fillAct n) s)

/-! SLICE_INTERRUPT_DELIVERY (R456) -/

/-- SLICE_INTERRUPT_DELIVERY: the oldest delivery reaches its core, outside the log window: a machine external interrupt. -/
def execSliceInterruptDelivery (s : State) : Out :=
  .next (match s.extIrq with
  | [] => s
  | (k, _) :: rest =>
    if on s CKP_STATUS_LOGOPEN || !slicesRun s then s
    else coreSet none k (trapEnter (2 ^ 63 + 11) 0 true) { s with extIrq := rest })

end Sys2Proof.Machine
end

