-- ==== Sys2Proof/Machine/Commands.lean ====
section
/-! DEFINITION. Doorbells (R310), and the commands that read and write the module for a session (R321, R322, R466): RDREG, RDMEM,
RDLOG, WRREG, WRMEM, QUENCH. Firmware of the participating slices carries them out. -/

namespace Sys2Proof.Machine

open R

/-! DOORBELL_WRITE (R310) -/

/-- A doorbell of DMA channel n: in Drowse its index is kept. -/
def dmaBell (n idx : Nat) (s : State) : State :=
  if pwState s = pwDROWSE then wr (I.DMA_DBKEPT n) (idx + 1) s else dmaDoorbell n idx s

/-- A doorbell. -/
def doorbell (d idx : Nat) (filled : List (Option (List Word))) (s : State) : State :=
  if d < 16 then ringDoorbell d idx filled s
  else if 64 ≤ d ∧ d < 80 then dmaBell (d - 64) idx s
  else doorbellDiscard d s

/-- DOORBELL_WRITE: an aligned write of 4 or 8 bytes to doorbell `d`; `filled` are the words of the descriptors that it announces, none where a read of
them fails. In Drowse it
is a wake source, `late` in the last 50 µs of isolation. Any other host access breaks in on a half access (R334). -/
def execDoorbellWrite (d : Fin 8192) (idx : BitVec 12) (filled : List (Option (List Word))) (late : Bool) (s : State) : Out :=
  .next (s |> hostHalfBreak |> doorbell d idx.toNat filled |> wakeFire 1 late)

/-! Accesses by firmware -/

/-- A load by firmware for a session: state, code and data. While the block is locked for the host it waits, and the command with
it. -/
def fwLoad (sess : Fin 8) (a size : Nat) (s : State) : State × Nat × Nat :=
  if regionOf a = .registers then loadNow (.firmware sess) a size s else memLoad .slices a size s

/-- The core that carries out a session's command: the first that runs no slice task (DESIGN CHOICE, log entry 100). -/
def fwCore (s : State) : Fin 4 :=
  if !on s (I.CORE_TASK 0) then 0 else if !on s (I.CORE_TASK 1) then 1 else if !on s (I.CORE_TASK 2) then 2
  else if !on s (I.CORE_TASK 3) then 3 else 0

/-- A store by firmware for a session, outside the cycle; code 16 stands for the access fault of Table 8.3, which its core takes. -/
def fwStore (sess : Fin 8) (a size data : Nat) (s : State) : State × Nat :=
  if regionOf a = .registers then storeNow (.firmware sess) a size data s
  else if regionOf a = .image ∧ sizeOk a size = true ∧ imgDenied a = true ∧ regionOn s .image = true then
    (accessFault none (fwCore s) true a (memStore .slices a size data s).1, 16)
  else memStore .slices a size data s

/-- The accesses of 8, 4, 2 or 1 bytes that cover `n` bytes from `a`, in order: address and size. -/
def accessList : Nat → Nat → Nat → List (Nat × Nat)
  | 0, _, _ => []
  | fuel + 1, a, n =>
    if n = 0 then []
    else
      let z := if a % 8 = 0 ∧ 8 ≤ n then 8 else if a % 4 = 0 ∧ 4 ≤ n then 4 else if a % 2 = 0 ∧ 2 ≤ n then 2 else 1
      (a, z) :: accessList fuel (a + z) (n - z)

/-- An access by firmware of the slices waits: for the slices, or for a block that is locked for the host. -/
def fwWaits (s : State) (a : Nat) : Bool := slicesHeld s || (regionOf a == .registers && blockLocked s (blockOf a))

/-- The fabric codes of Table 0.4 that are no success. -/
def errorCodes : List Nat := [fSIZE, fDECODE, fABSENT, fOFF, fROLE, fLOCK]

/-- Completion of a command that reads or writes: FABRIC with the code where it is not OK. An access fault has no fabric code: the
FCODE is a free one of those that there are (log entry 3). -/
def fwDoneData (ref : CmdRef) (op code : Nat) (result len : Option Nat) (data : List Byte) (s : State) : State :=
  let res := result.getD (rd s CKP_SEQ)
  if code = fOK then completeData ref op cOK 0 res (len.getD 0) false data s
  else if code = 16 then
    completeData ref op cFABRIC (errorCodes.getD (Config.freeValue s.freeCtr % 6) fSIZE) res (len.getD 0) false data (useFree s)
  else completeData ref op cFABRIC code res (len.getD 0) false data s

/-- The same without data in a buffer. -/
def fwDone (ref : CmdRef) (op code : Nat) (result len : Option Nat) (s : State) : State := fwDoneData ref op code result len [] s

/-- A command that returns data completes: session 0 has them in its buffer, a remote session in its COMPLETION unit (R307, R316). -/
def bufferDone (ref : CmdRef) (op code : Nat) (bs : List Byte) (s : State) : State :=
  if ref.session.val = 0 ∧ obLink s = false then s |> ringLost (cmdBuf s ref) |> complete ref op cBUFERR
  else if ref.session.val = 0 then s |> emit (.buffer ref (cmdBuf s ref) bs) |> fwDone ref op code none (some bs.length)
  else fwDoneData ref op code none (some bs.length) bs s

/-! The rows -/

/-- RDREG: 4 or 8 bytes of a register into RESULT. It waits for a lock of the host. -/
def execRdreg (ref : CmdRef) (a : BitVec 40) (size : BitVec 32) (s : State) : Out :=
  .next (if fwWaits s a.toNat then s
    else cmdGate ref 0x10 id (fun t =>
      if size ≠ 4 ∧ size ≠ 8 then complete ref 0x10 cBADARG t
      else
        let p := fwLoad ref.session a.toNat size.toNat t
        fwDone ref 0x10 p.2.1 (some p.2.2) none p.1) s)

/-- Bytes read until an access fails: state, code, bytes. -/
def fwRead (sess : Fin 8) (l : List (Nat × Nat)) (s : State) : State × Nat × List Byte :=
  l.foldl (fun r x =>
    if r.2.1 ≠ fOK then r
    else
      let p := fwLoad sess x.1 x.2 r.1
      if p.2.1 = fOK then (p.1, fOK, r.2.2 ++ bytesLE x.2 p.2.2) else (p.1, p.2.1, r.2.2)) (s, fOK, [])

/-- Bytes written until an access fails: state, code, count. -/
def fwWrite (sess : Fin 8) (l : List (Nat × Nat)) (bs : List Byte) (s : State) : State × Nat × Nat :=
  l.foldl (fun r x =>
    if r.2.1 ≠ fOK then r
    else
      let p := fwStore sess x.1 x.2 (leBytes ((bs.drop r.2.2).take x.2)) r.1
      if p.2 = fOK then (p.1, fOK, r.2.2 + x.2) else (p.1, p.2, r.2.2)) (s, fOK, 0)

/-- RDMEM: `n` bytes of module memory into the buffer; `bufOk` tells whether the buffer took them. -/
def execRdmem (ref : CmdRef) (a : BitVec 40) (n : BitVec 32) (bufOk : Bool) (s : State) : Out :=
  .next (if fwWaits s a.toNat then s
    else cmdGate ref 0x11 id (fun t =>
      if n.toNat > 65536 then complete ref 0x11 cBADARG t
      else
        let r := fwRead ref.session (accessList n.toNat a.toNat n.toNat) t
        if !(bufOk && bufReach t ref) then complete ref 0x11 cBUFERR r.1 else bufferDone ref 0x11 r.2.1 r.2.2 r.1) s)

/-- RDLOG: as many entries of 32 bytes as the buffer holds. -/
def execRdlog (ref : CmdRef) (arg0 n : BitVec 32) (bufOk : Bool) (s : State) : Out :=
  .next (cmdGate ref 0x13 id (fun t =>
    if n.toNat < 32 ∨ (bufOk && bufReach t ref) = false then complete ref 0x13 cBUFERR t
    else
      let crit := bit arg0.toNat 31
      let bs := logEntries t crit (if crit then bits arg0.toNat 0 8 else bits arg0.toNat 0 31) (n.toNat / 32)
      bufferDone ref 0x13 fOK bs t) s)

/-- A write that sets PAIR_CTRL.REJOIN and changes nothing else of the register, which a standby's owner may make (R450). -/
def isRejoin (s : State) (a data : Nat) : Bool :=
  a == PAIR_CTRL_REJOIN.addr && bit data PAIR_CTRL_REJOIN.lo
    && (findReg a).any (fun h => h.desc.fields.all (fun f =>
      f.key == PAIR_CTRL_REJOIN.key || bits data f.lo f.width == readField s (f.shift h.shift)))

/-- WRREG: ARG3, zero-extended for 8 bytes. LOCK and ROLE of the field rules are told by FCODE. A standby refuses it but for
PAIR_CTRL. -/
def execWrreg (ref : CmdRef) (a : BitVec 40) (size data : BitVec 32) (s : State) : Out :=
  .next (if fwWaits s a.toNat then s
    else cmdRun ref 0x34 (fun t =>
      if !roleOk t ref.session 0x34 then complete ref 0x34 cROLE t
      else if pairStandby t && !isRejoin t a.toNat data.toNat then complete ref 0x34 cSTATE t
      else if size ≠ 4 ∧ size ≠ 8 then complete ref 0x34 cBADARG t
      else if regionOf a.toNat = .registers then
        let p := storeNow (.firmware ref.session) a.toNat size.toNat data.toNat t
        fwDone ref 0x34 p.2 none none p.1
      else
        let p := fwStore ref.session a.toNat size.toNat data.toNat t
        fwDone ref 0x34 p.2 none none p.1) s)

/-- WRMEM: `bs` are what the buffer held, none where it could not be read; BUFLEN is their number. -/
def execWrmem (ref : CmdRef) (a : BitVec 40) (bs : Option (List Byte)) (s : State) : Out :=
  .next (if fwWaits s a.toNat then s
    else cmdGate ref 0x35 id (fun t =>
      match cmdBytes t ref bs with
      | none => complete ref 0x35 cBUFERR t
      | some l =>
        if l.length > 65536 then complete ref 0x35 cBADARG t
        else
          let r := fwWrite ref.session (accessList l.length a.toNat l.length) l t
          fwDone ref 0x35 r.2.1 none (some r.2.2) r.1) s)

/-- The block whose registers a QUENCH writes. -/
def quenchBlock (arg0 : Nat) : Nat := if bits arg0 28 4 = 1 then 0x10 + bits arg0 0 2 else 0x21

/-- QUENCH (R322): a backbone port at once, a Jalora channel when a management slot has carried the register. A target whose island is
off answers FABRIC with OFF. It waits while the host holds the block. -/
def execQuench (ref : CmdRef) (arg0 arg1 : BitVec 32) (s : State) : Out :=
  .next (if fwBlockWaits s (quenchBlock arg0.toNat) then s
    else cmdGate ref 0x29 id (fun t =>
    let a0 := arg0.toNat
    let a1 := arg1.toNat
    if bits a0 28 4 = 0 then
      if islandOn t 11 = false then fwDone ref 0x29 fOFF none none t
      else t |> bbsQuench (bits a0 0 2) (bit a1 7) (bits a1 0 7) |> complete ref 0x29 cOK
    else if bits a0 28 4 = 1 then
      let c := bits a0 0 2
      if islandOn t (15 + c) = false then fwDone ref 0x29 fOFF none none t
      else t |> jlaQuenchSet c (bits a0 2 3) (bits a1 30 2) (bits a1 16 11) (bits a1 0 11) |> wait ref (quenchKey c (bits a0 2 3))
    else complete ref 0x29 cBADARG t) s)

end Sys2Proof.Machine
end

