-- ==== Sys2Proof/Machine/Cycle.lean ====
section
/-! DEFINITION. The control cycle (R19, R105, R118 to R128, R132 to R139, R280, R357): cycle start, step 4, the log window, stages and
tasks, verdict, restore, commit point, deadline and overrun watchdog, the failure of the cycle trigger. -/

namespace Sys2Proof.Machine

open R

/-! Stages (R135 to R137, R391) -/

/-- The active stage bank. -/
def stBank (s : State) : Nat := rd s CYC_CHG_BANK

/-- Stage n of the active bank has something to run; one that is not VALID is skipped (DESIGN CHOICE, log entry 104). -/
def stageRuns (s : State) (n : Nat) : Bool :=
  on s (CYC_STAGE_VALID (stBank s) n) && (on s (CYC_STAGE_SOLVER (stBank s) n) || rd s (CYC_STAGE_CORES (stBank s) n) != 0)

/-- The first stage from n on that has something to run. -/
def nextStage (s : State) (n : Nat) : Option Nat := (List.range 32).find? (fun m => decide (n ≤ m) && stageRuns s m)

/-- Core c starts entry t of the task table in user mode: pc and, in a0, the argument (R136). -/
def taskStart (t c : Nat) (s : State) : State :=
  let a := 16 * rd s (CYC_TASKTAB_BASE (stBank s)) + 16 * (t + c)
  s |> coreSet none c (fun k => { k with pc := memNat s a 8, x := k.x.set 10 (memNat s (a + 8) 8), user := true })
    |> set1 (I.CORE_TASK c)

/-- Stage n starts: its sheaf entry and its tasks. -/
def stageStart (n : Nat) (s : State) : State :=
  let b := stBank s
  let solver := on s (CYC_STAGE_SOLVER b n)
  (List.range 4).foldl (fun t c => when (bit (rd s (CYC_STAGE_CORES b n)) c) (taskStart (rd s (CYC_STAGE_TASK b n)) c) t)
    (s |> wr CYC_STATUS_STAGE n |> wr I.CYC_SOLVDONE (b2n (!solver))
      |> when solver (fun t => t |> wr LSV_STATUS_PC (rd s (CYC_STAGE_SHEAF b n)) |> clr I.LSV_PCOUT |> set1 LSV_STATUS_RUNNING))

/-- The stage now executing has ended in every participating slice. -/
def stageEnded (s : State) : Bool :=
  on s I.CYC_SOLVDONE && (List.range 4).all (fun c => !on s (I.CORE_TASK c)) && s.stalled.isEmpty

/-- The last stage has ended: the counts of this solve are shown, and the verdict is requested (Table 5.4, step 1). -/
def solveEnd (s : State) : State :=
  s |> wr LSV_CLK_CLOCKS (rd s I.LSV_CLKNOW) |> wr LSV_CLK_STALL (rd s I.LSV_STALLNOW) |> wr LSV_INSTR_COUNT (rd s I.LSV_INSTRNOW)
    |> wr TMR_EXEC_TIM (rd s I.TMR_TIMNOW) |> wr TMR_EXEC_CNT (rd s I.TMR_CNTNOW)
    |> wr CKP_SOLVET_SOLVE (min ((now s - rd s I.CKP_TOPEN) / 100) 0xFFFFFF) |> requestVerdict

/-- The next stage from n on starts, or solve ends. -/
def stageNext (n : Nat) (s : State) : State :=
  match nextStage s n with
  | some m => stageStart m s
  | none => solveEnd s

/-- Solve starts at the first sheaf of the cycle. -/
def solveStart (s : State) : State :=
  s |> wr I.CYC_PH 1 |> set1 CKP_STATUS_LOGOPEN |> wr I.CKP_TOPEN (now s) |> clr I.CKP_VREQ |> clr I.CKP_PROGFAULT
    |> clr I.LSV_CLKNOW |> clr I.LSV_STALLNOW |> clr I.LSV_INSTRNOW |> clr I.TMR_TIMNOW |> clr I.TMR_CNTNOW
    |> clr LSV_MARK_TAG |> clr CYC_STATUS_STAGE |> clearContext |> stageNext 0

/-- Stage n is the last stage of the active bank and runs core 0: the safety stage (R391). -/
def safetyStage (s : State) (n : Nat) : Bool :=
  (nextStage s (n + 1)).isNone && bit (rd s (CYC_STAGE_CORES (stBank s) n)) 0

/-- STAGE_END: the solver and all named cores have ended; in the safety stage the runtime has run. -/
def execStageEnd (s : State) : Out :=
  .next (if rd s I.CYC_PH = 1 ∧ stageEnded s = true then
    let n := rd s CYC_STATUS_STAGE
    s |> when (safetyStage s n) sfuSafetyStage |> stageNext (n + 1)
  else s)

/-- A fatal task status: the cycle ends as a program fault. -/
def taskFatal (status : Nat) (s : State) : State :=
  s |> wr CYC_STATUS_TASKCODE status |> set1 CYC_STATUS_TASKERR |> raise 85 |> clr LSV_STATUS_RUNNING |> set1 I.CKP_PROGFAULT
    |> requestVerdict

/-- TASK_END: core `c` writes `status` to CSR TASKST, back in machine mode, unless its slice stalls on a store (R116). -/
def execTaskEnd (c : Fin 4) (status : BitVec 8) (s : State) : Out :=
  .next (if rd s I.CYC_PH ≠ 1 ∨ on s (I.CORE_TASK c) = false ∨ s.stalled.isEmpty = false then s
    else
      let s1 := s |> coreSet none c (fun k => csrWrite 0x7C0 status.toNat { k with user := false }) |> clr (I.CORE_TASK c)
      if status = 0 then s1 else taskFatal status.toNat s1)

/-! The log window (R105, Table 6.1) -/

/-- The log window of the newest cycle opens: migration, forces, solve; from here the log holds the safety runtime's state too. In Solo mode a slice A that has stopped fails the cycle
(Table 5.6, LASTRES 7). `late`: the cycle before ended later than this cycle's step 4. -/
def windowOpen (late : Bool) (s : State) : State :=
  let s1 := { s with regq := [], stalled := [], safeC := s.safe } |> undoEmpty
    |> wr I.CYC_T0SEC (rd s I.CYC_NT0SEC) |> wr I.CYC_T0NS (rd s I.CYC_NT0NS) |> wr I.CYC_T0SEQ (rd s I.CYC_NT0SEQ)
    |> clr I.CYC_IN |> clr I.CYC_INRUN |> clr I.CYC_WAITPREV |> clr CKP_LOGUSE_ENTRIES |> clr CKP_REGQ_ENTRIES |> clr I.CKP_REGDIRECT
    |> clr CKP_STATUS_NONRB |> clr CKP_STATUS_REEXEC |> clr I.CYC_REEX |> clr I.CYC_CAUSE |> clr I.CYC_LATE |> clr I.CKP_WASROLLED
    |> when late (fun t => t |> raise 83 |> set1 CYC_STATUS_LATESTART)
    |> (fun t => when (on t I.CHG_MIGPEND) migrate t) |> forcesWriteAll
  if solo s && on s (I.SLC_STOPPED 0) then
    s1 |> restoreArch |> failedCommit 7 false |> stoppedSlices |> warmAtStop
  else solveStart s1

/-- A window that waited for the end of the cycle before opens. -/
def openWaiting (s : State) : State :=
  if on s I.CYC_WAITPREV && on s I.CYC_IN && rd s I.CYC_PH == 0 then windowOpen true s else s

/-- LOG_WINDOW_OPEN: step 4 of the newest cycle is complete; the window opens now, or when the cycle before has ended. -/
def execLogWindowOpen (s : State) : Out :=
  .next (if !on s I.CYC_IN || !on s I.CYC_INRUN || on s I.CYC_WAITPREV || !dmaInDone s then s
    else
      let t0 := rd s I.CYC_NT0SEC * nsPerS + rd s I.CYC_NT0NS
      let s1 := glnHist 5 ((now s - t0) / 2000) s
      if rd s I.CYC_PH = 0 then windowOpen false s1 else set1 I.CYC_WAITPREV s1)

/-- Channel `c` has closed the receive buffer of the round that ends at the newest t0: its current round started there, or it runs no
rounds (Table 1.3, step 2; R280). -/
def bufferClosed (s : State) (c : Nat) : Bool :=
  !on s (JLA_CTRL_EN c) || !(jch s c).live || decide (2 * newT0 s < 2 * (jch s c).nt + jRoundNs s c)

/-- IN_CHAIN_TRIGGER: the trigger has been delivered, and every configured channel has closed its receive buffer; event 267 where that
is later than the delivery, taken as within 8 ns of its instant: within them `late` tells it (DESIGN CHOICE,
log entry 126). Step 4 begins (R280, R357, R394, R340). -/
def execInChainTrigger (late : Bool) (s : State) : Out :=
  let due := newT0 s + rd s TIM_TRIG_DELAY
  .next (if on s I.CYC_IN && !on s I.CYC_INRUN && decide (due ≤ now s) && (List.range 4).all (bufferClosed s) then
    s |> set1 I.CYC_INRUN |> when (decide (due + 8 < now s) || late && decide (due < now s)) (raise 267) |> sfuReceiveCopy |> canImageUpdate |> dmaTrigger 1
  else s)

/-- OUT_CHAIN_TRIGGER: the gateway has signalled that its containers are written (R341, R357). -/
def execOutChainTrigger (s : State) : Out :=
  .next (if on s I.CYC_OUTDUE then s |> clr I.CYC_OUTDUE |> dmaTrigger 2 else s)

/-! Ends of a cycle -/

/-- What follows the end of a cycle: a stop that it brought about, a warm activation, repairs in the idle phase (R101), a window that
waited. -/
def cycleOver (s : State) : State := s |> forcesFlush |> stoppedSlices |> warmAtStop |> scrubReload |> openWaiting

/-- t0 of the executing cycle. -/
def exT0 (s : State) : Nat := rd s I.CYC_T0SEC * nsPerS + rd s I.CYC_T0NS

/-- An overrun is counted: event 81. -/
def overrun (s : State) : State := s |> raise 81 |> set1 CYC_STATUS_OVERRUN |> incSat CYC_OVR_OVERRUN 1

/-! What may stop the controller outside a cycle's own end -/

/-- A stop that the change from `s` to `t` brought about has the sequels of a cycle's end (R89, R94, R488). -/
def afterStop (s t : State) : State :=
  if !ctlStopped s && ctlStopped t && rd t I.CYC_PH == 0 then
    t |> forcesFlush |> stoppedSlices |> warmAtStop |> scrubReload
  else t

/-- SIGNATURE_WINDOW_END. -/
def execSignatureWindowEnd (o : WindowObs) (s : State) : Out := .next (afterStop s (signatureWindowEnd o s))

/-- ECC_UNCORRECTABLE. -/
def execEccUncorrectable (k : Fin 3) (s : State) : Out := .next (afterStop s (eccUncorrectable k s))

/-- PLL_LOCK_LOST. -/
def execPllLockLost (k : Fin 4) (s : State) : Out := .next (afterStop s (pllLockLost k s))

/-- STAGGER_PARITY_ERROR. -/
def execStaggerParityError (k : Fin 3) (s : State) : Out := .next (afterStop s (staggerParityError k s))

/-- WINNOWER_SELF_TEST. -/
def execWinnowerSelfTest (miss rail : Fin 8) (s : State) : Out := .next (afterStop s (winnowerSelfTest miss rail s))

/-- SCRUB_BLOCK. -/
def execScrubBlock (kind : ScrubKind) (block : List ScrubWord) (passMs : Option Nat) (s : State) : Out :=
  .next (afterStop s (scrubBlock kind block passMs s))

/-- WINNOWER_INJECT: WNW_CTRL is written with INJ_GO = 1 and a slice. -/
def execWinnowerInject (w : Writer) (slice : Fin 8) (s : State) : Out :=
  .next (afterStop s (gateWrites w [(WNW_CTRL_INJ_GO, 1), (WNW_CTRL_INJ_SLICE, slice)]
    (fun taken t => t |> when (taken WNW_CTRL_INJ_SLICE) (wr WNW_CTRL_INJ_SLICE slice)
      |> when (taken WNW_CTRL_INJ_GO) winnowerInject) s))

/-- OCXO_LOST. -/
def execOcxoLost (s : State) : Out := .next (afterStop s (ocxoLost s))

/-! Verdict and restore (R118 to R121) -/

/-- The verdict arrives: a majority leads to commit, or, after a program fault, to the restore of the failed commit, with event 69 where
there is one (R181). Without a majority the cycle is no longer in solve. -/
def verdict (o : WindowObs) (s : State) : State :=
  let s1 := s |> clr I.CKP_VREQ |> windowClose o
  if rd s1 I.CYC_PH ≠ 2 then cycleOver s1
  else if on s1 I.CKP_PROGFAULT then
    s1 |> when (!on s1 CKP_STATUS_NONRB) (raise 69) |> restoreOrLose 4 |> (fun t => if rd t I.CYC_PH = 0 then cycleOver t else t)
  else wr I.CYC_PH 3 s1

/-- VERDICT: `o` is what the comparators saw of the window that the request closed. -/
def execVerdict (o : WindowObs) (s : State) : Out :=
  .next (if rd s I.CYC_PH = 2 ∧ on s I.CKP_VREQ = true then verdict o s else s)

/-- The conditions of R121. -/
def mayReexecute (s : State) : Bool :=
  decide (rd s I.CYC_REEX < rd s CKP_CTRL_MAXREEXEC)
    && (rd s CKP_BUDGET == 0 || decide (now s + 1000 * rd s CKP_BUDGET ≤ exT0 s + cycP s))

/-- The copy of a join, or the loading of a change, yields to the slices until the commit that follows (R95, R97, R150). -/
def copyHold (s : State) : State :=
  when (rd s SLC_READMIT_PHASE == 1 || rd s SLC_READMIT_PHASE == 2 || rd s CYC_CHG_PHASE == 1) (set1 I.SLC_COPYSTOP) s

/-- Table 5.5, step 5. -/
def reexecute (s : State) : State := s |> inc I.CYC_REEX |> set1 CKP_STATUS_REEXEC |> clr I.CYC_CAUSE |> copyHold |> solveStart

/-- The decision of step 4: a rollback re-executes, or fails, as it does where slice A has stopped in Solo mode; a re-execution that would begin after the deadline is an overrun at
once (R121, R138; DEDUCED, log entry 72). -/
def restoreDecision (s : State) : State :=
  let c := rd s I.CYC_CAUSE
  if c ≠ 0 then failedCommit c false s
  else if solo s && on s (I.SLC_STOPPED 0) then failedCommit 7 false s
  else if !mayReexecute s then s |> raise 71 |> failedCommit 2 false
  else if on s I.CYC_LATE then s |> overrun |> failedCommit 5 false
  else reexecute s

/-- RESTORE_COMPLETE: the log is replayed and empty. A slice A that an ECC error had stopped runs again. -/
def execRestoreComplete (s : State) : Out :=
  .next (if rd s I.CYC_PH ≠ 4 then s
    else
      let dt := now s - rd s I.CKP_TD
      s |> replay |> wr CKP_RESTT_RESTORE (min (dt / 10) 0xFFFFFF)
        |> when (rd s I.CYC_CAUSE == 0) (glnHist 6 (dt / 1000))
        |> when (rd s I.CYC_CAUSE == 7) soloRestart
        |> restoreDecision |> cycleOver)

/-! The commit point (Table 5.4, steps 3 to 7) -/

/-- Step 4: the dirty output lines are copied. -/
def commitQ (s : State) : State :=
  s.qDirty.foldl (fun t l => t |> joinMark (imgPage (imgQC + 64 * l)) |> memWrite (imgQC + 64 * l) (memRead t (imgQ + 64 * l) 64)) s

/-- Step 5: the queued register stores are issued in order, while the number of the commit being completed is CKP_SEQ + 1. One that a
lock of the host holds off stays in the queue, and the commit waits for it. -/
def commitRegs (s : State) : State := s |> set1 I.CKP_ISSUING |> issueQueue s.regq |> clr I.CKP_ISSUING

/-- Size of a delta in bytes (R127). -/
def deltaBytes (lines : Nat) : Nat := 72 * lines + 4096 + 8

/-- The tag of an output line: of its place in the committed copy (Table 5.3). -/
def qTag (s : State) (l : Nat) : Nat := undoTag ⟨(rd s CKP_SEQ) % 65536, imgQC + 64 * l, true, []⟩

/-- The contents of a delta: the logged lines, oldest first, as tag and new content, one for each log entry (DESIGN CHOICE, log entry
106: also where the filter had lost the line), then the dirty output lines likewise, and the core and solver state (R127). -/
def deltaData (s : State) : List Nat :=
  s.undo.flatMap (fun e => [undoTag e, leBytes (memRead s e.addr 64)])
    ++ s.qDirty.flatMap (fun l => [qTag s l, leBytes (memRead s (imgQ + 64 * l) 64)]) ++ archData (validBank s)

/-- What the pair record carries beside the stamp, the mode and the tC mark: the safety receive slots of the connections in use, the
force list, and during LOAD the pages of the change set (R438). -/
def pairRecord (s : State) : List Nat :=
  (List.range (recNConn s sfArea)).flatMap (fun n =>
      if (cnCfg s sfArea n).valid then [n, leBytes (memRead s (sfRx n 0) 64), leBytes (memRead s (sfRx n 1) 64)] else [])
    ++ forceList s
    ++ (match s.chg with | some g => if rd s CYC_CHG_PHASE = 1 then g.pages.flatMap (fun x => x.1 :: x.2) else [] | none => [])

/-- The delta of the commit, with its header; one that finds the last still being sent breaks the stream (R127, R128, R438). -/
def deltaSend (lines : Nat) (tc : Bool) (s : State) : State :=
  if !on s CKP_CTRL_DELTA_EN then s
  else
    s |> when (on s I.CKP_DELTABUSY) (fun t => t |> set1 CKP_STATUS_DELTABRK |> raise 73 |> wr I.PAIR_PARTNER 7)
      |> wr CKP_DELTA_BYTES (deltaBytes lines) |> set1 I.CKP_DELTABUSY |> emit (.pair 5 [rd s CKP_SEQ])
      |> emit (.pair 8 ([deltaBytes lines, rd s CKP_SEQ, rd s I.CYC_T0SEC, rd s I.CYC_T0NS, rd s SLC_MODE, b2n tc] ++ pairRecord s
        ++ deltaData s))

/-- DELTA_SENT. -/
def execDeltaSent (s : State) : Out := .next (clr I.CKP_DELTABUSY s)

/-- Times and counts of a commit (Tables 5.16, 5.18, 19.3, 19.4). -/
def commitCounts (s : State) : State :=
  let total := now s - rd s I.CKP_TOPEN
  s |> wr CKP_COMMITT_COMMIT (min ((now s - rd s I.CKP_TV) / 10) 0xFFFFFF)
    |> wr CKP_WORST (max (rd s CKP_WORST) (min (total / 100) 0xFFFFFF))
    |> glnAdd 8 1 |> glnHist 0 (if cycP s = 0 then 0 else total * 32 / cycP s) |> glnHist 1 (s.undo.length / 1792)

/-- Step 6: the new bank is valid, CKP_SEQ increments, FAILCOUNT is 0; event 66 follows a rollback, event 82 a late commit. -/
def commitNumber (s : State) : State :=
  s |> captureBank |> seqReserve |> inc CKP_SEQ |> wr CKP_STATUS_LASTRES (b2n (on s CKP_STATUS_REEXEC)) |> clr CKP_STATUS_FAILCOUNT
    |> when (on s I.CKP_WASROLLED) (raise 66)
    |> when (on s I.CYC_LATE) (fun t => t |> raise 82 |> set1 CYC_STATUS_LATE |> incSat CYC_OVR_LATE 1)

/-- Slices at the commit point: a probation ends in a join, a mode request takes effect, fenced slices start to join, a copy goes on
(R92, R95). A probation whose cycle ended as a failed commit goes on, and the next commit point ends it (DESIGN CHOICE, log entry 130). -/
def commitSlices (s : State) : State :=
  s |> copyResume |> copyState |> when (rd s SLC_READMIT_PHASE == 4) joinComplete
    |> (fun t => when (on t SLC_MODE_REQPEND && rd t SLC_READMIT_PHASE == 0) modeEffect t) |> joinStart

/-- Online change at the commit point: the first cycle of a new program ends, an armed change switches (Table 6.6). -/
def commitChange (s : State) : State :=
  s |> changeFirstCommit |> (fun t => when (on t I.CHG_ARMED) changeSwitch t)

/-- The safe-output signal is released at the first commit point after START or RESUME, unless a stop takes effect here (R145,
R146). -/
def commitRelease (s : State) : State :=
  let stops := rd s I.CYC_PENDCMD == 2 || (rd s I.CYC_PENDCMD == 3 && !on s CYC_CTRL_HALTOUT)
  when (on s I.CYC_FIRST) (fun t => t |> clr I.CYC_FIRST |> when (!stops) safeRelease |> warmOver) s

/-- Reports that came while the commit was in progress (R119). -/
def deferred (s : State) : State :=
  let m := rd s I.WNW_DEFERMIN
  (List.range 3).foldl (fun t k => when (bit m k) (fenceMinority k) t) (clr I.WNW_DEFERMIN s)
    |> (fun t => when (on t I.WNW_DEFERDUO) (fun u => u |> clr I.WNW_DEFERDUO |> joinAbandon |> restoreArch) t)

/-- Steps 8 and 9 of Table 1.3 start, with the containers of the gateway, unless the safe-output signal is asserted (R145, R341); step
10 follows them. -/
def publish (s : State) : State :=
  set1 I.SFU_PUBDUE (if on s CYC_STATE_SAFEOUT then canTrack s else s |> canTxContainer |> set1 I.CYC_OUTDUE |> fioRefresh)

/-- The commit point, steps 6 and 7. -/
def commitPoint (s : State) : State :=
  let lines := s.undo.length + s.qDirty.length
  s |> commitNumber |> commitCounts |> sfuCommit |> journalRecord s.undo
    |> deltaSend lines (on s I.CHG_ARMED) |> (fun t => undoEmpty { t with qDirty := [] }) |> clr CKP_STATUS_NONRB |> clr DMA_CYCSTAT_OUTERR
    |> deliverHeld |> commitSlices |> commitChange |> commitRelease |> stepEnd |> endCycle |> clr I.CYC_LATE |> clr I.CKP_WASROLLED
    |> pendingStopEffect |> publish |> deferred |> cycleOver

/-- Steps 4 to 7: the commit point is reached once every queued store has been answered. -/
def commitSteps (s : State) : State :=
  let s1 := s |> commitQ |> commitRegs
  if s1.regq.isEmpty then commitPoint s1 else s1

/-- COMMIT_POINT. -/
def execCommitPoint (s : State) : Out := .next (if rd s I.CYC_PH = 3 then commitSteps s else s)

/-! Deadline and overrun watchdog (R138, R139) -/

/-- A cycle whose window has not opened by its own deadline is an overrun that executed nothing (R138; DEDUCED, log entry 73). -/
def missedCycle (s : State) : State := s |> overrun |> newestFails 5

/-- The deadline of the newest cycle: a solve still running is an overrun, a commit or restore goes on late. -/
def deadline (s : State) : State :=
  let s1 := clr I.CYC_DLDUE s
  if on s I.CYC_IN then s1 |> missedCycle |> cycleOver
  else if rd s I.CYC_PH = 1 then s1 |> overrun |> restoreOrLose 5 |> (fun t => if rd t I.CYC_PH = 0 then cycleOver t else t)
  else if rd s I.CYC_PH ≠ 0 then set1 I.CYC_LATE s1
  else s1

/-- DEADLINE. -/
def execDeadline (s : State) : Out := .next (if on s I.CYC_DLDUE then deadline s else s)

/-- OVERRUN_WATCHDOG: at tDL + 0.1 × P the late cycle has neither committed nor had its slices held: FAULT with cause 0x10. -/
def execOverrunWatchdog (s : State) : Out :=
  .next (if on s I.CYC_LATE && (rd s I.CYC_PH == 2 || rd s I.CYC_PH == 3) && (ctlState s == stRUN || ctlState s == stHALT) then
    s |> raiseCrit 84 |> endPending cSUPERSEDED |> wr CYC_STATE_STOPCAUSE 0x10 |> enterFault |> warmAtStop
  else s)

/-! Cycle start (R132, R134, R143, R280) -/

/-- The instant aligned by R132 at or before now. -/
def alignedNow (s : State) : Nat :=
  if cycP s = 0 then now s else now s - (now s + cycP s - rd s CYC_PHASE % cycP s) % cycP s

/-- t0 of the next start: the aligned instant, or, from the fabric counter, P after the last one, or the whole number of periods after it
that has passed. -/
def nextT0 (s : State) : Nat :=
  if on s CYC_STATUS_FABTRIG then newT0 s + max 1 ((now s - newT0 s) / max 1 (cycP s)) * cycP s else alignedNow s

/-- The fabric counter goes on counting periods while no cycle starts (R134, R144). -/
def fabricCount (t0 : Nat) (s : State) : State :=
  when (on s CYC_STATUS_FABTRIG) (fun t => t |> wr I.CYC_NT0SEC (t0 / nsPerS) |> wr I.CYC_NT0NS (t0 % nsPerS)) s

/-- The pending change takes effect at a cycle start, and this is one that it may take: START and an automatic start need the module
in Run with its hold-up ready. -/
def startDue (s : State) : Bool :=
  let c := rd s I.CYC_PENDCMD
  let start := c == 1 || c == 6 || c == 7
  (start || c == 4 || c == 5) && decide (rd s I.CYC_PENDDUE ≤ upAt s (nextT0 s)) && rd s I.CYC_PH == 0 && rd s PWR_STATE == 0 && !on s PWR_STATE_TRANS
    && (!start || (on s PWR_SUPPLY_HOLDUP_RDY && !on s CYC_CTRL_BUSY_OFF))

/-- TMR_MONO at a t0 (R196). -/
def monoAt (s : State) (t0 : Nat) : Nat := (((t0 : Int) - rdS s TMR_STEPOFS_OFFSET).fdiv 1000 % (2 ^ 48 : Int)).toNat

/-- Entry to RUN: the fault registers of LSV clear, and a checkpoint is taken, whose CKP_SEQ stays (R108, R124, R184). A promoted
module starts from the checkpoint it holds (Table 18.7). -/
def enterRun (promoted : Bool) (s : State) : State :=
  s |> clr LSV_FAULT_OPCODE |> clr LSV_FAULT_DEPTH |> clr LSV_FAULT_CTX |> clr LSV_FAULT_SLICES |> clr LSV_FAULT_CODE
    |> clr LSV_FAULTPC_PC |> clr LSV_FAULTINS_INSTR |> clr LSV_FAULTMARK_TAG |> clr CKP_STATUS_STATELOST |> clr CYC_COUNT_STARTS
    |> set1 CYC_CTRL_EN |> set1 I.CYC_FIRST |> endCycle |> discardStaged |> undoEmpty
    |> (if promoted then restoreArch else captureBank) |> enterState stRUN

/-- A pending START, RESUME or STEP takes effect. -/
def startEffect (s : State) : State :=
  let c := rd s I.CYC_PENDCMD
  if c = 4 then s |> endPending cOK |> set1 I.CYC_STEPPING
  else if c = 5 then s |> endPending cOK |> enterRun false
  else
    s |> timersRebase (monoAt s (nextT0 s)) |> (fun t => when (on t I.CHG_MIGPEND) migrate t) |> clr CKP_STATUS_FAILCOUNT
      |> endPending cOK |> enterRun (c == 6)

/-- The slices at a cycle start: lines that the scrub has named are invalidated (R101), slices that have left are free (Table 4.5), a copy
goes on only in the idle phase, and one that is ready enters its probation, in which the slice is no longer shown as fenced (Table 4.6,
step 5; DESIGN CHOICE, log entry 97). -/
def startSlices (s : State) : State :=
  { s with inval := [] } |> cacheLinesDrop s.inval |> wr I.SLC_FREE (freeSlices s) |> copyHold
    |> when (rd s SLC_READMIT_PHASE != 0) (incSat SLC_READMIT_CYCLES 1)
    |> when (rd s SLC_READMIT_PHASE == 3) (fun t => t |> wr SLC_READMIT_PHASE 4
        |> wr SLC_MODE_FENCED (Nat.land (rd t SLC_MODE_FENCED) (7 - rd t SLC_READMIT_SLICES)))

/-- A cycle starts at t0. One that finds slice A stopped in Solo mode fails at once (Table 5.6, LASTRES 7). -/
def cycleStart (t0 : Nat) (s : State) : State :=
  s |> when (on s TIM_STATUS_FAIL && !on s CYC_STATUS_FABTRIG) (fun t => t |> set1 CYC_STATUS_FABTRIG |> raise 93)
    |> wr I.CYC_NT0SEC (t0 / nsPerS) |> wr I.CYC_NT0NS (t0 % nsPerS) |> wr I.CYC_TMIN (t0 + 1)
    |> wr I.CYC_NT0SEQ (rd s CKP_SEQ) |> wr CYC_T0_SEC (t0 / nsPerS) |> wr CYC_T0_NSEC (t0 % nsPerS) |> inc CYC_COUNT_STARTS |> wr TMR_MONO_M0 (monoAt s t0)
    |> set1 I.CYC_IN |> clr I.CYC_INRUN |> clr I.CYC_WAITPREV |> set1 I.CYC_DLDUE |> clr DMA_CYCSTAT_INERR
    |> clr LSV_MARK_TAG |> forcesAtStart |> fioLatch |> teCycle t0 |> startSlices
    |> when (solo s && on s (I.SLC_STOPPED 0)) (fun t => t |> newestFails 7 |> cycleOver)

/-- CYCLE_START: the trigger of the time unit, or of the fabric counter, is delivered. The deadline of the cycle before has come. In
HALT with HALTOUT = 1 the engine runs steps 8 and 9 at every period (R144). -/
def execCycleStart (s : State) : Out :=
  let s1 := promoteOn (when (on s I.CYC_DLDUE && decide (rd s I.CYC_TMIN ≤ nextT0 s)) deadline s)
  let t0 := nextT0 s1
  .next (if on s1 I.HELD || !on s1 I.BOOTED then s
    else if startDue s1 then s1 |> startEffect |> cycleStart t0
    else if ctlState s1 = stRUN then (if rd s1 I.CYC_TMIN ≤ t0 then cycleStart t0 s1 else s)
    else if ctlState s1 = stHALT ∧ on s1 CYC_CTRL_HALTOUT = true ∧ on s1 I.CYC_STEPPING = false ∧ rd s1 I.CYC_TMIN ≤ t0 then
      s1 |> wr I.CYC_TMIN (t0 + 1) |> fabricCount t0 |> dmaTrigger 2 |> fioRefresh
    else fabricCount t0 s1)

/-- CYCLE_TRIGGER_FAILED: TIM_STATUS.FAIL and event 268; while cycles run the fabric counter takes over (R134). -/
def execCycleTriggerFailed (s : State) : Out :=
  .next (s |> when (!on s TIM_STATUS_FAIL) (fun t => t |> set1 TIM_STATUS_FAIL |> raise 268)
    |> when ((ctlState s == stRUN || on s I.CYC_STEPPING) && !on s CYC_STATUS_FABTRIG) (fun t => t |> set1 CYC_STATUS_FABTRIG |> raise 93))

/-- CYCLE_TRIGGER_RESTORED: the engine takes the first aligned instant at least 0.5 × P after the last counted start (R134). -/
def execCycleTriggerRestored (s : State) : Out :=
  .next (s |> clr TIM_STATUS_FAIL |> when (on s CYC_STATUS_FABTRIG) (fun t =>
    t |> clr CYC_STATUS_FABTRIG |> wr I.CYC_TMIN (rd t I.CYC_NT0SEC * nsPerS + rd t I.CYC_NT0NS + cycP t / 2)))

end Sys2Proof.Machine
end

