-- ==== Sys2Proof/Machine/SfuPublish.lean ====
section
/-! DEFINITION. Publication by SFU at step 10 (R394, R395, R412, R413): transmit PDUs into Jalora transmit buffers and into backbone
datagrams, pair demands into FIO. -/

namespace Sys2Proof.Machine

open R

/-! Datagrams. IPv4 and UDP, which the manual only names, are PRESUMED as RFC 791 and RFC 768 have them (log entry 119). -/

/-- The Internet checksum of a byte string of even length. -/
def onesSum : List Byte → Nat
  | a :: b :: t => let v := a.toNat * 256 + b.toNat + onesSum t; v % 65536 + v / 65536
  | _ => 0

/-- The payload of a frame that carries a UDP/IPv4 datagram, from its EtherType on. The spec states no identification, flags, time to live
and source port, nor whether there is a UDP checksum: free values. -/
def udpBytes (s : State) (src dst port : Nat) (data : List Byte) : List Byte :=
  let r := Config.freeValue s.freeCtr
  let head (sum : Nat) := [0x45, 0] ++ bytesBE 2 (28 + data.length) ++ bytesBE 2 (bits r 0 16) ++ bytesBE 2 (bits r 16 1 * 2 ^ 14)
    ++ bytesBE 1 (bits r 17 8) ++ [17] ++ bytesBE 2 sum ++ bytesBE 4 src ++ bytesBE 4 dst
  let ports := bytesBE 2 (bits r 25 16) ++ bytesBE 2 port ++ bytesBE 2 (8 + data.length)
  let pseudo := bytesBE 4 src ++ bytesBE 4 dst ++ [0, 17] ++ bytesBE 2 (8 + data.length) ++ ports ++ data
  let sum := if bit r 41 then (if onesSum pseudo = 65535 then 65535 else 65535 - onesSum pseudo) else 0
  bytesBE 2 0x0800 ++ head (65535 - onesSum (head 0)) ++ ports ++ bytesBE 2 sum ++ data

/-- A datagram with a PDU, sent in class 6 through the CPU port on a mask of ports, which the CPU port must be able to reach (R292). The
active of a pair sends from the service address (R426). -/
def sfuDatagram (g : CnCfg) (ports udp : Nat) (pdu : List Byte) (s : State) : State :=
  let mac := if rd s PAIR_STATUS_STATE = 3 then rd s PAIR_SVCMAC_MAC else rd s SYS_MAC
  let f : BbFrame := ⟨g.mac, mac, none, none, .udp udp, udpBytes s (rd s SFU_BBSRC_SRCIP) g.dstip udp pdu⟩
  useFree (when (bbsOn s && bit (vlanOf s g.vid).member 4) (bbTowards f 6 6 g.vid ports none none) s)

/-! Publication -/

/-- The copy of a JX5 PDU for path 2: byte 3 and CRC differ (R415). -/
def pduPath2 (g : CnCfg) (pdu : List Byte) : List Byte :=
  let body := (pdu.take (g.l - 4)).set 3 2
  body ++ bytesBE 4 (pduCrc g true body)

/-- One transmit PDU, as committed, into its carrier. A connection that is OFF sends nothing. -/
def sfuPublishConn (s : State) (c : Nat) : State :=
  let g := cnCfg s sfArea c
  let pdu := committedRead s (sfTx c) g.l
  let isOff := ((Assoc.find c s.safeC.conns).getD Conn.off).state == 0
  if !g.valid || isOff then s
  else if g.transport = 0 then
    when (on s (I.JLA_RDY g.jch)) (memWrite (txBase s g.jch (rd s (I.JLA_RDYBUF g.jch)) + 8 * g.opos) pdu) s
  else if g.jx5 then
    s |> sfuDatagram g g.ports1 (rd s SFU_BBCFG_JX5PORT) pdu |> sfuDatagram g g.ports2 (rd s SFU_BBCFG_JX5PORT) (pduPath2 g pdu)
  else sfuDatagram g g.ports1 (rd s SFU_BBCFG_PORT) pdu s

/-- PUBLICATION_WITHHELD for one connection: a zero PDU in its Jalora positions. -/
def sfuZeroConn (s : State) (c : Nat) : State :=
  let g := cnCfg s sfArea c
  when (g.valid && g.transport == 0 && on s (I.JLA_RDY g.jch))
    (memWrite (txBase s g.jch (rd s (I.JLA_RDYBUF g.jch)) + 8 * g.opos) (List.replicate g.l 0)) s

/-- The stamp of the committed state is not that of this commit. -/
def stampBad (s : State) : Bool := committedNat s sfStamp 8 != rd s CKP_SEQ

/-- Publication is withheld in this cycle (R395). -/
def sfuWithheld (s : State) : Bool := stampBad s || on s CYC_STATE_SAFEOUT || !sfuRunning s

/-- Step 10 comes once for each commit, after the OUT chains of step 8 (R19). -/
def publishDue (s : State) : Bool :=
  on s I.SFU_PUBDUE && !on s I.CYC_OUTDUE && !s.dma.any (fun c => c.run == 2 || c.pendRun == 2)

/-- The pair demands of the committed safety area (Table 17.1). -/
def sfuDemand (s : State) (p : Nat) : Bool := bit (committedNat s sfPairs 1) p

/-- SFU_PUBLISH: after step 8 the stamp is checked, and PDUs and pair demands are published or withheld. -/
def execSfuPublish (s0 : State) : Out :=
  let s := clr I.SFU_PUBDUE s0
  let cs := List.range (recNConn s sfArea)
  .next (if !publishDue s0 then s0
  else if !on s SFU_CTRL_EN then s
  else if sfuWithheld s then
    (List.range 4).foldl (fun t p => pairDemand p false t) (cs.foldl sfuZeroConn s)
      |> incSat SFU_PUBCNT_WITHHELD 1 |> glnAdd 64 1 |> clr SFU_STATUS_PUBLISH
      |> when (stampBad s) (fun t => t |> set1 SFU_STATUS_NOSTAGE |> raise 425)
  else
    (List.range 4).foldl (fun t p => pairDemand p (sfuDemand s p) t) (cs.foldl sfuPublishConn s)
      |> set1 SFU_STATUS_PUBLISH)

end Sys2Proof.Machine
end

