-- ==== Sys2Proof/Machine/Dispatch.lean ====
section
/-! DEFINITION. The dispatch: one arm for each command, a direct call of its meaning. -/

namespace Sys2Proof.Machine

/-- The effect of a command on everything but the queue. -/
def exec (i : Instr) (s : State) : Host.Outcome State Fault Refusal :=
  match i with
  | .registerWrite w a size data => Sys2Proof.Machine.execRegisterWrite w a size data s
  | .registerHalfAccess w a data => Sys2Proof.Machine.execRegisterHalfAccess w a data s
  | .powerOnReset pins => Sys2Proof.Machine.execPowerOnReset pins s
  | .extReset => Sys2Proof.Machine.execExtReset s
  | .hostLinkReset => Sys2Proof.Machine.execHostLinkReset s
  | .buttonPressAccepted opened => Sys2Proof.Machine.execButtonPressAccepted opened s
  | .buttonStuck => Sys2Proof.Machine.execButtonStuck s
  | .buttonRearm => Sys2Proof.Machine.execButtonRearm s
  | .bootWatchdogExpiry => Sys2Proof.Machine.execBootWatchdogExpiry s
  | .moduleWithdrawn => Sys2Proof.Machine.execModuleWithdrawn s
  | .feedLost n => Sys2Proof.Machine.execFeedLost n s
  | .feedRestored n => Sys2Proof.Machine.execFeedRestored n s
  | .holdupReady low => Sys2Proof.Machine.execHoldupReady low s
  | .powerFailWarning => Sys2Proof.Machine.execPowerFailWarning s
  | .rideThroughEnd => Sys2Proof.Machine.execRideThroughEnd s
  | .powerFailCleared => Sys2Proof.Machine.execPowerFailCleared s
  | .railBelow16v => Sys2Proof.Machine.execRailBelow16v s
  | .plateWarning => Sys2Proof.Machine.execPlateWarning s
  | .plateStop => Sys2Proof.Machine.execPlateStop s
  | .supplyRegisterRefresh f1 f2 temp => Sys2Proof.Machine.execSupplyRegisterRefresh f1 f2 temp s
  | .sfpModulePlugged n baseR mw => Sys2Proof.Machine.execSfpModulePlugged n baseR mw s
  | .clockSelect w src => Sys2Proof.Machine.execClockSelect w src s
  | .ocxoValid => Sys2Proof.Machine.execOcxoValid s
  | .ocxoStartTimeout => Sys2Proof.Machine.execOcxoStartTimeout s
  | .ocxoLost => Sys2Proof.Machine.execOcxoLost s
  | .pllLockLost k => Sys2Proof.Machine.execPllLockLost k s
  | .resetRelease => Sys2Proof.Machine.execResetRelease s
  | .pcieLinkTraining width speed => Sys2Proof.Machine.execPcieLinkTraining width speed s
  | .retainedRestore imageOk ctlOk => Sys2Proof.Machine.execRetainedRestore imageOk ctlOk s
  | .bootComplete mode prog => Sys2Proof.Machine.execBootComplete mode prog s
  | .autostart => Sys2Proof.Machine.execAutostart s
  | .power ref target => Sys2Proof.Machine.execPower ref target s
  | .transitionComplete => Sys2Proof.Machine.execTransitionComplete s
  | .wakeSource k late => Sys2Proof.Machine.execWakeSource k late s
  | .wakeTimer => Sys2Proof.Machine.execWakeTimer s
  | .wakeFrame dst ether payload late => Sys2Proof.Machine.execWakeFrame dst ether payload late s
  | .islandEnable w n en => Sys2Proof.Machine.execIslandEnable w n en s
  | .shutdownComplete u => Sys2Proof.Machine.execShutdownComplete u s
  | .fabricRead m lr a size differ stalled => Sys2Proof.Machine.execFabricRead m lr a size differ stalled s
  | .sliceStore m k differ a size data soon => Sys2Proof.Machine.execSliceStore m k differ a size data soon s
  | .stalledStoreRelease => Sys2Proof.Machine.execStalledStoreRelease s
  | .signatureWindowEnd o => Sys2Proof.Machine.execSignatureWindowEnd o s
  | .eccCorrected k => Sys2Proof.Machine.execEccCorrected k s
  | .eccUncorrectable k => Sys2Proof.Machine.execEccUncorrectable k s
  | .mode ref mode => Sys2Proof.Machine.execMode ref mode s
  | .copyGuardReached => Sys2Proof.Machine.execCopyGuardReached s
  | .joinCopyComplete differ => Sys2Proof.Machine.execJoinCopyComplete differ s
  | .joinTimeout => Sys2Proof.Machine.execJoinTimeout s
  | .sliceFailedClear w m => Sys2Proof.Machine.execSliceFailedClear w m s
  | .winnowerSelfTest miss rail => Sys2Proof.Machine.execWinnowerSelfTest miss rail s
  | .staggerParityError k => Sys2Proof.Machine.execStaggerParityError k s
  | .scrubBlock kind block passMs => Sys2Proof.Machine.execScrubBlock kind block passMs s
  | .winnowerInject w slice => Sys2Proof.Machine.execWinnowerInject w slice s
  | .verdict o => Sys2Proof.Machine.execVerdict o s
  | .restoreComplete => Sys2Proof.Machine.execRestoreComplete s
  | .commitPoint => Sys2Proof.Machine.execCommitPoint s
  | .deltaSent => Sys2Proof.Machine.execDeltaSent s
  | .ckpWorstClear w => Sys2Proof.Machine.execCkpWorstClear w s
  | .cycleStart => Sys2Proof.Machine.execCycleStart s
  | .cycleTriggerFailed => Sys2Proof.Machine.execCycleTriggerFailed s
  | .periodWrite w v => Sys2Proof.Machine.execPeriodWrite w v s
  | .phaseWrite w v => Sys2Proof.Machine.execPhaseWrite w v s
  | .inChainTrigger late => Sys2Proof.Machine.execInChainTrigger late s
  | .logWindowOpen => Sys2Proof.Machine.execLogWindowOpen s
  | .stageEnd => Sys2Proof.Machine.execStageEnd s
  | .taskEnd c status => Sys2Proof.Machine.execTaskEnd c status s
  | .deadline => Sys2Proof.Machine.execDeadline s
  | .overrunWatchdog => Sys2Proof.Machine.execOverrunWatchdog s
  | .start ref => Sys2Proof.Machine.execStart ref s
  | .stop ref => Sys2Proof.Machine.execStop ref s
  | .halt ref => Sys2Proof.Machine.execHalt ref s
  | .step ref => Sys2Proof.Machine.execStep ref s
  | .resume ref => Sys2Proof.Machine.execResume ref s
  | .ack ref => Sys2Proof.Machine.execAck ref s
  | .force ref space index value => Sys2Proof.Machine.execForce ref space index value s
  | .unforce ref space index => Sys2Proof.Machine.execUnforce ref space index s
  | .load ref c => Sys2Proof.Machine.execLoad ref c s
  | .loadComplete standby => Sys2Proof.Machine.execLoadComplete standby s
  | .arm ref verifies => Sys2Proof.Machine.execArm ref verifies s
  | .ld o => Sys2Proof.Machine.execLd o s
  | .ldn o => Sys2Proof.Machine.execLdn o s
  | .and o => Sys2Proof.Machine.execAnd o s
  | .andn o => Sys2Proof.Machine.execAndn o s
  | .or o => Sys2Proof.Machine.execOr o s
  | .orn o => Sys2Proof.Machine.execOrn o s
  | .xor o => Sys2Proof.Machine.execXor o s
  | .xorn o => Sys2Proof.Machine.execXorn o s
  | .not o => Sys2Proof.Machine.execNot o s
  | .ldim o => Sys2Proof.Machine.execLdim o s
  | .shu o => Sys2Proof.Machine.execShu o s
  | .shd o => Sys2Proof.Machine.execShd o s
  | .any o => Sys2Proof.Machine.execAny o s
  | .all o => Sys2Proof.Machine.execAll o s
  | .open_ o => Sys2Proof.Machine.execOpen o s
  | .orb o => Sys2Proof.Machine.execOrb o s
  | .andb o => Sys2Proof.Machine.execAndb o s
  | .xorb o => Sys2Proof.Machine.execXorb o s
  | .dup o => Sys2Proof.Machine.execDup o s
  | .pop o => Sys2Proof.Machine.execPop o s
  | .peek o => Sys2Proof.Machine.execPeek o s
  | .drop o => Sys2Proof.Machine.execDrop o s
  | .st o => Sys2Proof.Machine.execSt o s
  | .stn o => Sys2Proof.Machine.execStn o s
  | .set o => Sys2Proof.Machine.execSet o s
  | .rst o => Sys2Proof.Machine.execRst o s
  | .tgl o => Sys2Proof.Machine.execTgl o s
  | .edr o => Sys2Proof.Machine.execEdr o s
  | .edf o => Sys2Proof.Machine.execEdf o s
  | .ton o => Sys2Proof.Machine.execTon o s
  | .tof o => Sys2Proof.Machine.execTof o s
  | .tp o => Sys2Proof.Machine.execTp o s
  | .ctu o => Sys2Proof.Machine.execCtu o s
  | .ctd o => Sys2Proof.Machine.execCtd o s
  | .ctud o => Sys2Proof.Machine.execCtud o s
  | .wld o => Sys2Proof.Machine.execWld o s
  | .wst o => Sys2Proof.Machine.execWst o s
  | .wadd o => Sys2Proof.Machine.execWadd o s
  | .wsub o => Sys2Proof.Machine.execWsub o s
  | .wmul o => Sys2Proof.Machine.execWmul o s
  | .wdiv o => Sys2Proof.Machine.execWdiv o s
  | .wand o => Sys2Proof.Machine.execWand o s
  | .wor o => Sys2Proof.Machine.execWor o s
  | .weq o => Sys2Proof.Machine.execWeq o s
  | .wne o => Sys2Proof.Machine.execWne o s
  | .wlt o => Sys2Proof.Machine.execWlt o s
  | .wle o => Sys2Proof.Machine.execWle o s
  | .wgt o => Sys2Proof.Machine.execWgt o s
  | .wge o => Sys2Proof.Machine.execWge o s
  | .wlim o => Sys2Proof.Machine.execWlim o s
  | .wsel o => Sys2Proof.Machine.execWsel o s
  | .tsel o => Sys2Proof.Machine.execTsel o s
  | .trun o => Sys2Proof.Machine.execTrun o s
  | .jmpc o => Sys2Proof.Machine.execJmpc o s
  | .jmp o => Sys2Proof.Machine.execJmp o s
  | .call o => Sys2Proof.Machine.execCall o s
  | .ret o => Sys2Proof.Machine.execRet o s
  | .mark o => Sys2Proof.Machine.execMark o s
  | .end_ o => Sys2Proof.Machine.execEnd o s
  | .imageWrite ini a bs => Sys2Proof.Machine.execImageWrite ini a bs s
  | .roundStart c => Sys2Proof.Machine.execRoundStart c s
  | .mgmtSend c => Sys2Proof.Machine.execMgmtSend c s
  | .beaconSend c => Sys2Proof.Machine.execBeaconSend c s
  | .outputSend c k => Sys2Proof.Machine.execOutputSend c k s
  | .frameReceive c path t fcsOk bytes => Sys2Proof.Machine.execFrameReceive c path t fcsOk bytes s
  | .nodeSlotEnd c n => Sys2Proof.Machine.execNodeSlotEnd c n s
  | .txrdy w c b => Sys2Proof.Machine.execTxrdy w c b s
  | .mailboxGo w c len => Sys2Proof.Machine.execMailboxGo w c len s
  | .jlaQuenchWrite w c n mode last first => Sys2Proof.Machine.execJlaQuenchWrite w c n mode last first s
  | .jlaCounterClear w c => Sys2Proof.Machine.execJlaCounterClear w c s
  | .podlEnableWrite w c path en => Sys2Proof.Machine.execPodlEnableWrite w c path en s
  | .podlDetect c path found => Sys2Proof.Machine.execPodlDetect c path found s
  | .podlClassify c path cls fits => Sys2Proof.Machine.execPodlClassify c path cls fits s
  | .podlOverload c path => Sys2Proof.Machine.execPodlOverload c path s
  | .podlFaultRetry c path => Sys2Proof.Machine.execPodlFaultRetry c path s
  | .podlUndervoltRecover c path => Sys2Proof.Machine.execPodlUndervoltRecover c path s
  | .jlaEnable w c => Sys2Proof.Machine.execJlaEnable w c s
  | .jlaDisable w c => Sys2Proof.Machine.execJlaDisable w c s
  | .jaloraLinkChange c path up => Sys2Proof.Machine.execJaloraLinkChange c path up s
  | .claimRevoke w c slot => Sys2Proof.Machine.execClaimRevoke w c slot s
  | .staticSegmentEnd c => Sys2Proof.Machine.execStaticSegmentEnd c s
  | .restartComplete c => Sys2Proof.Machine.execRestartComplete c s
  | .delayTrimUpdate c => Sys2Proof.Machine.execDelayTrimUpdate c s
  | .listenTimeout c => Sys2Proof.Machine.execListenTimeout c s
  | .coldstartComplete c => Sys2Proof.Machine.execColdstartComplete c s
  | .backoffEnd c => Sys2Proof.Machine.execBackoffEnd c s
  | .grantIdleExpiry c idx => Sys2Proof.Machine.execGrantIdleExpiry c idx s
  | .slotRelease c slot => Sys2Proof.Machine.execSlotRelease c slot s
  | .ocxoWarm => Sys2Proof.Machine.execOcxoWarm s
  | .ppsEdge acc => Sys2Proof.Machine.execPpsEdge acc s
  | .ppsSecondMissing => Sys2Proof.Machine.execPpsSecondMissing s
  | .holdover1h => Sys2Proof.Machine.execHoldover1h s
  | .ppsEnableWrite w en => Sys2Proof.Machine.execPpsEnableWrite w en s
  | .timeset ref sec ns => Sys2Proof.Machine.execTimeset ref sec ns s
  | .timeSetGo w ns => Sys2Proof.Machine.execTimeSetGo w ns s
  | .ptpSyncSend n => Sys2Proof.Machine.execPtpSyncSend n s
  | .ptpAnnounceSend n => Sys2Proof.Machine.execPtpAnnounceSend n s
  | .ptpPdelaySend n => Sys2Proof.Machine.execPtpPdelaySend n s
  | .ptpMessageReceive n kind domain seq m => Sys2Proof.Machine.execPtpMessageReceive n kind domain seq m s
  | .ptpConfigApply n => Sys2Proof.Machine.execPtpConfigApply n s
  | .teArm w n arm safeOff level mode width => Sys2Proof.Machine.execTeArm w n arm safeOff level mode width s
  | .teEvent n => Sys2Proof.Machine.execTeEvent n s
  | .ppsOutput => Sys2Proof.Machine.execPpsOutput s
  | .launchTimeTransmit port cls => Sys2Proof.Machine.execLaunchTimeTransmit port cls s
  | .backboneFrameIngress n f => Sys2Proof.Machine.execBackboneFrameIngress n f s
  | .backboneFrameTransmit port cls => Sys2Proof.Machine.execBackboneFrameTransmit port cls s
  | .gateEntryChange n => Sys2Proof.Machine.execGateEntryChange n s
  | .gclGo w n len => Sys2Proof.Machine.execGclGo w n len s
  | .gclSwitch n => Sys2Proof.Machine.execGclSwitch n s
  | .bbsQuenchWrite w n indrop classes => Sys2Proof.Machine.execBbsQuenchWrite w n indrop classes s
  | .txTailWrite w c tail => Sys2Proof.Machine.execTxTailWrite w c tail s
  | .recoveryReset n => Sys2Proof.Machine.execRecoveryReset n s
  | .streamSilent n => Sys2Proof.Machine.execStreamSilent n s
  | .tableRead w table idx => Sys2Proof.Machine.execTableRead w table idx s
  | .tableWrite w table idx => Sys2Proof.Machine.execTableWrite w table idx s
  | .tableFind w => Sys2Proof.Machine.execTableFind w s
  | .tableDelete w table idx => Sys2Proof.Machine.execTableDelete w table idx s
  | .fdbAgeing idx => Sys2Proof.Machine.execFdbAgeing idx s
  | .backboneLinkChange n up => Sys2Proof.Machine.execBackboneLinkChange n up s
  | .busMasterEnableChange en => Sys2Proof.Machine.execBusMasterEnableChange en s
  | .ringEnable w r => Sys2Proof.Machine.execRingEnable w r s
  | .ringDisable w r slotsFree => Sys2Proof.Machine.execRingDisable w r slotsFree s
  | .doorbellWrite d idx filled late => Sys2Proof.Machine.execDoorbellWrite d idx filled late s
  | .completionWrite sess ring slotFree ok => Sys2Proof.Machine.execCompletionWrite sess ring slotFree ok s
  | .interruptModerationExpiry ring => Sys2Proof.Machine.execInterruptModerationExpiry ring s
  | .nop ref => Sys2Proof.Machine.execNop ref s
  | .login ref buf => Sys2Proof.Machine.execLogin ref buf s
  | .logout ref => Sys2Proof.Machine.execLogout ref s
  | .claim ref waits => Sys2Proof.Machine.execClaim ref waits s
  | .release ref => Sys2Proof.Machine.execRelease ref s
  | .handover ref target => Sys2Proof.Machine.execHandover ref target s
  | .accept ref => Sys2Proof.Machine.execAccept ref s
  | .takeover ref => Sys2Proof.Machine.execTakeover ref s
  | .fence ref => Sys2Proof.Machine.execFence ref s
  | .close ref => Sys2Proof.Machine.execClose ref s
  | .rdreg ref a size => Sys2Proof.Machine.execRdreg ref a size s
  | .rdmem ref a n bufOk => Sys2Proof.Machine.execRdmem ref a n bufOk s
  | .subscribe ref mask => Sys2Proof.Machine.execSubscribe ref mask s
  | .rdlog ref arg0 n bufOk => Sys2Proof.Machine.execRdlog ref arg0 n bufOk s
  | .reset ref => Sys2Proof.Machine.execReset ref s
  | .quench ref arg0 arg1 => Sys2Proof.Machine.execQuench ref arg0 arg1 s
  | .wrreg ref a size data => Sys2Proof.Machine.execWrreg ref a size data s
  | .wrmem ref a bs => Sys2Proof.Machine.execWrmem ref a bs s
  | .loginLockoutEnd => Sys2Proof.Machine.execLoginLockoutEnd s
  | .tlsConnect handshake anchor fp => Sys2Proof.Machine.execTlsConnect handshake anchor fp s
  | .tlsConnectionClosed sess => Sys2Proof.Machine.execTlsConnectionClosed sess s
  | .unitCommand sess ty ring d => Sys2Proof.Machine.execUnitCommand sess ty ring d s
  | .unitKeepalive sess => Sys2Proof.Machine.execUnitKeepalive sess s
  | .unitRings sess n => Sys2Proof.Machine.execUnitRings sess n s
  | .keepaliveSend sess => Sys2Proof.Machine.execKeepaliveSend sess s
  | .sessionIdleTimeout sess => Sys2Proof.Machine.execSessionIdleTimeout sess s
  | .offerTimeout => Sys2Proof.Machine.execOfferTimeout s
  | .takeoverNotice => Sys2Proof.Machine.execTakeoverNotice s
  | .orphanHoldExpiry => Sys2Proof.Machine.execOrphanHoldExpiry s
  | .inboundRead p size => Sys2Proof.Machine.execInboundRead p size s
  | .crossingDeadlockBreak init o size => Sys2Proof.Machine.execCrossingDeadlockBreak init o size s
  | .readReissue init => Sys2Proof.Machine.execReadReissue init s
  | .outboundReadTimeout init addr => Sys2Proof.Machine.execOutboundReadTimeout init addr s
  | .outboundReadError init kind addr => Sys2Proof.Machine.execOutboundReadError init kind addr s
  | .halfLockTimeout => Sys2Proof.Machine.execHalfLockTimeout s
  | .hostLockGo w block time => Sys2Proof.Machine.execHostLockGo w block time s
  | .hostUnlock w => Sys2Proof.Machine.execHostUnlock w s
  | .hostLockTimeout => Sys2Proof.Machine.execHostLockTimeout s
  | .canChannelEnable w n en => Sys2Proof.Machine.execCanChannelEnable w n en s
  | .dmaGo w n => Sys2Proof.Machine.execDmaGo w n s
  | .dmaTailWrite w n tail => Sys2Proof.Machine.execDmaTailWrite w n tail s
  | .dmaAbort w n => Sys2Proof.Machine.execDmaAbort w n s
  | .dmaAbortComplete n moved ok => Sys2Proof.Machine.execDmaAbortComplete n moved ok s
  | .dmaClearHalt w n => Sys2Proof.Machine.execDmaClearHalt w n s
  | .dmaChannelEnable w n en => Sys2Proof.Machine.execDmaChannelEnable w n en s
  | .outChainTrigger => Sys2Proof.Machine.execOutChainTrigger s
  | .copy n => Sys2Proof.Machine.execCopy n s
  | .fill n => Sys2Proof.Machine.execFill n s
  | .transpose n => Sys2Proof.Machine.execTranspose n s
  | .untranspose n => Sys2Proof.Machine.execUntranspose n s
  | .deinterleave n => Sys2Proof.Machine.execDeinterleave n s
  | .interleave n => Sys2Proof.Machine.execInterleave n s
  | .descriptorComplete n ok => Sys2Proof.Machine.execDescriptorComplete n ok s
  | .dmaBusTimeout n moved => Sys2Proof.Machine.execDmaBusTimeout n moved s
  | .fioInputChange n level => Sys2Proof.Machine.execFioInputChange n level s
  | .outputWatchdogExpiry => Sys2Proof.Machine.execOutputWatchdogExpiry s
  | .outputOverload n => Sys2Proof.Machine.execOutputOverload n s
  | .overloadTurnOff n => Sys2Proof.Machine.execOverloadTurnOff n s
  | .overloadRetry n => Sys2Proof.Machine.execOverloadRetry n s
  | .outputLatchClear w n => Sys2Proof.Machine.execOutputLatchClear w n s
  | .openWireDetect n present => Sys2Proof.Machine.execOpenWireDetect n present s
  | .externalVoltageDetect n present => Sys2Proof.Machine.execExternalVoltageDetect n present s
  | .driverOvertemp n present => Sys2Proof.Machine.execDriverOvertemp n present s
  | .fieldSupplyChange l2 present => Sys2Proof.Machine.execFieldSupplyChange l2 present s
  | .fcEdge levels => Sys2Proof.Machine.execFcEdge levels s
  | .fcLineFault k present => Sys2Proof.Machine.execFcLineFault k present s
  | .fcCountSet w k v => Sys2Proof.Machine.execFcCountSet w k v s
  | .pairTestPulse p low => Sys2Proof.Machine.execPairTestPulse p low s
  | .pairFaultDetect p code => Sys2Proof.Machine.execPairFaultDetect p code s
  | .pairDemandTimeout p => Sys2Proof.Machine.execPairDemandTimeout p s
  | .pairLatchClear w p => Sys2Proof.Machine.execPairLatchClear w p s
  | .fioEnable w en => Sys2Proof.Machine.execFioEnable w en s
  | .safeguardDatagramReceive port udp bs => Sys2Proof.Machine.execSafeguardDatagramReceive port udp bs s
  | .sfuPublish => Sys2Proof.Machine.execSfuPublish s
  | .safeguardWatchdogExpiry c => Sys2Proof.Machine.execSafeguardWatchdogExpiry c s
  | .ss1Timeout a => Sys2Proof.Machine.execSs1Timeout a s
  | .ss2Standstill a => Sys2Proof.Machine.execSs2Standstill a s
  | .jx5PathWatchdog c path2 => Sys2Proof.Machine.execJx5PathWatchdog c path2 s
  | .safetyLoad w => Sys2Proof.Machine.execSafetyLoad w s
  | .commission w => Sys2Proof.Machine.execCommission w s
  | .decommission w => Sys2Proof.Machine.execDecommission w s
  | .pollReceive pairid epoch active => Sys2Proof.Machine.execPollReceive pairid epoch active s
  | .statusSend partner => Sys2Proof.Machine.execStatusSend partner s
  | .heartbeatMissed => Sys2Proof.Machine.execHeartbeatMissed s
  | .relayedPollReceive pairid epoch active => Sys2Proof.Machine.execRelayedPollReceive pairid epoch active s
  | .pairLinkDown => Sys2Proof.Machine.execPairLinkDown s
  | .pairLinkUp => Sys2Proof.Machine.execPairLinkUp s
  | .pairKeepaliveSend lane => Sys2Proof.Machine.execPairKeepaliveSend lane s
  | .pairTimeMessage m => Sys2Proof.Machine.execPairTimeMessage m s
  | .joinRequest ver issue variant pairid pos same rtid fault units => Sys2Proof.Machine.execJoinRequest ver issue variant pairid pos same rtid fault units s
  | .fullCopyBlock b remain => Sys2Proof.Machine.execFullCopyBlock b remain s
  | .deltaHeader seq => Sys2Proof.Machine.execDeltaHeader seq s
  | .deltaReceive d => Sys2Proof.Machine.execDeltaReceive d s
  | .standbySelfTest ok => Sys2Proof.Machine.execStandbySelfTest ok s
  | .healthUpdate => Sys2Proof.Machine.execHealthUpdate s
  | .partnerHealthReceive st refown health => Sys2Proof.Machine.execPartnerHealthReceive st refown health s
  | .mirrorFrameReceive c m => Sys2Proof.Machine.execMirrorFrameReceive c m s
  | .relayedFrameReceive c t bytes => Sys2Proof.Machine.execRelayedFrameReceive c t bytes s
  | .plannedSwitchover w => Sys2Proof.Machine.execPlannedSwitchover w s
  | .rejoin w => Sys2Proof.Machine.execRejoin w s
  | .sliceInterruptDelivery => Sys2Proof.Machine.execSliceInterruptDelivery s
  | .eventLatchReplay => Sys2Proof.Machine.execEventLatchReplay s
  | .logEntryWrite => Sys2Proof.Machine.execLogEntryWrite s
  | .logEntryClose => Sys2Proof.Machine.execLogEntryClose s
  | .criticalAck w => Sys2Proof.Machine.execCriticalAck w s
  | .criticalClear w => Sys2Proof.Machine.execCriticalClear w s
  | .firmwareLog w crit detail => Sys2Proof.Machine.execFirmwareLog w crit detail s
  | .gleanerSecond => Sys2Proof.Machine.execGleanerSecond s
  | .gleanerPersist => Sys2Proof.Machine.execGleanerPersist s
  | .gleanerPersistGo w => Sys2Proof.Machine.execGleanerPersistGo w s
  | .gleanerSample temp rail => Sys2Proof.Machine.execGleanerSample temp rail s
  | .gleanerUserClear w => Sys2Proof.Machine.execGleanerUserClear w s
  | .histogramAdd w h b => Sys2Proof.Machine.execHistogramAdd w h b s
  | .commissioningLockSet w => Sys2Proof.Machine.execCommissioningLockSet w s
  | .commissioningLockRelease w => Sys2Proof.Machine.execCommissioningLockRelease w s
  | .journalDrain => Sys2Proof.Machine.execJournalDrain s
  | .baseRewriteComplete => Sys2Proof.Machine.execBaseRewriteComplete s
  | .stageBegin ref kind len => Sys2Proof.Machine.execStageBegin ref kind len s
  | .stageData ref off n buf => Sys2Proof.Machine.execStageData ref off n buf s
  | .activate ref kind revert restart => Sys2Proof.Machine.execActivate ref kind revert restart s
  | .confirm ref => Sys2Proof.Machine.execConfirm ref s
  | .stagingLockTimeout => Sys2Proof.Machine.execStagingLockTimeout s
  | .updateStageEnd ref obj => Sys2Proof.Machine.execUpdateStageEnd ref obj s
  | .reservedOpcode op o => Sys2Proof.Machine.execReservedOpcode op o s
  | .fetchOutsideProgram => Sys2Proof.Machine.execFetchOutsideProgram s
  | .pcieLinkDown => Sys2Proof.Machine.execPcieLinkDown s
  | .cycleTriggerRestored => Sys2Proof.Machine.execCycleTriggerRestored s
  | .pllRelock k => Sys2Proof.Machine.execPllRelock k s
  | .deltaAcknowledge seq => Sys2Proof.Machine.execDeltaAcknowledge seq s
  | .completionSlotReturn ring => Sys2Proof.Machine.execCompletionSlotReturn ring s

end Sys2Proof.Machine
end

