-- ==== Sys2Proof/Machine/Step.lean ====
section
/-! DEFINITION. One step of the module: the command at the front of the queue, or, on an empty queue, one clock of the time
unit. -/

namespace Sys2Proof.Machine

/-- One clock of the lamp test (R49). -/
def lampTick (s : State) : State := if rd s I.PWR_LAMP = 0 then s else wr I.PWR_LAMP (rd s I.PWR_LAMP - 1) s

/-- What happens while no command waits (DESIGN CHOICE, log entry 1): one 500 MHz clock of the time unit while island 19 has
its clock (R264), with the copying to a joining slice (R95) while island 8 has its own, and accesses that waited for a lock which
has ended go on (R111, R334, R335), and so does a promotion (Table 18.7); commands of reserved opcodes complete (R321). -/
def idle (s : State) : State :=
  s |> lampTick |> when (islandPowered s 19) timTick |> when (islandPowered s 8) copyClock |> when (!s.heldAcc.isEmpty) releaseHeld |> issueDirect |> promoteOn |> badServe

/-- A step takes the command at the front of the queue and runs it with the queue's rest; with no command waiting it idles. -/
def step (s : State) : Host.Outcome State Fault Refusal :=
  match s.pending with
  | [] => .next (idle s)
  | c :: rest => exec c { s with pending := rest }

/-- The state with the command that a word spells put at the front of its queue; unchanged where the word spells none. -/
def State.withFetchWord (s : State) (nbits w : Nat) : State :=
  match decodeTableWord nbits w with
  | some c => { s with pending := c :: s.pending }
  | none => s

end Sys2Proof.Machine
end

