-- ==== Sys2Proof/Machine/Flags.lean ====
section
/-! DEFINITION. The front-panel LEDs, which follow the state (R48, R49, Table 2.6, R427). They are pins of the module and are computed
from State; nothing else reads them. -/

namespace Sys2Proof.Machine

open R

/-- What an LED shows. -/
inductive Led where
  | off | steady | hz1 | hz2 | hz4
  /-- 50 ms every 3 s (R49) -/
  | flash
  deriving DecidableEq, Repr

/-- The lamp test after power-on reset: every LED is lit (R49). -/
def lampTest (s : State) : Bool := rd s I.PWR_LAMP != 0

/-- The module shows nothing but the flash of RUN in Drowse (R49). -/
def ledsDark (s : State) : Bool := rd s PWR_STATE == 2 || rd s PWR_STATE == 3

/-- The first indication that applies. -/
def ledFirst (l : List (Bool × Led)) : Led :=
  match l.find? (fun p => p.1) with
  | some p => p.2
  | none => .off

/-- RUN. -/
def ledRun (s : State) : Led :=
  if lampTest s then .steady
  else if rd s PWR_STATE = 2 then .flash
  else if rd s PWR_STATE = 3 then .off
  else ledFirst [(!on s I.BOOTED || on s UPD_STATUS_ACTIVATING, .hz4), (ctlState s == stHALT, .hz2), (ctlState s == stSTOP, .hz1),
    (ctlState s == stRUN, .steady)]

/-- FRC. -/
def ledFrc (s : State) : Led := if lampTest s || (!ledsDark s && on s CYC_STATE_FRC) then .steady else .off

/-- SAFE: NOCFG and MISMATCH by SFU_STATUS.STATE, an axis that is stopped, functions running. -/
def ledSafe (s : State) : Led :=
  if lampTest s then .steady
  else if ledsDark s then .off
  else ledFirst [(rd s SFU_STATUS_STATE == 1 || rd s SFU_STATUS_STATE == 2, .hz4), (rd s SFU_STATUS_STATE == 4 && on s SFU_STATUS_STOPAX, .hz1),
    (rd s SFU_STATUS_STATE == 4, .steady)]

/-- PAIR; off in a pair state for which Table 2.6 gives no indication: INIT, READY, JOINING, COPYING, PROMOTING, FENCED (DESIGN CHOICE,
log entry 114). -/
def ledPair (s : State) : Led :=
  if lampTest s then .steady
  else if ledsDark s then .off
  else ledFirst [((prState s == prACTIVE && rd s I.PAIR_PARTNER != prSYNC) || prState s == prSTALE, .hz4), (prState s == prSYNC, .hz1),
    (prState s == prACTIVE, .steady)]

/-- TIME amber; in the lamp test in its second half. -/
def ledTimeAmber (s : State) : Led :=
  if lampTest s then (if 125000000 < rd s I.PWR_LAMP then .off else .steady)
  else if ledsDark s then .off else ledFirst [(timeLamp s == 5, .steady), (timeLamp s == 4, .hz1)]

/-- TIME green, which any amber indication hides; in the lamp test in its first half. -/
def ledTimeGreen (s : State) : Led :=
  if lampTest s then (if 125000000 < rd s I.PWR_LAMP then .steady else .off)
  else if ledsDark s then .off else ledFirst [(timeLamp s == 3, .steady), (timeLamp s == 2, .hz2), (timeLamp s == 1, .hz1)]

/-- FLT: no valid image; an unacknowledged critical entry, a full critical log, an invalid position; a pending fault, a
comparator that is masked (Table 4.7). -/
def ledFlt (s : State) : Led :=
  if lampTest s then .steady
  else if ledsDark s then .off
  else ledFirst [(on s I.ROM, .hz4), (on s EVC_LOGSTAT_UNACK || on s EVC_LOGSTAT_CRITFULL || rd s PAIR_STATUS_POS == 0, .steady),
    (!on s PWR_SUPPLY_FEED1_OK || !on s PWR_SUPPLY_FEED2_OK || on s PWR_SUPPLY_HOLDUP_LOW || on s PWR_SUPPLY_PLATE_WARN
      || on s WNW_STATUS_MASKED, .hz1)]

/-! Jacks and the diagnostics port (R33, R36) -/

/-- The left LED of the jack of BB2 or BB3: its link is up. The right LED flickers with each frame (Emit.flicker). -/
def jackLink (s : State) (n : Fin 2) : Bool := bit (rd s BBS_STATUS_LINK) (2 + n)

/-- What the host on X16 gets when it reads a register: the fabric code and the data. It has read access and nothing else, so that the
state stays as it is. Which diagnostics the port shows, and how they are asked for, the spec does not say (DESIGN CHOICE, log entry
115). -/
def diagnosticRead (s : State) (a size : Nat) : Nat × Nat :=
  let c := accessCode s a size
  (c, if c ≠ fOK then codeData c size else (reach a size).elim 0 (readReach s))

end Sys2Proof.Machine
end

