-- ==== Sys2Proof/Safety.lean ====
section
/-! DEFINITION. What claims about the machine are stated in: the invariant of every state, when a write or a command is taken, and
the marks an effect leaves. -/

namespace Sys2Proof

open Sys2Proof.Machine R

/-- What every step keeps: register fields are listed once each in rising order; memory is in canonical form; the capture
FIFO holds at most 64 reports (R462), the always-on latch at most 16 (R458), the register queue at most 256 stores (R110)
and the undo log at most 57,344 entries (R113); there are four Jalora controllers and sixteen DMA channels. -/
abbrev Inv (s : State) : Prop :=
  Assoc.sorted s.regs = true ∧ Memory.wf s.mem = true ∧ s.evFifo.length ≤ 64 ∧ s.evLatch.length ≤ 16
    ∧ s.regq.length ≤ 256 ∧ s.undo.length ≤ 57344 ∧ s.jla.length = 4 ∧ s.dma.length = 16

/-- The pending bit of an event source (R454). -/
def pendBit (s : State) (n : Nat) : Bool := bit (rd s (EVC_PEND (n / 32))) (n % 32)

/-- An event can be raised and seen: island 8, with EVC, is powered (R458). -/
abbrev evcOn (s : State) : Prop := islandPowered s 8 = true

/-- A register write by `w` of `v` to the field `f` takes full effect (R8 to R11): no lock or half access of the host stands in
its way, the register can be accessed, and neither lock nor role refuses the value. -/
abbrev WriteTaken (w : Writer) (f : Fld) (v : Nat) (s : State) : Prop :=
  (w = .host ∨ blockLocked s (blockOf f.addr) = false) ∧ s.halves = [] ∧ accessCode s f.addr 4 = fOK
    ∧ fieldCode s w f v = fOK

/-- A command descriptor may start: not passed on yet, WAIT satisfied, and served where only the ROM runs (R311, R487). -/
abbrev MayStart (ref : CmdRef) (op : Nat) (s : State) : Prop := cmdReady s ref = true ∧ (on s I.ROM = false ∨ romOp op = true)

/-- A command may start and its session has the right to it (R321, R450, Table 13.5). -/
abbrev Permitted (ref : CmdRef) (op : Nat) (s : State) : Prop :=
  MayStart ref op s ∧ roleOk s ref.session op = true ∧ (ownerOp op && pairStandby s && !standbyMay op) = false

/-- A command has completed with a status: its completion waits to be written (R312). -/
def Completed (t : State) (ref : CmdRef) (op status : Nat) : Prop :=
  ∃ c ∈ t.cpls, c.ref = ref ∧ c.opcode = op ∧ c.status = status

/-- The command and opcode of the rows whose right is checked before anything else (R321, Table 13.5); none for other rows. -/
def roleGated : Instr → Option (CmdRef × Nat)
  | .nop r => some (r, 0x01)
  | .login r _ => some (r, 0x02)
  | .logout r => some (r, 0x03)
  | .claim r _ => some (r, 0x04)
  | .release r => some (r, 0x05)
  | .handover r _ => some (r, 0x06)
  | .accept r => some (r, 0x07)
  | .takeover r => some (r, 0x08)
  | .close r => some (r, 0x0A)
  | .subscribe r _ => some (r, 0x12)
  | .rdlog r _ _ _ => some (r, 0x13)
  | .power r _ => some (r, 0x27)
  | .reset r => some (r, 0x28)
  | .quench r _ _ => some (r, 0x29)
  | .force r _ _ _ => some (r, 0x30)
  | .unforce r _ _ => some (r, 0x31)
  | .timeset r _ _ => some (r, 0x36)
  | _ => none

/-- No command waits under an opcode. -/
abbrev NoneWaits (op : Nat) (s : State) : Prop := ∀ w ∈ s.waiting, w.1 ≠ op

/-- Every byte of memory reads as before. -/
def MemSame (s t : State) : Prop := ∀ a, Memory.read t.mem a = Memory.read s.mem a

/-- Every byte of memory outside [lo, hi) reads as before. -/
def MemSameOutside (lo hi : Nat) (s t : State) : Prop := ∀ a, (a < lo ∨ hi ≤ a) → Memory.read t.mem a = Memory.read s.mem a

/-- Keys of the fields that raising an event may write: pending bits, reports dropped or lost, Gleaner counters, and, for the
interrupt to the host, the pending bits of MSI-X and the record of a message that cannot be sent (HBR_OBERR). -/
def evtKey (k : Nat) : Prop :=
  (0x1080280100 * 64 ≤ k ∧ k < 0x1080280140 * 64) ∨ k = 0x1080280008 * 64
    ∨ (0x1080291000 * 64 ≤ k ∧ k < 0x1080291800 * 64) ∨ k = I.EVC_LATCHLOST.key
    ∨ (0x1080220020 * 64 ≤ k ∧ k < 0x1080220021 * 64)
    ∨ ((I.HBR_MSIXPEND 0).key ≤ k ∧ k < (I.HBR_MSIXPEND 64).key)

/-- Every register field reads as before, but for those listed and those that raising an event may write. -/
def FieldsSameBut (l : List Fld) (s t : State) : Prop :=
  ∀ g : Fld, (∀ f ∈ l, g.key ≠ f.key) → ¬ evtKey g.key → rd t g = rd s g

/-- Level of fast input `i` after INV once the inputs take `levels`; a line fault reads 1 (R383). -/
def fcNext (s : State) (levels : BitVec 8) (i : Nat) : Bool :=
  bit (rd s FIO_FCERR_LINE) i || (levels.getLsbD i != bit (rd s FIO_FCCFG_INV) i)

/-- The fields of PoDL that follow the islands of the Jalora channels (R233). -/
def podlFields : List Fld := (List.range 8).flatMap (fun k => [podlState (k / 2) (k % 2), podlCurrent (k / 2) (k % 2)])

/-- The fields of FIO that follow the state of its outputs (Table 16.3). -/
def fioDriven : List Fld :=
  [FIO_OUT, FIO_FAULT, I.FIO_WANT, I.FIO_HOLD, I.FIO_ROW3]
    ++ (List.range 4).flatMap (fun p => [FIO_PAIRSTAT_DEMAND p, FIO_PAIRSTAT_ON p])
    ++ (List.range 24).flatMap (fun n => [I.FIO_ONTIME n, I.FIO_CONSEC n, I.FIO_LEVEL n, I.FIO_OVLNOW n, FIO_CHSTAT_CURR n,
        FIO_CHSTAT_NOSUP n, FIO_CHSTAT_SEEN n])

/-! The solver -/

/-- A stage runs on the solver, no store waits for an undo log entry (R116), LSV_STATUS.PC lies in an active page (R176), and the
program store holds the instruction there (R159). -/
abbrev SolverAt (op : Nat) (o : Opnd) (s : State) : Prop :=
  on s LSV_STATUS_RUNNING = true ∧ s.stalled = [] ∧ fetchOk s = true ∧ fetchWord s = insWord op o

/-- One instruction has been executed: the pc, the counts of instructions and solver clocks, and no memory; of the other
register fields only those in `l` may differ. -/
def SolverStep (s t : State) (clk next : Nat) (l : List Fld) : Prop :=
  rd t LSV_STATUS_PC = next % 2 ^ 20 ∧ rd t I.LSV_INSTRNOW = (rd s I.LSV_INSTRNOW + 1) % 2 ^ 32
    ∧ rd t I.LSV_CLKNOW = (rd s I.LSV_CLKNOW + clk) % 2 ^ 32
    ∧ FieldsSameBut ([LSV_STATUS_PC, I.LSV_PCOUT, I.LSV_CLKNOW, I.LSV_INSTRNOW] ++ l) s t ∧ MemSame s t

/-- The bytes a store to Q, M or W may change: the line of the Q working copy (R109, R191), or the element itself. -/
def storeLo (s : State) (o : Opnd) : Nat :=
  let off := if o.p then 8 * absPlane s o else o.index / 8
  if o.space = spQ then imgQ + off / 64 * 64 else if o.space = spW then imgW + 4 * (o.index / 32) else bitRegion o.space + off
def storeHi (s : State) (o : Opnd) : Nat :=
  storeLo s o + (if o.space = spQ then 64 else if o.space = spW then 4 else if o.p then 8 else 1)

/-- A program fault has been taken (R178, R181): its code and place are recorded with the last mark executed, the solver has
stopped, and the verdict is requested. -/
def Faulted (s t : State) (code pc word op : Nat) : Prop :=
  rd t LSV_FAULT_CODE = code ∧ rd t LSV_FAULTPC_PC = pc ∧ rd t LSV_FAULTINS_INSTR = word ∧ rd t LSV_FAULT_OPCODE = op
    ∧ rd t LSV_FAULTMARK_TAG = rd s LSV_MARK_TAG
    ∧ on t LSV_STATUS_RUNNING = false ∧ on t I.CKP_VREQ = true ∧ on t CKP_STATUS_LOGOPEN = false ∧ t.sol = s.sol
    ∧ MemSame s t

/-- Nothing differs in the signature window that ends: the vote is clean, no rail pair and no single solver is at fault, and no slice on
probation differs (R85 to R87). -/
abbrev WindowClean (s : State) (o : WindowObs) : Prop :=
  windowVote s o = .clean ∧ o.rails = 0 ∧ faultedSolvers s o = 0 ∧ ∀ k, k < 3 → probationDiff s o k = 0

/-- The right LED of the jack of BB2 or BB3 flickers for a frame at port n (R33). -/
def flickers (n : Nat) : List Emit := if 2 ≤ n then [.flicker n] else []

/-! Accesses and the DMA -/

/-- A read access reaches whole registers, none of which is a latched time register (R289). -/
abbrev PlainRead (s : State) (a size : Nat) (l : List (Hit × Nat)) : Prop :=
  accessCode s a size = fOK ∧ reach a size = some (.whole l)
    ∧ ∀ p ∈ l, p.1.addr ≠ TIM_SEC.addr ∧ p.1.addr ≠ TIM_NSEC.addr ∧ p.1.addr ≠ TIM_FRAC.addr

/-- No half access and no access that waits for a lock (R6, R334). -/
abbrev NoneHeld (s : State) : Prop := s.halves = [] ∧ s.heldAcc = []

/-- A write of the DMA at this address changes that byte of memory and nothing else: DDR, shared SRAM, and the words, enables and, outside
the log window, inputs of the image (R189, R497). -/
abbrev DmaPlain (s : State) (a : Nat) : Prop :=
  memCode s a = fOK ∧ (regionOf a = .ddr ∨ regionOf a = .sram ∨ (regionOf a = .image ∧ (imgArea a = .words ∨ imgArea a = .enable
    ∨ (imgArea a = .i ∧ on s CKP_STATUS_LOGOPEN = false))))

/-- Channel `n` moves the data of descriptor `d`, of a MODE, from memory of the module that can be read to memory that it may write
(R355, R359). -/
abbrev DmaMoves (s : State) (n : Nat) (d : DDesc) (mode : Nat) : Prop :=
  Inv s ∧ dmaReady s n = some d ∧ d.mode = mode ∧ dCheck d = dsOK ∧ dmaOutranked s n = false ∧ obRetrying s n = false
    ∧ (∀ a, (srcExtent d).1 ≤ a → a < (srcExtent d).2 → memCode s a = fOK)
    ∧ (∀ a, (dstExtent d).1 ≤ a → a < (dstExtent d).2 → DmaPlain s a)

/-- The data phase of a descriptor has ended with OK; memory changed inside its destination alone, and no register field. -/
def DmaMoved (s t : State) (n : Nat) (d : DDesc) : Prop :=
  (dch t n).ended = some (dsOK, fOK, 0) ∧ MemSameOutside (dstExtent d).1 (dstExtent d).2 s t ∧ FieldsSameBut [] s t

/-- The data phase of the descriptor in progress has ended: with OK, or with FABRIC and the code of the access that failed. -/
def DataEnded (t : State) (n : Nat) : Prop :=
  (dch t n).ended = some (dsOK, fOK, 0) ∨ ∃ code r, code ≠ fOK ∧ (dch t n).ended = some (dsFABRIC, code, r)

/-! Commands of a session -/

/-- A command completes with OK and returns `bs`: session 0 has them in its buffer, a remote session in its COMPLETION unit (R307,
R316). -/
def Returned (s t : State) (ref : CmdRef) (op : Nat) (bs : List Byte) : Prop :=
  ∃ c ∈ t.cpls, c.ref = ref ∧ c.opcode = op ∧ c.status = cOK ∧ c.len = bs.length
    ∧ (if ref.session.val = 0 then Emit.buffer ref (cmdBuf (markPassed ref s) ref) bs ∈ t.out else c.data = bs)

end Sys2Proof
end

