-- ==== Sys2Proof/Certificates/Slice0/Obligations.lean ====
section
/-! DEFINITION. The statements for the provers, one definition each. A statement that a command completes has the form: for every
state and operands that meet its hypotheses, exec answers a next state, and this state holds what follows. `evcOn s` says that
EVC is powered, so that a raised event shows as pending; `WriteTaken` and `Permitted` (Safety.lean) say when a register write
and a command descriptor are taken. -/

section

open Sys2Proof Sys2Proof.Machine Sys2Proof.Machine.R

/-! Machine -/

/-- A step takes the command at the front of the queue and is its meaning on the state with the queue's rest. -/
def Obligations.StepRunsFront : Prop :=
  ∀ (c : Instr) (q : List Instr) (s : State), s.pending = c :: q → step s = exec c { s with pending := q }

/-- With no command waiting the module idles (the model's choice, log entry 1): the time goes on by a clock, and with it what
counts clocks, the lamp test and the copy of a join, what waited for a lock, a promotion, and commands of reserved opcodes
whose turn it is. Where none of them is at work the state stays as it is. -/
def Obligations.IdleStep : Prop :=
  ∀ s : State, s.pending = [] →
    step s = .next (idle s)
      ∧ (s.heldAcc = [] → s.regq = [] → prState s ≠ prPROMOTING → islandPowered s 19 = false → islandPowered s 8 = false →
          rd s I.PWR_LAMP = 0 → (∀ c ∈ s.cmds, opDefined c.desc.opcode = true) → idle s = s)
      ∧ (s.heldAcc = [] → s.regq = [] → prState s ≠ prPROMOTING → rd s SLC_READMIT_PHASE = 0 → islandPowered s 19 = true →
          rateNow s = 0 → s.tim.frac = 0 → rd s TIM_NSEC < 999999998 → rd s TIM_SEC < 2 ^ 64 →
          now (idle s) = now s + 2 ∧ MemSame s (idle s))

/-- The invariant holds right after power-on reset. -/
def Obligations.ResetInv : Prop :=
  Inv State.reset

/-- Every step keeps the invariant: the register file lists every field once in rising order, memory stays in its canonical
form, no FIFO of the module exceeds its depth, and the channels stay as many as they are. -/
def Obligations.StepKeepsInv : Prop :=
  ∀ s t : State, Inv s → step s = .next t → Inv t

/-- No command writes the queue of commands: what waits behind it waits after it. -/
def Obligations.ExecKeepsQueue : Prop :=
  ∀ (c : Instr) (s t : State), exec c s = .next t → t.pending = s.pending

/-- Every command of the table is taken in every state: none faults and none is refused. That a command without an occasion is
taken too, and leaves the state as it is, is the model's choice (log entry 8). -/
def Obligations.EveryCommandIsTaken : Prop :=
  ∀ (c : Instr) (s : State), ∃ t, exec c s = .next t

/-! Supply, feeds and plate (chapter 2) -/

/-- Losing a feed clears its OK bit and raises event 8 or 9; a feed that returns sets the bit again; nothing but the bit and
what the event touches changes, and no byte of memory. The plate sensor: above +75 °C PLATE_WARN and event 12; above +85 °C
PLATE_STOP, every island but island 21 off and the module held; the supply registers take what was measured. -/
def Obligations.SupplyEvents : Prop :=
  ((∀ (n : Fin 2) (s : State), evcOn s → on s (feedOk n) = true →
    ∃ t, exec (.feedLost n) s = .next t ∧ on t (feedOk n) = false ∧ pendBit t (8 + n) = true
      ∧ FieldsSameBut [feedOk n] s t ∧ MemSame s t)
  ∧ (∀ (n : Fin 2) (s : State), on s (feedOk n) = false → wakeFrom s = 0 →
    ∃ t, exec (.feedRestored n) s = .next t ∧ on t (feedOk n) = true ∧ FieldsSameBut [feedOk n] s t ∧ MemSame s t)
  ∧ (∀ (low : Bool) (s : State), evcOn s →
    ∃ t, exec (.holdupReady low) s = .next t ∧ on t PWR_SUPPLY_HOLDUP_RDY = true
      ∧ on t PWR_SUPPLY_HOLDUP_LOW = low ∧ (low = true → pendBit t 14 = true)
      ∧ FieldsSameBut [PWR_SUPPLY_HOLDUP_RDY, PWR_SUPPLY_HOLDUP_LOW] s t ∧ MemSame s t)
  ∧ (∀ s : State, ∃ t, exec .moduleWithdrawn s = .next t ∧ on t HBR_LINK_LINKUP = false ∧ on t PAIR_STATUS_PLINK = false
      ∧ on t PAIR_STATUS_REFOK = false ∧ MemSame s t))
  ∧ ((∀ s : State, evcOn s → on s PWR_SUPPLY_PLATE_WARN = false →
    ∃ t, exec .plateWarning s = .next t ∧ on t PWR_SUPPLY_PLATE_WARN = true ∧ pendBit t 12 = true
      ∧ FieldsSameBut [PWR_SUPPLY_PLATE_WARN] s t ∧ MemSame s t)
  ∧ (∀ s : State, on s PWR_SUPPLY_PLATE_STOP = false →
    ∃ t, exec .plateStop s = .next t ∧ on t PWR_SUPPLY_PLATE_STOP = true ∧ rd t PWR_ISLSTAT = 0x100000
      ∧ rd t PWR_ISLBUSY_BUSY_OFF = 0 ∧ rd t PWR_ISLPEND_ENPEND = 0 ∧ on t I.PWR_PLATEHOLD = true ∧ on t I.HELD = true
      ∧ on t PWR_STATE_TRANS = false)
  ∧ (∀ (f1 f2 temp : BitVec 16) (s : State),
    ∃ t, exec (.supplyRegisterRefresh f1 f2 temp) s = .next t ∧ rd t PWR_FEEDV_FEED1_V = f1.toNat
      ∧ rd t PWR_FEEDV_FEED2_V = f2.toNat ∧ rd t PWR_PLATET_TEMP = temp.toNat
      ∧ (temp.toInt ≤ 1200 → on t PWR_SUPPLY_PLATE_WARN = false)
      ∧ FieldsSameBut [PWR_FEEDV_FEED1_V, PWR_FEEDV_FEED2_V, PWR_PLATET_TEMP, PWR_SUPPLY_PLATE_WARN] s t ∧ MemSame s t))

/-- The power-fail sequence: PFW and PFW_SEEN set at the warning; at tPF + 4 ms the islands go off and the module is held;
before that, the return of the rail clears PFW and raises event 11; after it, the module resets with cause PFAIL. -/
def Obligations.PowerFail : Prop :=
  (∀ s : State, on s PWR_SUPPLY_PFW = false → pwState s = pwRUN → s.evFifo = [] → s.evOpen = [] →
    ∃ t, exec .powerFailWarning s = .next t ∧ on t PWR_SUPPLY_PFW = true ∧ on t PWR_SUPPLY_PFW_SEEN = true
      ∧ on t PWR_PENDING_VALID = false)
  ∧ (∀ s : State, on s PWR_SUPPLY_PFW = true → on s I.PWR_PFLATE = false → on s I.HELD = false →
    ∃ t, exec .rideThroughEnd s = .next t ∧ rd t PWR_ISLSTAT = 0x100000 ∧ on t I.HELD = true)
  ∧ (∀ s : State, evcOn s → on s PWR_SUPPLY_PFW = true → on s I.PWR_PFLATE = false → on s I.HELD = false →
    ∃ t, exec .powerFailCleared s = .next t ∧ on t PWR_SUPPLY_PFW = false ∧ pendBit t 11 = true
      ∧ FieldsSameBut [PWR_SUPPLY_PFW] s t ∧ MemSame s t)
  ∧ (∀ s : State, on s PWR_SUPPLY_PFW = true → on s I.PWR_PFLATE = true →
    ∃ t, exec .powerFailCleared s = .next t ∧ on t PWR_RSTCAUSE_PFAIL = true ∧ on t I.HELD = true)

/-! Reset, oscillators, start-up (chapter 3) -/

/-- What every module reset leaves: its cause (after the pin with POR clear, the model's reading of Table 3.1, log entry 17),
islands 1 to 20 off, the module held, and after the pin power state Run with no request pending. The reset button: with
BTN_MODE = 1 an accepted press raises event 0 and causes no reset; a stuck button raises event 1 and is then ignored; the
re-armed button raises event 2. A power-on reset keeps nothing outside the Granary: memory there reads its default (where the
spec gives no contents the model's choice, log entry 4), the position is sampled, and a contact of the button that is closed at
the release is a press already taken. -/
def Obligations.ModuleResets : Prop :=
  ((∀ s : State, ∃ t, exec .extReset s = .next t ∧ on t PWR_RSTCAUSE_EXT = true ∧ on t PWR_RSTCAUSE_POR = false
      ∧ rd t PWR_ISLSTAT = 0x100000 ∧ rd t PWR_STATE = pwRUN ∧ on t PWR_STATE_TRANS = false
      ∧ on t PWR_PENDING_VALID = false ∧ on t I.HELD = true ∧ t.sol = Solver.reset ∧ t.cmds = [])
  ∧ (∀ (ref : CmdRef) (s : State), Permitted ref 0x28 s →
    ∃ t, exec (.reset ref) s = .next t ∧ on t PWR_RSTCAUSE_SOFT = true ∧ rd t PWR_ISLSTAT = 0x100000 ∧ on t I.HELD = true
      ∧ t.cpls = [])
  ∧ (∀ s : State, on s I.BOOTED = false → on s I.HELD = false →
    ∃ t, exec .bootWatchdogExpiry s = .next t ∧ on t PWR_RSTCAUSE_BOOTWDT = true ∧ rd t PWR_ISLSTAT = 0x100000
      ∧ on t I.HELD = true)
  ∧ (∀ s : State, on s PWR_BTN_STUCK = false → on s PWR_BTN_ARMED = true → on s PWR_CTRL_BTN_MODE = false →
    ∃ t, exec (.buttonPressAccepted false) s = .next t ∧ on t PWR_RSTCAUSE_BTN = true ∧ on t I.HELD = true))
  ∧ ((∀ s : State, evcOn s → on s PWR_BTN_STUCK = false → on s PWR_BTN_ARMED = true → on s PWR_CTRL_BTN_MODE = true →
    ∃ t, exec (.buttonPressAccepted false) s = .next t ∧ on t PWR_BTN_CLOSED = true ∧ on t PWR_BTN_ARMED = false
      ∧ pendBit t 0 = true ∧ FieldsSameBut [PWR_BTN_CLOSED, PWR_BTN_ARMED] s t ∧ MemSame s t)
  ∧ (∀ s : State, evcOn s → on s PWR_BTN_STUCK = false →
    ∃ t, exec .buttonStuck s = .next t ∧ on t PWR_BTN_STUCK = true ∧ pendBit t 1 = true
      ∧ (∀ opened, exec (.buttonPressAccepted opened) t = .next t))
  ∧ (∀ s : State, evcOn s → on s PWR_BTN_STUCK = true →
    ∃ t, exec .buttonRearm s = .next t ∧ on t PWR_BTN_STUCK = false ∧ on t PWR_BTN_ARMED = true
      ∧ on t PWR_BTN_CLOSED = false ∧ pendBit t 2 = true ∧ MemSame s t))
  ∧ (∀ (pins : ResetPins) (s : State), ∃ t, exec (.powerOnReset pins) s = .next t ∧ rd t PAIR_STATUS_POS = pins.pos
    ∧ on t PWR_BTN_CLOSED = pins.button ∧ on t PWR_BTN_ARMED = !pins.button
    ∧ (∀ a, inGranary a = false → Memory.read t.mem a = memDefault a)
    ∧ (∀ a, inGranary a = true → Memory.read t.mem a = Memory.read s.mem a)
    ∧ rd t PWR_RSTCAUSE_POR = 1 ∧ rd t PWR_ISLSTAT = 0x100000 ∧ rd t CYC_STATE = 0 ∧ t.sol = Solver.reset)

/-- Oscillators: a valid OCXO sets OCXO_OK, one that has not started in its time raises event 19 and stays unused; a switch of
the reference takes effect with the cycle engine off, and to an OCXO that is not valid it is refused; the loss of the OCXO in
STOP clears OCXO_OK and SRC, raises event 6 and leaves stop cause 4 with a new start blocked. Start-up: a permitted release
ends the hold; training brings the PCIe link and island 10 up, its loss clears the link's fields; the reset of the host link
closes session 0 and drops what waits in its rings, and keeps the accesses of others; the restore of step 7 sets READY; boot
complete sets the mode and ends a warm activation. -/
def Obligations.OscillatorsAndStartUp : Prop :=
  ((∀ s : State, on s I.PWR_OCXOFAIL = false →
    ∃ t, exec .ocxoValid s = .next t ∧ on t PWR_CLKSEL_OCXO_OK = true ∧ FieldsSameBut [PWR_CLKSEL_OCXO_OK] s t ∧ MemSame s t)
  ∧ (∀ s : State, on s I.PWR_OCXOFAIL = true → exec .ocxoValid s = .next s)
  ∧ (∀ s : State, evcOn s → on s PWR_CLKSEL_OCXO_OK = false →
    ∃ t, exec .ocxoStartTimeout s = .next t ∧ on t I.PWR_OCXOFAIL = true ∧ pendBit t 19 = true ∧ MemSame s t)
  ∧ (∀ (w : Writer) (src : Bool) (s : State), WriteTaken w PWR_CLKSEL_SRC (b2n src) s → on s CYC_CTRL_EN = false →
      (src = true → on s PWR_CLKSEL_OCXO_OK = true) →
    ∃ t, exec (.clockSelect w src) s = .next t ∧ on t PWR_CLKSEL_SRC = src ∧ FieldsSameBut [PWR_CLKSEL_SRC] s t ∧ MemSame s t)
  ∧ (∀ (w : Writer) (s : State), WriteTaken w PWR_CLKSEL_SRC 1 s → on s PWR_CLKSEL_OCXO_OK = false →
    ∃ t, exec (.clockSelect w true) s = .next t ∧ on t PWR_CLKSEL_REFUSED = true
      ∧ FieldsSameBut [PWR_CLKSEL_REFUSED] s t ∧ MemSame s t)
  ∧ (∀ s : State, evcOn s → rd s I.CYC_PH = 0 → ctlState s = stSTOP → rd s I.CYC_PENDCMD = 0 →
    ∃ t, exec .ocxoLost s = .next t ∧ on t PWR_CLKSEL_OCXO_OK = false ∧ on t PWR_CLKSEL_SRC = false
      ∧ rd t CYC_STATE_STOPCAUSE = 4 ∧ on t CYC_STATE_RSTBLOCK = true ∧ pendBit t 6 = true ∧ MemSame s t))
  ∧ ((∀ s : State, mayRelease s = true → ∃ t, exec .resetRelease s = .next t ∧ on t I.HELD = false)
  ∧ (∀ (width speed : Fin 5) (s : State), on s I.HELD = false →
    ∃ t, exec (.pcieLinkTraining width speed) s = .next t ∧ on t HBR_LINK_LINKUP = true ∧ rd t HBR_LINK_WIDTH = width
      ∧ rd t HBR_LINK_SPEED = speed ∧ islandPowered t 10 = true ∧ MemSame s t)
  ∧ (∀ s : State, ∃ t, exec .pcieLinkDown s = .next t ∧ on t HBR_LINK_LINKUP = false
      ∧ FieldsSameBut [HBR_LINK_LINKUP, HBR_LINK_WIDTH, HBR_LINK_SPEED] s t ∧ MemSame s t)
  ∧ (∀ s : State, ∃ t, exec .hostLinkReset s = .next t ∧ on t (HBR_SESS_OPEN 0) = false ∧ t.ringq = []
      ∧ (∀ h ∈ t.halves, h.writer ≠ .host) ∧ t.heldAcc = s.heldAcc)
  ∧ (∀ (imageOk ctlOk : Bool) (s : State), step7Ready s = true →
    ∃ t, exec (.retainedRestore imageOk ctlOk) s = .next t ∧ on t GRN_STATUS_READY = true ∧ rd t I.CYC_FCLEARED = 0)
  ∧ (∀ (mode : Fin 3) (s : State), step9Ready s = true → on s I.UPD_WARMRUN = false →
    ∃ t, exec (.bootComplete mode none) s = .next t ∧ on t I.BOOTED = true ∧ rd t SLC_MODE = mode
      ∧ on t UPD_STATUS_ACTIVATING = false))

/-! The Sheaf instructions (chapter 7) -/

/-- Bit logic: each instruction writes ACC with its function of ACC and the operand x, with a record of the new ACC, takes one
clock and goes on to the next instruction; WACC, the branch stack, the selection, memory and every other field stay. NOT, LDIM,
ANY and ALL write ACC from ACC and the instance mask; SHU and SHD move lanes between the lowest and the highest active lane and
let the operand in; the other lanes become 0, and with an empty mask all of them. -/
def Obligations.SheafLanes : Prop :=
  (∀ p ∈ ([(0x00, .ld, fun _ x => x), (0x01, .ldn, fun _ x => ~~~x), (0x02, .and, fun a x => a &&& x),
      (0x03, .andn, fun a x => a &&& ~~~x), (0x04, .or, fun a x => a ||| x), (0x05, .orn, fun a x => a ||| ~~~x),
      (0x06, .xor, fun a x => a ^^^ x), (0x07, .xorn, fun a x => a ^^^ ~~~x)] :
      List (Nat × (Opnd → Instr) × (Plane → Plane → Plane))),
    ∀ (o : Opnd) (s : State), SolverAt p.1 o s → bitReadSpaceBad s o = false → rangeBad s o true = false →
      ∃ t, exec (p.2.1 o) s = .next t ∧ t.sol = { s.sol with acc := p.2.2 s.sol.acc (bitX s o) }
        ∧ t.recs = s.recs ++ [.acc t.sol.acc] ∧ SolverStep s t 1 (rd s LSV_STATUS_PC + 1) [])
  ∧ ((∀ (o : Opnd) (s : State), noOperandBad o = false →
    (SolverAt 0x08 o s → ∃ t, exec (.not o) s = .next t ∧ t.sol = { s.sol with acc := ~~~ s.sol.acc }
        ∧ SolverStep s t 1 (rd s LSV_STATUS_PC + 1) [])
    ∧ (SolverAt 0x09 o s → ∃ t, exec (.ldim o) s = .next t ∧ t.sol = { s.sol with acc := mask s }
        ∧ SolverStep s t 1 (rd s LSV_STATUS_PC + 1) [])
    ∧ (SolverAt 0x0C o s → ∃ t, exec (.any o) s = .next t ∧ SolverStep s t 1 (rd s LSV_STATUS_PC + 1) [] ∧ t.sol = { s.sol with acc := t.sol.acc }
        ∧ (∀ k, k < 64 → (lane t.sol.acc k = true ↔ ∃ j, j < 64 ∧ lane (mask s) j = true ∧ lane s.sol.acc j = true)))
    ∧ (SolverAt 0x0D o s → ∃ t, exec (.all o) s = .next t ∧ SolverStep s t 1 (rd s LSV_STATUS_PC + 1) [] ∧ t.sol = { s.sol with acc := t.sol.acc }
        ∧ (∀ k, k < 64 → (lane t.sol.acc k = true ↔ mask s ≠ 0 ∧ ∀ j, j < 64 → lane (mask s) j = true → lane s.sol.acc j = true))))
  ∧ (∀ (o : Opnd) (s : State) (l h : Nat), o.p = false → rangeBad s o true = false →
      lowLane (mask s) = some l → highLane (mask s) = some h →
    (SolverAt 0x0A o s → ∃ t, exec (.shu o) s = .next t ∧ SolverStep s t 1 (rd s LSV_STATUS_PC + 1) [] ∧ t.sol = { s.sol with acc := t.sol.acc }
        ∧ (∀ k, k < 64 → lane t.sol.acc k
            = if k = l then lane (bitX s o) 0 else if l < k ∧ k ≤ h then lane s.sol.acc (k - 1) else false))
    ∧ (SolverAt 0x0B o s → ∃ t, exec (.shd o) s = .next t ∧ SolverStep s t 1 (rd s LSV_STATUS_PC + 1) [] ∧ t.sol = { s.sol with acc := t.sol.acc }
        ∧ (∀ k, k < 64 → lane t.sol.acc k
            = if k = h then lane (bitX s o) 0 else if l ≤ k ∧ k < h then lane s.sol.acc (k + 1) else false)))
  ∧ (∀ (o : Opnd) (s : State), o.p = false → rangeBad s o true = false → mask s = 0 →
    (SolverAt 0x0A o s → ∃ t, exec (.shu o) s = .next t ∧ t.sol = { s.sol with acc := 0 }
        ∧ SolverStep s t 1 (rd s LSV_STATUS_PC + 1) [])
    ∧ (SolverAt 0x0B o s → ∃ t, exec (.shd o) s = .next t ∧ t.sol = { s.sol with acc := 0 } ∧ SolverStep s t 1 (rd s LSV_STATUS_PC + 1) []))
  ∧ (∀ (m : Plane) (k : Nat), (lowLane m = some k ↔ k < 64 ∧ lane m k = true ∧ ∀ j, j < k → lane m j = false)
      ∧ (highLane m = some k ↔ k < 64 ∧ lane m k = true ∧ ∀ j, k < j → lane m j = false))
  ∧ (∀ s : State, inTemplate s = false → mask s = 1))

/-- The branch stack: OPEN and DUP push ACC, ORB, ANDB, XORB and POP pop one entry into ACC, PEEK reads it, DROP drops it. A
push onto 32 entries faults with STACK_OVF, and a pop or a read of a top that is no B entry with STACK_UNF. -/
def Obligations.SheafBranchStack : Prop :=
  (∀ (o : Opnd) (s : State), SolverAt 0x10 o s → bitReadSpaceBad s o = false → rangeBad s o true = false → s.sol.stack.length < 32 →
    ∃ t, exec (.open_ o) s = .next t ∧ t.sol = { s.sol with acc := bitX s o, stack := .b s.sol.acc :: s.sol.stack }
      ∧ rd t LSV_STATUS_DEPTH = s.sol.stack.length + 1
      ∧ SolverStep s t 1 (rd s LSV_STATUS_PC + 1) [LSV_STATUS_DEPTH, LSV_PEAK_DEPTH])
  ∧ (∀ (o : Opnd) (s : State), SolverAt 0x14 o s → noOperandBad o = false → s.sol.stack.length < 32 →
    ∃ t, exec (.dup o) s = .next t ∧ t.sol = { s.sol with stack := .b s.sol.acc :: s.sol.stack }
      ∧ SolverStep s t 1 (rd s LSV_STATUS_PC + 1) [LSV_STATUS_DEPTH, LSV_PEAK_DEPTH])
  ∧ (∀ p ∈ ([(0x11, .orb, fun v a => v ||| a), (0x12, .andb, fun v a => v &&& a), (0x13, .xorb, fun v a => v ^^^ a),
      (0x15, .pop, fun v _ => v)] : List (Nat × (Opnd → Instr) × (Plane → Plane → Plane))),
    ∀ (o : Opnd) (s : State) (v : Plane) (l : List StackEntry), SolverAt p.1 o s → noOperandBad o = false → s.sol.stack = .b v :: l →
      ∃ t, exec (p.2.1 o) s = .next t ∧ t.sol = { s.sol with acc := p.2.2 v s.sol.acc, stack := l }
        ∧ SolverStep s t 1 (rd s LSV_STATUS_PC + 1) [LSV_STATUS_DEPTH, LSV_PEAK_DEPTH])
  ∧ (∀ (o : Opnd) (s : State) (v : Plane) (l : List StackEntry), noOperandBad o = false → s.sol.stack = .b v :: l →
    (SolverAt 0x16 o s → ∃ t, exec (.peek o) s = .next t ∧ t.sol = { s.sol with acc := v } ∧ SolverStep s t 1 (rd s LSV_STATUS_PC + 1) [])
    ∧ (SolverAt 0x17 o s → ∃ t, exec (.drop o) s = .next t ∧ t.sol = { s.sol with stack := l }
      ∧ SolverStep s t 1 (rd s LSV_STATUS_PC + 1) [LSV_STATUS_DEPTH, LSV_PEAK_DEPTH]))
  ∧ (∀ (o : Opnd) (s : State), 32 ≤ s.sol.stack.length →
    (SolverAt 0x10 o s → bitReadSpaceBad s o = false → rangeBad s o true = false → ∃ t, exec (.open_ o) s = .next t
      ∧ Faulted s t 1 (rd s LSV_STATUS_PC % 2 ^ 20) (insWord 0x10 o % 2 ^ 32) 0x10)
    ∧ (SolverAt 0x14 o s → noOperandBad o = false → ∃ t, exec (.dup o) s = .next t
      ∧ Faulted s t 1 (rd s LSV_STATUS_PC % 2 ^ 20) (insWord 0x14 o % 2 ^ 32) 0x14))
  ∧ (∀ p ∈ ([(.orb, 0x11), (.andb, 0x12), (.xorb, 0x13), (.pop, 0x15), (.peek, 0x16), (.drop, 0x17)] : List ((Opnd → Instr) × Nat)),
    ∀ (o : Opnd) (s : State), SolverAt p.2 o s → noOperandBad o = false → shortB s 1 = true →
      ∃ t, exec (p.1 o) s = .next t ∧ Faulted s t 2 (rd s LSV_STATUS_PC % 2 ^ 20) (insWord p.2 o % 2 ^ 32) p.2)
  ∧ (∀ s : State, shortB s 1 = true ↔ ∀ v l, s.sol.stack ≠ .b v :: l)

/-- Stores to Q, M and W leave ACC, WACC and the branch stack, and produce one record of space and index; a scalar store writes
lane 0 of a to the element, a plane store the lanes of the mask; of memory only the element changes, or in Q its line of the
working copy. Word stores: WST to a word of W; and in plane form WST, WADD, WSUB, WMUL, WAND and WOR write the gated lanes of a
word plane, each from its own old value and WACC; ACC and WACC stay. -/
def Obligations.SheafStores : Prop :=
  (∀ p ∈ ([(0x18, .st, fun _ a => a), (0x19, .stn, fun _ a => !a), (0x1A, .set, fun d a => d || a), (0x1B, .rst, fun d a => d && !a),
      (0x1C, .tgl, fun d a => d != a)] : List (Nat × (Opnd → Instr) × (Bool → Bool → Bool))),
    ∀ (o : Opnd) (s : State), Inv s → SolverAt p.1 o s → (o.space = spQ ∨ o.space = spM ∨ o.space = spW) →
      (o.p = true → inTemplate s = true ∧ o.space ≠ spW) → rangeBad s o true = false →
      ∃ t, exec (p.2.1 o) s = .next t ∧ t.sol = s.sol ∧ rd t LSV_STATUS_PC = (rd s LSV_STATUS_PC + 1) % 2 ^ 20
        ∧ (∃ v, t.recs = s.recs ++ [.image (Fin.ofNat 8 o.space) (BitVec.ofNat 21 (if o.p then 64 * absPlane s o else o.index)) v])
        ∧ MemSameOutside (storeLo s o) (storeHi s o) s t
        ∧ (o.p = false → o.space ≠ spW →
            readBit t o.space o.index = p.2.2 (readBit s o.space o.index) (lane (accA s o) 0))
        ∧ (o.p = false → o.space = spW → (readW t (o.index / 32)).getLsbD (o.index % 32)
            = p.2.2 ((readW s (o.index / 32)).getLsbD (o.index % 32)) (lane (accA s o) 0))
        ∧ (o.p = true → ∀ k, k < 64 → lane (readPlane t o.space (absPlane s o)) k
            = if lane (mask s) k then p.2.2 (lane (readPlane s o.space (absPlane s o)) k) (lane (accA s o) k)
              else lane (readPlane s o.space (absPlane s o)) k))
  ∧ ((∀ (o : Opnd) (s : State), Inv s → SolverAt 0x29 o s → o.n = false → o.p = false → o.space = spW → rangeBad s o false = false →
    ∃ t, exec (.wst o) s = .next t ∧ t.sol = s.sol ∧ readW t o.index = s.sol.wacc
      ∧ MemSameOutside (imgW + 4 * o.index) (imgW + 4 * o.index + 4) s t)
  ∧ (∀ (o : Opnd) (s : State), Inv s → SolverAt 0x29 o s → o.n = false → o.p = false → rangeBad s o false = false →
    (o.space = spT → ∃ t, exec (.wst o) s = .next t ∧ t.sol = s.sol
      ∧ MemSameOutside (timerAddr o.index) (timerAddr o.index + 16) s t
      ∧ TimerWord.ofPair (stateWord t (timerAddr o.index))
          = { TimerWord.ofPair (stateWord s (timerAddr o.index)) with pt := s.sol.wacc.toNat })
    ∧ (o.space = spC → ∃ t, exec (.wst o) s = .next t ∧ t.sol = s.sol
      ∧ MemSameOutside (counterAddr o.index) (counterAddr o.index + 16) s t
      ∧ CounterWord.ofPair (stateWord t (counterAddr o.index))
          = { CounterWord.ofPair (stateWord s (counterAddr o.index)) with pv := wInt s.sol.wacc }))
  ∧ (∀ p ∈ ([(0x29, .wst, fun _ w => w), (0x2A, .wadd, fun a b => sat32 (wInt a + wInt b)), (0x2B, .wsub, fun a b => sat32 (wInt a - wInt b)),
      (0x2C, .wmul, fun a b => sat32 (wInt a * wInt b)), (0x2E, .wand, fun a b => a &&& b), (0x2F, .wor, fun a b => a ||| b)] :
      List (Nat × (Opnd → Instr) × (Word → Word → Word))),
    ∀ (o : Opnd) (s : State), Inv s → SolverAt p.1 o s → o.n = false → o.p = true → o.space = spW → inTemplate s = true →
      rangeBad s o false = false →
      ∃ t, exec (p.2.1 o) s = .next t ∧ t.sol = s.sol
        ∧ MemSameOutside (imgW + 256 * absPlane s o) (imgW + 256 * absPlane s o + 256) s t
        ∧ (∀ k, k < 64 → readW t (64 * absPlane s o + k)
            = if lane s.sol.acc k && lane (mask s) k then p.2.2 (readW s (64 * absPlane s o + k)) s.sol.wacc
              else readW s (64 * absPlane s o + k))))

/-- Edges: where the element's mark is clear, ACC takes the edge, else 0; the memory takes the input and the mark clears. In
scalar form the one result stands in every lane; in plane form the lanes of the mask act, ACC is 0 in the others, and their
elements stay. -/
def Obligations.SheafEdges : Prop :=
  ∀ p ∈ ([(0x20, .edr, fun m a => a && !m), (0x21, .edf, fun m a => !a && m)] : List (Nat × (Opnd → Instr) × (Bool → Bool → Bool))),
    (∀ (o : Opnd) (s : State), Inv s → SolverAt p.1 o s → o.space = spE → o.p = false → o.index < 4096 → rangeBad s o false = false →
      ∃ t, exec (p.2.1 o) s = .next t ∧ rd t LSV_STATUS_PC = (rd s LSV_STATUS_PC + 1) % 2 ^ 20
        ∧ (∀ k, k < 64 → lane t.sol.acc k = (!lane (readMarks s (o.index / 64)) (o.index % 64)
            && p.2.2 (readBit s spE o.index) (lane (accA s o) 0)))
        ∧ t.sol.wacc = s.sol.wacc ∧ t.sol.stack = s.sol.stack
        ∧ readBit t spE o.index = lane (accA s o) 0 ∧ lane (readMarks t (o.index / 64)) (o.index % 64) = false
        ∧ (∀ a, a ≠ imgE + o.index / 8 → (a < imgMark + 8 * (o.index / 64) ∨ imgMark + 8 * (o.index / 64) + 8 ≤ a) →
            Memory.read t.mem a = Memory.read s.mem a))
    ∧ (∀ (o : Opnd) (s : State), Inv s → SolverAt p.1 o s → o.space = spE → o.p = true → inTemplate s = true → absPlane s o < 64 →
        rangeBad s o false = false →
      ∃ t, exec (p.2.1 o) s = .next t ∧ rd t LSV_STATUS_PC = (rd s LSV_STATUS_PC + 1) % 2 ^ 20
        ∧ t.sol.wacc = s.sol.wacc ∧ t.sol.stack = s.sol.stack
        ∧ (∀ k, k < 64 →
            lane t.sol.acc k = (lane (mask s) k && !lane (readMarks s (absPlane s o)) k
                && p.2.2 (lane (readPlane s spE (absPlane s o)) k) (lane (accA s o) k))
            ∧ lane (readPlane t spE (absPlane s o)) k
                = (if lane (mask s) k then lane (accA s o) k else lane (readPlane s spE (absPlane s o)) k)
            ∧ lane (readMarks t (absPlane s o)) k = (lane (readMarks s (absPlane s o)) k && !lane (mask s) k))
        ∧ (∀ a, (a < imgE + 8 * absPlane s o ∨ imgE + 8 * absPlane s o + 8 ≤ a) →
            (a < imgMark + 8 * absPlane s o ∨ imgMark + 8 * absPlane s o + 8 ≤ a) →
            Memory.read t.mem a = Memory.read s.mem a))

/-- Timers: the element's state word follows the procedure of R197 at the cycle's timebase, and ACC takes its output. What the
timers do: with a preset of 0 the output is the input; TON's output sets no earlier than the preset after its input rose; TOF's
output holds while its input is 1; an execution remembers its input. -/
def Obligations.SheafTimers : Prop :=
  (∀ p ∈ ([(0x22, .ton, .ton), (0x23, .tof, .tof), (0x24, .tp, .tp)] : List (Nat × (Opnd → Instr) × TimerType)),
    ∀ (o : Opnd) (s : State), Inv s → SolverAt p.1 o s → o.space = spT → rangeBad s o false = false →
      (o.p = true → inTemplate s = true) →
      ∃ t, exec (p.2.1 o) s = .next t ∧ rd t LSV_STATUS_PC = (rd s LSV_STATUS_PC + 1) % 2 ^ 20
        ∧ t.sol.wacc = s.sol.wacc ∧ t.sol.stack = s.sol.stack
        ∧ (o.p = false →
            let w := timerExec p.2.2 (rd s TMR_MONO_M0) (lane (accA s o) 0) (TimerWord.ofPair (stateWord s (timerAddr o.index)))
            stateWord t (timerAddr o.index) = w.toPair ∧ t.sol.acc = broadcast w.q
              ∧ MemSameOutside (timerAddr o.index) (timerAddr o.index + 16) s t)
        ∧ (o.p = true → MemSameOutside (timerAddr (64 * absPlane s o)) (timerAddr (64 * absPlane s o) + 1024) s t
            ∧ ∀ k, k < 64 →
              let w := stateWord s (timerAddr (64 * absPlane s o + k))
              let v := timerExec p.2.2 (rd s TMR_MONO_M0) (lane (accA s o) k) (TimerWord.ofPair w)
              stateWord t (timerAddr (64 * absPlane s o + k)) = (if lane (mask s) k then v.toPair else w)
              ∧ lane t.sol.acc k = (lane (mask s) k && v.q)))
  ∧ (∀ (m0 : Nat) (input : Bool) (w : TimerWord) (ty : TimerType),
    (timerExec ty m0 input w).inPrev = input
    ∧ (w.pt = 0 → (timerExec ty m0 input w).q = input ∧ (timerExec ty m0 input w).et = 0)
    ∧ (w.pt ≠ 0 → ((timerExec .ton m0 input w).q = true → input = true ∧ w.run = true ∧ (timerExec .ton m0 input w).et = w.pt))
    ∧ (w.pt ≠ 0 → input = true → (timerExec .tof m0 input w).q = true ∧ (timerExec .tof m0 input w).et = 0)
    ∧ (timerExec ty m0 input w).pt = w.pt ∧ (timerExec ty m0 input w).long = w.long
    ∧ (w.et ≤ w.pt → (timerExec ty m0 input w).et ≤ w.pt))

/-- Counters: inputs are popped from the branch stack, the element counts, and ACC takes its output. What the counters count:
up and down on rising inputs within the signed word, reset before load before counting. -/
def Obligations.SheafCounters : Prop :=
  (∀ p ∈ ([(0x25, .ctu, .ctu), (0x26, .ctd, .ctd), (0x27, .ctud, .ctud)] : List (Nat × (Opnd → Instr) × CounterType)),
    ∀ (o : Opnd) (s : State) (vs : List Plane), Inv s → SolverAt p.1 o s → o.space = spC → rangeBad s o false = false →
      (o.p = true → inTemplate s = true) → topB (counterPops p.2.2) s.sol.stack = some vs →
      ∃ t, exec (p.2.1 o) s = .next t ∧ rd t LSV_STATUS_PC = (rd s LSV_STATUS_PC + 1) % 2 ^ 20
        ∧ t.sol.wacc = s.sol.wacc ∧ t.sol.stack = s.sol.stack.drop (counterPops p.2.2)
        ∧ (o.p = false →
           let i := counterIn p.2.2 (accA s o) vs 0
           let w := counterExec p.2.2 i.1 i.2.1 i.2.2.1 i.2.2.2 (CounterWord.ofPair (stateWord s (counterAddr o.index)))
           stateWord t (counterAddr o.index) = w.toPair ∧ t.sol.acc = broadcast w.q
             ∧ MemSameOutside (counterAddr o.index) (counterAddr o.index + 16) s t)
        ∧ (o.p = true → MemSameOutside (counterAddr (64 * absPlane s o)) (counterAddr (64 * absPlane s o) + 1024) s t
            ∧ ∀ k, k < 64 →
              let i := counterIn p.2.2 (accA s o) vs k
              let w := stateWord s (counterAddr (64 * absPlane s o + k))
              let v := counterExec p.2.2 i.1 i.2.1 i.2.2.1 i.2.2.2 (CounterWord.ofPair w)
              stateWord t (counterAddr (64 * absPlane s o + k)) = (if lane (mask s) k then v.toPair else w)
              ∧ lane t.sol.acc k = (lane (mask s) k && v.q)))
  ∧ (∀ (w : CounterWord) (cu cd r ld : Bool),
    (counterExec .ctu cu cd r ld w).cv = (if r then 0 else if cu ∧ ¬ w.cuMem then min (w.cv + 1) (max w.cv 0x7FFFFFFF) else w.cv)
    ∧ (counterExec .ctd cu cd r ld w).cv = (if ld then w.pv else if cd ∧ ¬ w.cdMem then max (w.cv - 1) (min w.cv (-0x80000000)) else w.cv)
    ∧ ((counterExec .ctu cu cd r ld w).q = true ↔ w.pv ≤ (counterExec .ctu cu cd r ld w).cv)
    ∧ ((counterExec .ctd cu cd r ld w).q = true ↔ (counterExec .ctd cu cd r ld w).cv ≤ 0)
    ∧ (r = true → (counterExec .ctud cu cd r ld w).cv = 0)
    ∧ (r = false → ld = true → (counterExec .ctud cu cd r ld w).cv = w.pv)
    ∧ (r = false → ld = false → cu = true → cd = true → w.cuMem = false → w.cdMem = false →
        (counterExec .ctud cu cd r ld w).cv = w.cv))

/-- Word instructions in scalar form write WACC alone: a load, saturating sums, differences and products, bit operations, the
quotient of R174, the choice of WSEL, and the limit of WLIM. -/
def Obligations.SheafWords : Prop :=
  (∀ (o : Opnd) (s : State), SolverAt 0x28 o s → o.n = false → o.p = false → rangeBad s o false = false →
      o.space ∈ [spW, spK, spT, spC] →
    ∃ t, exec (.wld o) s = .next t ∧ t.sol = { s.sol with wacc := wordOperand s o } ∧ t.recs = s.recs ++ [.wacc t.sol.wacc]
      ∧ SolverStep s t 1 (rd s LSV_STATUS_PC + 1) [])
  ∧ (∀ p ∈ ([(0x2A, .wadd, fun a b => sat32 (wInt a + wInt b)), (0x2B, .wsub, fun a b => sat32 (wInt a - wInt b)),
      (0x2C, .wmul, fun a b => sat32 (wInt a * wInt b)), (0x2E, .wand, fun a b => a &&& b), (0x2F, .wor, fun a b => a ||| b),
      (0x2D, .wdiv, wdiv)] : List (Nat × (Opnd → Instr) × (Word → Word → Word))),
    ∀ (o : Opnd) (s : State), SolverAt p.1 o s → o.n = false → o.p = false → rangeBad s o false = false → o.space ∈ [spW, spK] →
      ∃ t, exec (p.2.1 o) s = .next t ∧ t.sol = { s.sol with wacc := p.2.2 s.sol.wacc (wordOperand s o) }
        ∧ t.recs = s.recs ++ [.wacc t.sol.wacc] ∧ SolverStep s t 1 (rd s LSV_STATUS_PC + 1) [])
  ∧ (∀ (o : Opnd) (s : State), SolverAt 0x37 o s → o.n = false → o.p = false → rangeBad s o false = false → o.space ∈ [spW, spK] →
    ∃ t, exec (.wsel o) s = .next t ∧ SolverStep s t 1 (rd s LSV_STATUS_PC + 1) []
      ∧ t.sol = { s.sol with wacc := if lane s.sol.acc 0 then wordOperand s o else s.sol.wacc })
  ∧ (∀ (o : Opnd) (s : State), SolverAt 0x36 o s → o.n = false → o.p = false → o.space = spW → o.index + 1 < scalarLimit s spW false →
    ∃ t, exec (.wlim o) s = .next t ∧ SolverStep s t 1 (rd s LSV_STATUS_PC + 1) []
      ∧ (wInt (readW s o.index) ≤ wInt (readW s (o.index + 1)) →
          wInt t.sol.wacc = max (wInt (readW s o.index)) (min (wInt s.sol.wacc) (wInt (readW s (o.index + 1)))))
      ∧ (wInt (readW s (o.index + 1)) < wInt (readW s o.index) → t.sol.wacc = readW s (o.index + 1)))

/-- Comparisons write ACC and leave WACC: in scalar form in every lane, in plane form lane by lane, 0 outside the mask. WDIV
never faults and truncates towards zero; its corners are those of R174, and sums and products stay in the signed range. -/
def Obligations.SheafComparisons : Prop :=
  (∀ p ∈ ([(0x30, .weq, fun a b => a == b), (0x31, .wne, fun a b => a != b), (0x32, .wlt, fun a b => decide (a < b)),
      (0x33, .wle, fun a b => decide (a ≤ b)), (0x34, .wgt, fun a b => decide (a > b)), (0x35, .wge, fun a b => decide (a ≥ b))] :
      List (Nat × (Opnd → Instr) × (Int → Int → Bool))),
    ∀ (o : Opnd) (s : State), SolverAt p.1 o s → o.n = false → o.space ∈ [spW, spK] → (o.p = true → o.space = spW ∧ inTemplate s = true) →
      rangeBad s o false = false →
      ∃ t, exec (p.2.1 o) s = .next t ∧ t.sol.wacc = s.sol.wacc ∧ t.sol.stack = s.sol.stack
        ∧ SolverStep s t (if o.p then 8 else 1) (rd s LSV_STATUS_PC + 1) []
        ∧ (o.p = false → ∀ k, k < 64 → lane t.sol.acc k = p.2.2 (wInt s.sol.wacc) (wInt (wordOperand s o)))
        ∧ (o.p = true → ∀ k, k < 64 → lane t.sol.acc k
            = (lane (mask s) k && p.2.2 (wInt s.sol.wacc) (wInt (readW s (64 * absPlane s o + k))))))
  ∧ ((∀ a b : Word, b ≠ 0 → ¬ (a = 0x80000000 ∧ b = 0xFFFFFFFF) → wInt (wdiv a b) = Int.tdiv (wInt a) (wInt b))
  ∧ (∀ a : Word, (wInt a > 0 → wdiv a 0 = 0x7FFFFFFF) ∧ (wInt a < 0 → wdiv a 0 = 0x80000000) ∧ (wInt a = 0 → wdiv a 0 = 0))
  ∧ wdiv 0x80000000 0xFFFFFFFF = 0x7FFFFFFF
  ∧ (∀ x : Int, wInt (sat32 x) = max (-2147483648) (min x 2147483647)))

/-- Control: TSEL loads a template's selection, TRUN enters template context, JMP, CALL and RET go to their targets, JMPC where
an active lane of ACC is 1 (or, negated, none), MARK writes the mark; END ends the stage outside template context with an empty
branch stack, and else faults with CONTEXT. -/
def Obligations.SheafControl : Prop :=
  (∀ (o : Opnd) (s : State), SolverAt 0x38 o s → o.n = false → o.space = spK → o.p = false → inTemplate s = false → o.index ≤ 511 →
      tplValid s o.index = true →
    ∃ t, exec (.tsel o) s = .next t ∧ t.sol = { s.sol with sel := some (tplLoad s o.index) } ∧ on t LSV_TSEL_VALID = true
      ∧ rd t LSV_TSEL_TEMPLATE = o.index ∧ SolverStep s t 4 (rd s LSV_STATUS_PC + 1) [LSV_TSEL_VALID, LSV_TSEL_TEMPLATE])
  ∧ (∀ (o : Opnd) (s : State), SolverAt 0x39 o s → targetBad o false = false → inTemplate s = false → s.sol.sel.isSome = true →
      inProgram s o.index = true → s.sol.stack.length < 32 →
    ∃ t, exec (.trun o) s = .next t ∧ inTemplate t = true
      ∧ t.sol = { s.sol with stack := .r ((rd s LSV_STATUS_PC + 1) % 2 ^ 20) true :: s.sol.stack }
      ∧ SolverStep s t 2 o.index [LSV_STATUS_DEPTH, LSV_PEAK_DEPTH, LSV_STATUS_CTX])
  ∧ (∀ (o : Opnd) (s : State), SolverAt 0x3A o s → targetBad o true = false → inProgram s o.index = true →
    ∃ t, exec (.jmpc o) s = .next t ∧ t.sol = s.sol
      ∧ SolverStep s t (if jmpcTaken o s then 2 else 1) (if jmpcTaken o s then o.index else rd s LSV_STATUS_PC + 1) [])
  ∧ (∀ (o : Opnd) (s : State), SolverAt 0x3B o s → targetBad o false = false → inProgram s o.index = true →
    ∃ t, exec (.jmp o) s = .next t ∧ t.sol = s.sol ∧ SolverStep s t 2 o.index [])
  ∧ (∀ (o : Opnd) (s : State), SolverAt 0x3C o s → targetBad o false = false → inProgram s o.index = true → s.sol.stack.length < 32 →
    ∃ t, exec (.call o) s = .next t ∧ t.sol = { s.sol with stack := .r ((rd s LSV_STATUS_PC + 1) % 2 ^ 20) false :: s.sol.stack }
      ∧ SolverStep s t 2 o.index [LSV_STATUS_DEPTH, LSV_PEAK_DEPTH])
  ∧ (∀ (o : Opnd) (s : State) (r : Nat) (b : Bool) (l : List StackEntry), SolverAt 0x3D o s → noOperandBad o = false →
      s.sol.stack = .r r b :: l →
    ∃ t, exec (.ret o) s = .next t ∧ t.sol = { s.sol with stack := l } ∧ (b = true → inTemplate t = false)
      ∧ SolverStep s t 2 r [LSV_STATUS_DEPTH, LSV_PEAK_DEPTH, LSV_STATUS_CTX])
  ∧ (∀ (o : Opnd) (s : State), SolverAt 0x3E o s → o.n = false → o.space = spK → o.p = false →
    ∃ t, exec (.mark o) s = .next t ∧ t.sol = s.sol ∧ t.recs = s.recs ∧ rd t LSV_MARK_TAG = o.index % 2 ^ (LSV_MARK_TAG).width
      ∧ SolverStep s t 1 (rd s LSV_STATUS_PC + 1) [LSV_MARK_TAG])
  ∧ (∀ (o : Opnd) (s : State), SolverAt 0x3F o s → noOperandBad o = false → inTemplate s = false → s.sol.stack = [] →
    ∃ t, exec (.end_ o) s = .next t ∧ t.sol = { s.sol with sel := none } ∧ on t LSV_STATUS_RUNNING = false
      ∧ on t I.CYC_SOLVDONE = true ∧ on t LSV_TSEL_VALID = false ∧ MemSame s t)
  ∧ (∀ (o : Opnd) (s : State), SolverAt 0x3F o s → noOperandBad o = false → (inTemplate s = true ∨ s.sol.stack ≠ []) →
    ∃ t, exec (.end_ o) s = .next t ∧ Faulted s t 6 (rd s LSV_STATUS_PC % 2 ^ 20) (insWord 0x3F o % 2 ^ 32) 0x3F)
  ∧ (∀ (o : Opnd) (s : State), jmpcTaken o s = true ↔
      ((∃ k, k < 64 ∧ lane (mask s) k = true ∧ lane s.sol.acc k = true) ↔ o.n = false))

/-- A reserved opcode faults with ILLEGAL and a fetch outside the active program with RANGE; the fault registers say where, the
solver stops, and event 96 is raised. While no solver runs, no instruction of the table has an effect (the model's choice, log
entry 8). -/
def Obligations.SheafFaults : Prop :=
  ((∀ (op : Nat) (o : Opnd) (s : State), evcOn s → SolverAt op o s → op ∈ reservedOpcodes →
    ∃ t, exec (.reservedOpcode op o) s = .next t
      ∧ Faulted s t 5 (rd s LSV_STATUS_PC % 2 ^ 20) (insWord op o % 2 ^ 32) op ∧ pendBit t 96 = true)
  ∧ (∀ (o : Opnd) (s : State), evcOn s → SolverAt 0x08 o s → noOperandBad o = true →
    ∃ t, exec (.not o) s = .next t ∧ Faulted s t 5 (rd s LSV_STATUS_PC % 2 ^ 20) (insWord 8 o % 2 ^ 32) 8 ∧ pendBit t 96 = true)
  ∧ (∀ (o : Opnd) (s : State), evcOn s → SolverAt 0x00 o s → bitReadSpaceBad s o = false → rangeBad s o true = true →
    ∃ t, exec (.ld o) s = .next t ∧ Faulted s t 3 (rd s LSV_STATUS_PC % 2 ^ 20) (insWord 0 o % 2 ^ 32) 0 ∧ pendBit t 96 = true)
  ∧ (∀ (o : Opnd) (s : State), evcOn s → SolverAt 0x39 o s → targetBad o false = false → (inTemplate s = true ∨ s.sol.sel = none) →
    ∃ t, exec (.trun o) s = .next t ∧ Faulted s t 6 (rd s LSV_STATUS_PC % 2 ^ 20) (insWord 0x39 o % 2 ^ 32) 0x39
      ∧ pendBit t 96 = true)
  ∧ (∀ (o : Opnd) (s : State), evcOn s → SolverAt 0x3D o s → noOperandBad o = false → topR s = none →
    ∃ t, exec (.ret o) s = .next t ∧ Faulted s t 2 (rd s LSV_STATUS_PC % 2 ^ 20) (insWord 0x3D o % 2 ^ 32) 0x3D
      ∧ pendBit t 96 = true)
  ∧ (∀ s : State, evcOn s → on s LSV_STATUS_RUNNING = true → s.stalled = [] → fetchOk s = false →
    ∃ t, exec .fetchOutsideProgram s = .next t ∧ Faulted s t 3 (rd s LSV_STATUS_PC % 2 ^ 20) 0 0 ∧ pendBit t 96 = true)
  ∧ (∀ (o : Opnd) (s : State), evcOn s → SolverAt 0x14 o s → full s = true → noOperandBad o = false →
    ∃ t, exec (.dup o) s = .next t ∧ Faulted s t 1 (rd s LSV_STATUS_PC % 2 ^ 20) (insWord 0x14 o % 2 ^ 32) 0x14)
  ∧ (∀ (o : Opnd) (s : State), evcOn s → SolverAt 0x15 o s → shortB s 1 = true → noOperandBad o = false →
    ∃ t, exec (.pop o) s = .next t ∧ Faulted s t 2 (rd s LSV_STATUS_PC % 2 ^ 20) (insWord 0x15 o % 2 ^ 32) 0x15)
  ∧ (∀ (o : Opnd) (s : State), evcOn s → SolverAt 0x00 o s → bitReadSpaceBad s o = true →
    ∃ t, exec (.ld o) s = .next t ∧ Faulted s t 4 (rd s LSV_STATUS_PC % 2 ^ 20) (insWord 0 o % 2 ^ 32) 0))
  ∧ (∀ c ∈ ([.ld, .ldn, .and, .andn, .or, .orn, .xor, .xorn, .not, .ldim, .shu, .shd, .any, .all, .open_, .orb, .andb, .xorb, .dup, .pop,
      .peek, .drop, .st, .stn, .set, .rst, .tgl, .edr, .edf, .ton, .tof, .tp, .ctu, .ctd, .ctud, .wld, .wst, .wadd, .wsub, .wmul,
      .wdiv, .wand, .wor, .weq, .wne, .wlt, .wle, .wgt, .wge, .wlim, .wsel, .tsel, .trun, .jmpc, .jmp, .call, .ret, .mark, .end_] :
      List (Opnd → Instr)),
    ∀ (o : Opnd) (s : State), on s LSV_STATUS_RUNNING = false → exec (c o) s = .next s)

/-! Power states, islands and shutdown (chapter 3) -/

/-- Power states: a permitted request begins the transition; its completion enters the state; the wake sources of Drowse set
their bit and begin the transition to Idle. Islands: an enable takes effect at once, or waits in ISLPEND while the island shuts
down; a disable sets BUSY_OFF while the island shuts down; the completion of the shutdown clears BUSY_OFF and takes a pending
enable, for islands and for the DMA unit alike; PoDL and the outputs of FIO follow their islands; a DMA channel shuts down once
it is OFF. -/
def Obligations.PowerStatesAndIslands : Prop :=
  ((∀ (ref : CmdRef) (target : Fin 8) (s : State), Permitted ref 0x27 s → pwCheck s ref.session target = cOK →
      on s PWR_STATE_TRANS = false → pwState s ≠ target → pwState s ≠ pwFALLOW → target.val < pwDROWSE →
    ∃ t, exec (.power ref target) s = .next t ∧ on t PWR_STATE_TRANS = true ∧ rd t PWR_STATE_TARGET = target
      ∧ pwState t = pwState s ∧ MemSame s t)
  ∧ (∀ (ref : CmdRef) (target : Fin 8) (s : State), Permitted ref 0x27 s → pwCheck s ref.session target ≠ cOK →
    ∃ t, exec (.power ref target) s = .next t ∧ Completed t ref 0x27 (pwCheck s ref.session target)
      ∧ rd t PWR_STATE_TRANS = rd s PWR_STATE_TRANS ∧ pwState t = pwState s)
  ∧ (∀ s : State, on s PWR_STATE_TRANS = true → rd s PWR_STATE_TARGET = pwIDLE → pwState s = pwRUN → on s I.HELD = false →
      on s PWR_PENDING_VALID = false →
    ∃ t, exec .transitionComplete s = .next t ∧ pwState t = pwIDLE ∧ rd t PWR_STATE_PREV = pwRUN
      ∧ on t PWR_STATE_TRANS = false ∧ (∀ k, k < 21 → bit (rd t PWR_ISLSTAT) k
            = (bit (pwIslands pwIDLE) k && (!switchable (k + 1) || bit (rd s PWR_ISLEN) k))
          ∧ bit (rd t PWR_ISLEN) k = if switchable (k + 1) then bit (rd s PWR_ISLEN) k else bit (pwIslands pwIDLE) k)
      ∧ rd t SLC_MODE_PART = Nat.land (rd s SLC_MODE_PART) 1
      ∧ ((∀ c, c < 4 → on s (JLA_CTRL_EN c) = false) → MemSame s t))
  ∧ (∀ s : State, pwState s = pwDROWSE → on s PWR_STATE_TRANS = false → on s PWR_SUPPLY_PFW = false →
    (∀ (k : Fin 3) (late : Bool), bit (rd s PWR_WAKEEN_SRC) (wakeBit k) = true →
      ∃ t, exec (.wakeSource k late) s = .next t ∧ on t PWR_STATE_TRANS = true ∧ rd t PWR_STATE_TARGET = pwIDLE
        ∧ bit (rd t PWR_WAKESRC_SRC) (wakeBit k) = true)
    ∧ (∀ (k : Fin 3) (late : Bool), bit (rd s PWR_WAKEEN_SRC) (wakeBit k) = false →
      ∃ t, exec (.wakeSource k late) s = .next t ∧ on t PWR_STATE_TRANS = false
        ∧ bit (rd t PWR_WAKESRC_SRC) (wakeBit k) = true ∧ FieldsSameBut [PWR_WAKESRC_SRC] s t)
    ∧ (bit (rd s PWR_WAKEEN_SRC) 0 = true → rd s PWR_WAKETIME ≠ 0 →
      ∃ t, exec .wakeTimer s = .next t ∧ on t PWR_STATE_TRANS = true ∧ rd t PWR_STATE_TARGET = pwIDLE
        ∧ bit (rd t PWR_WAKESRC_SRC) 0 = true)
    ∧ (∀ (dst : BitVec 48) (ether : BitVec 16) (payload : List Byte) (late : Bool), bit (rd s PWR_WAKEEN_SRC) 2 = true →
        isWakeFrame s dst.toNat ether.toNat payload = true →
      ∃ t, exec (.wakeFrame dst ether payload late) s = .next t ∧ on t PWR_STATE_TRANS = true
        ∧ rd t PWR_STATE_TARGET = pwIDLE ∧ bit (rd t PWR_WAKESRC_SRC) 2 = true)))
  ∧ ((∀ (w : Writer) (n : Fin 21) (s : State), WriteTaken w PWR_ISLEN (setBits (rd s PWR_ISLEN) n 1 1) s →
      switchable (n + 1) = true → bit (rd s PWR_ISLBUSY_BUSY_OFF) n = false →
    ∃ t, exec (.islandEnable w n true) s = .next t ∧ rd t PWR_ISLEN = setBits (rd s PWR_ISLEN) n 1 1 % 2 ^ 21
      ∧ bit (rd t PWR_ISLSTAT) n = true ∧ FieldsSameBut ([PWR_ISLEN, PWR_ISLSTAT] ++ podlFields ++ fioDriven) s t ∧ MemSame s t)
  ∧ (∀ (w : Writer) (n : Fin 21) (s : State), WriteTaken w PWR_ISLEN (setBits (rd s PWR_ISLEN) n 1 1) s →
      switchable (n + 1) = true → bit (rd s PWR_ISLBUSY_BUSY_OFF) n = true →
    ∃ t, exec (.islandEnable w n true) s = .next t ∧ bit (rd t PWR_ISLPEND_ENPEND) n = true
      ∧ FieldsSameBut [PWR_ISLPEND_ENPEND] s t ∧ MemSame s t)
  ∧ (∀ (w : Writer) (n : Fin 21) (s : State), WriteTaken w PWR_ISLEN (setBits (rd s PWR_ISLEN) n 1 0) s →
      switchable (n + 1) = true → bit (rd s PWR_ISLSTAT) n = true → bit (rd s PWR_ISLBUSY_BUSY_OFF) n = false →
    ∃ t, exec (.islandEnable w n false) s = .next t ∧ bit (rd t PWR_ISLEN) n = false
      ∧ bit (rd t PWR_ISLBUSY_BUSY_OFF) n = true ∧ bit (rd t PWR_ISLSTAT) n = true ∧ bit (rd t PWR_ISLPEND_ENPEND) n = false)
  ∧ (∀ (n : Fin 21) (s : State), bit (rd s PWR_ISLBUSY_BUSY_OFF) n = true →
    ∃ t, exec (.shutdownComplete (.island n)) s = .next t ∧ bit (rd t PWR_ISLBUSY_BUSY_OFF) n = false
      ∧ bit (rd t PWR_ISLSTAT) n = bit (rd s PWR_ISLPEND_ENPEND) n ∧ bit (rd t PWR_ISLPEND_ENPEND) n = false
      ∧ FieldsSameBut ([PWR_ISLEN, PWR_ISLSTAT, PWR_ISLBUSY_BUSY_OFF, PWR_ISLPEND_ENPEND] ++ podlFields ++ fioDriven) s t ∧ MemSame s t)
  ∧ (∀ s : State, on s DMA_CTRL_BUSY_OFF = true → on s DMA_CTRL_ENPEND = false →
    ∃ t, exec (.shutdownComplete .dma) s = .next t ∧ on t DMA_CTRL_BUSY_OFF = false
      ∧ FieldsSameBut [DMA_CTRL_BUSY_OFF, DMA_CTRL_ENPEND] s t ∧ MemSame s t)
  ∧ (∀ (n : Fin 16) (s : State), on s (DMA_CH_CTRL_BUSY_OFF n) = true →
    (dcState s n ≠ dcOFF → exec (.shutdownComplete (.dmaChannel n)) s = .next s)
    ∧ (dcState s n = dcOFF → on s (DMA_CH_CTRL_ENPEND n) = false →
      ∃ t, exec (.shutdownComplete (.dmaChannel n)) s = .next t ∧ on t (DMA_CH_CTRL_BUSY_OFF n) = false
        ∧ FieldsSameBut [DMA_CH_CTRL_BUSY_OFF n, DMA_CH_CTRL_ENPEND n] s t ∧ MemSame s t)))

/-! Host rings, sessions and ownership (chapter 13) -/

/-- Ring pairs: an enable starts the pair at slot 0 and opens session 0; a disable discards the commands of the pair;
completions go to the next slot, or stall the pair where the host has not returned it; the deferred interrupt goes out at the
end of its interval, and a masked vector that the host unmasks is raised then; the completions of a remote session go out as
units. That a pair with a count below 2 is not enabled is the model's choice and a hypothesis here (log entry 35). -/
def Obligations.HostRings : Prop :=
  (∀ (w : Writer) (r : Fin 16) (s : State), WriteTaken w (HBR_RP_CFG_EN r) 1 s → on s (HBR_RP_CFG_EN r) = false →
      2 ≤ rd s (HBR_RP_CFG_CMDENT r) → 2 ≤ rd s (HBR_RP_CFG_CPLENT r) →
    ∃ t, exec (.ringEnable w r) s = .next t ∧ on t (HBR_RP_CFG_EN r) = true ∧ rd t (HBR_RP_STAT_HEAD r) = 0
      ∧ rd t (HBR_RP_STAT_CPLNEXT r) = 0 ∧ rd t (HBR_RP_STAT_ERR r) = 0 ∧ on t (HBR_SESS_OPEN 0) = true ∧ MemSame s t)
  ∧ (∀ (w : Writer) (r : Fin 16) (slotsFree : Nat) (s : State), WriteTaken w (HBR_RP_CFG_EN r) 0 s →
      on s (HBR_RP_CFG_EN r) = true →
    ∃ t, exec (.ringDisable w r slotsFree) s = .next t ∧ on t (HBR_RP_CFG_EN r) = false
      ∧ (∀ c ∈ t.cmds, ofRing 0 r c.ref = false))
  ∧ (∀ (p : PcieCtl) (s : State), ∃ t, exec (.busMasterEnableChange p) s = .next t ∧ on t HBR_LINK_BME = p.bme
      ∧ on t I.HBR_MSIXEN = p.msixEn ∧ on t I.HBR_FMASK = p.fmask ∧ rd t I.HBR_MRRS = p.maxRead ∧ MemSame s t
      ∧ (p.bme = false → FieldsSameBut [HBR_LINK_BME, I.HBR_MSIXEN, I.HBR_FMASK, I.HBR_MRRS] s t)
      ∧ (p.bme = true → p.msixEn = true → p.fmask = false → on s HBR_LINK_LINKUP = true →
          ∀ v, v < 64 → on s (I.HBR_MSIXPEND v) = true → on s (I.HBR_MSIXMASK v) = false → Emit.msix v ∈ t.out))
  ∧ (∀ (ring : Fin 16) (c : Completion) (s : State), cplOf s 0 ring = some c → obLink s = true →
      on s (HBR_RP_CFG_EN ring) = true → rd s (HBR_RP_STAT_ERR ring) = 0 →
    (∃ t, exec (.completionWrite 0 ring true true) s = .next t
      ∧ Emit.completion (slotAddr s ring) (cplWords c) ∈ t.out ∧ MemSame s t)
    ∧ (∃ t, exec (.completionWrite 0 ring false true) s = .next t ∧ on t (I.HBR_STALLED ring) = true ∧ t.cpls = s.cpls
      ∧ t.out = s.out ∧ MemSame s t)
    ∧ (on s (I.HBR_STALLED ring) = true → ∃ t, exec (.completionSlotReturn ring) s = .next t
      ∧ Emit.completion (slotAddr s ring) (cplWords c) ∈ t.out ∧ MemSame s t))
  ∧ (∀ (sess : Fin 8) (ring : Fin 16) (c : Completion) (a b : Bool) (s : State), sess ≠ 0 → cplOf s sess ring = some c →
    ∃ t, exec (.completionWrite sess ring a b) s = .next t ∧ t.out = s.out ++ [.unit sess (unitCompletion c)] ∧ t.cpls = s.cpls.erase c
      ∧ FieldsSameBut [I.HBR_LASTTX c.ref.session.val] s t ∧ MemSame s t)
  ∧ (∀ (ring : Fin 16) (s : State), on s (I.HBR_VPEND ring) = true →
      rd s (I.HBR_VLAST ring) + 1000 * rd s (HBR_RP_MOD_ITIME ring) ≤ upNow s + 1 → obLink s = true →
      msixMasked s (rd s (HBR_RP_CFG_VEC ring) % 64) = false →
    ∃ t, exec (.interruptModerationExpiry ring) s = .next t ∧ t.out = s.out ++ [.msix (rd s (HBR_RP_CFG_VEC ring) % 64)]
      ∧ on t (I.HBR_VPEND ring) = false ∧ FieldsSameBut [I.HBR_VPEND ring, I.HBR_ICNT ring, I.HBR_VLAST ring] s t
      ∧ MemSame s t)

/-- NOP completes; CLOSE closes its session; SUBSCRIBE subscribes exactly the sources of its mask; FENCE completes with PWFAIL
as HBR_FENCE says and clears it for session 0; LOGIN takes the role and identity of the entry it presents (IDENT with its low
byte first: the model's choice, log entry 59) and is refused with LOCKOUT in a lockout; LOGOUT returns session 0 to operator. -/
def Obligations.SessionCommands : Prop :=
  (∀ (ref : CmdRef) (s : State), Permitted ref 0x01 s →
    ∃ t, exec (.nop ref) s = .next t ∧ Completed t ref 0x01 cOK ∧ FieldsSameBut [] s t ∧ MemSame s t)
  ∧ (∀ (ref : CmdRef) (s : State), Permitted ref 0x0A s →
    ∃ t, exec (.close ref) s = .next t ∧ Completed t ref 0x0A cOK ∧ on t (HBR_SESS_OPEN ref.session) = false)
  ∧ (∀ (ref : CmdRef) (buf : Option (List Byte)) (mask : List Byte) (s : State), Permitted ref 0x12 s → ref.session ≠ 0 →
      cmdBytes (markPassed ref s) ref buf = some mask → 64 ≤ mask.length →
    ∃ t, exec (.subscribe ref buf) s = .next t ∧ Completed t ref 0x12 cOK
      ∧ (∀ i, i < 512 → ((ref.session.val, i) ∈ t.subs ↔ (mask.getD (i / 8) 0).getLsbD (i % 8) = true))
      ∧ FieldsSameBut [] s t ∧ MemSame s t)
  ∧ (∀ (ref : CmdRef) (s : State), Permitted ref 0x09 s → (ref.session ≠ 0 → earlierOpen s ref = false) →
    ∃ t, exec (.fence ref) s = .next t
      ∧ (∃ c ∈ t.cpls, c.ref = ref ∧ c.opcode = 9 ∧ c.status = cOK
          ∧ c.pwfail = (decide (ref.session = 0) && on s HBR_FENCE_FAIL))
      ∧ (ref.session = 0 → on t HBR_FENCE_FAIL = false) ∧ MemSame s t)
  ∧ (∀ (ref : CmdRef) (buf pass : List Byte) (hd : List Byte) (e : Credential) (s : State), Permitted ref 0x02 s →
      ref.session = 0 → on s HBR_LINK_BME = true → on s I.HBR_LOCKOUT = false → hd.length = 3 → (hd.getD 2 0).toNat = pass.length →
      8 ≤ pass.length → pass.length ≤ 64 → buf = hd ++ pass → loginEntry s (leBytes (hd.take 2)) pass = some e →
    ∃ t, exec (.login ref (some buf)) s = .next t ∧ Completed t ref 0x02 cOK ∧ sessRole t 0 = e.role % 8
      ∧ sessIdent t 0 = e.ident % 65536)
  ∧ (∀ (ref : CmdRef) (buf : Option (List Byte)) (s : State), Permitted ref 0x02 s → ref.session = 0 → on s I.HBR_LOCKOUT = true →
      evcOn s →
    ∃ t, exec (.login ref buf) s = .next t ∧ Completed t ref 0x02 cLOCKOUT ∧ pendBit t 327 = true
      ∧ sessRole t 0 = sessRole s 0)
  ∧ (∀ (ref : CmdRef) (s : State), Permitted ref 0x03 s → ref.session = 0 → evcOn s →
    ∃ t, exec (.logout ref) s = .next t ∧ Completed t ref 0x03 cOK ∧ sessRole t 0 = 1 ∧ sessIdent t 0 = 0
      ∧ pendBit t 480 = true)
  ∧ (∀ s : State, rd s I.HBR_LOCKEND ≤ upNow s → ∃ t, exec .loginLockoutEnd s = .next t ∧ on t I.HBR_LOCKOUT = false
      ∧ FieldsSameBut [I.HBR_LOCKOUT] s t ∧ MemSame s t)

/-- Ownership: CLAIM takes it where nobody holds it, RELEASE gives it back, ACCEPT moves it, TAKEOVER moves it against a role
not above one's own and has the old owner notified 1 ms later, and an orphaned one ends with its hold. What commands of the
owner to itself answer is the model's choice (log entry 36). -/
def Obligations.Ownership : Prop :=
  (∀ (ref : CmdRef) (waits : Bool) (s : State), Permitted ref 0x04 s → on s (HBR_SESS_READONLY ref.session) = false →
      ownerNone s = true → evcOn s →
    ∃ t, exec (.claim ref waits) s = .next t ∧ isOwner t ref.session = true ∧ Completed t ref 0x04 cOK
      ∧ rd t HBR_OWNER_ROLE = sessRole s ref.session % 8 ∧ rd t HBR_OWNER_IDENT = sessIdent s ref.session % 65536
      ∧ rd t HBR_OWNSEQ_SEQ = (rd s HBR_OWNSEQ_SEQ + 1) % 2 ^ 32 ∧ pendBit t 322 = true)
  ∧ (∀ (ref : CmdRef) (s : State), Permitted ref 0x04 s → on s (HBR_SESS_READONLY ref.session) = false →
      on s HBR_OWNER_VALID = true → isOwner s ref.session = false → on s HBR_OWNER_ORPHAN = false →
    (∃ t, exec (.claim ref false) s = .next t ∧ Completed t ref 0x04 cOWNED
      ∧ rd t HBR_OWNER_SESSION = rd s HBR_OWNER_SESSION ∧ on t HBR_OWNER_VALID = true)
    ∧ (∃ t, exec (.claim ref true) s = .next t ∧ t.claims = s.claims ++ [ref] ∧ FieldsSameBut [] s t ∧ MemSame s t))
  ∧ (∀ (ref : CmdRef) (s : State), Permitted ref 0x05 s → s.claims = [] →
    ∃ t, exec (.release ref) s = .next t ∧ ownerNone t = true ∧ Completed t ref 0x05 cOK ∧ on t HBR_OFFER_VALID = false)
  ∧ (∀ (ref : CmdRef) (target : Fin 8) (s : State), Permitted ref 0x06 s → on s (HBR_SESS_OPEN target) = true →
      on s (HBR_SESS_READONLY target) = false → target ≠ ref.session →
    ∃ t, exec (.handover ref target) s = .next t ∧ on t HBR_OFFER_VALID = true ∧ rd t HBR_OFFER_TO = target
      ∧ rd t HBR_OFFER_REMAIN = rd s HBR_OWNCFG_OFFERTO % 256 ∧ (6, ref) ∈ t.waiting
      ∧ isOwner t ref.session = true ∧ MemSame s t)
  ∧ (∀ (ref : CmdRef) (s : State), Permitted ref 0x07 s → on s (HBR_SESS_READONLY ref.session) = false → on s HBR_OFFER_VALID = true →
      rd s HBR_OFFER_TO = ref.session →
    ∃ t, exec (.accept ref) s = .next t ∧ isOwner t ref.session = true ∧ on t HBR_OFFER_VALID = false
      ∧ Completed t ref 0x07 cOK ∧ (∀ w ∈ s.waiting, w.1 = 6 → Completed t w.2 6 cOK))
  ∧ (∀ (ref : CmdRef) (s : State), Permitted ref 0x08 s → on s (HBR_SESS_READONLY ref.session) = false →
      rd s HBR_OWNER_ROLE ≤ sessRole s ref.session → isOwner s ref.session = false → evcOn s →
    ∃ t, exec (.takeover ref) s = .next t ∧ isOwner t ref.session = true ∧ Completed t ref 0x08 cOK
      ∧ pendBit t 323 = true
      ∧ (on s HBR_OWNER_VALID = true → t.notices = s.notices ++ [(rd s HBR_OWNER_SESSION, upNow s)]))
  ∧ (∀ (n t0 : Nat) (l : List (Nat × Nat)) (s : State), s.notices = (n, t0) :: l → t0 + 1000000 ≤ upNow s →
    (n ≠ 0 → ∃ t, exec .takeoverNotice s = .next t ∧ t.notices = l
      ∧ (∃ bs, t.out = s.out ++ [.unit n (unitNotice bs)]) ∧ FieldsSameBut [I.HBR_LASTTX n] s t ∧ MemSame s t)
    ∧ (n = 0 → obLink s = true → msixMasked s (rd s (EVC_ROUTE_VEC 323) % 64) = false →
      ∃ t, exec .takeoverNotice s = .next t ∧ t.notices = l ∧ t.out = s.out ++ [.msix (rd s (EVC_ROUTE_VEC 323) % 64)]
        ∧ t.regs = s.regs ∧ MemSame s t))
  ∧ (∀ s : State, on s HBR_OFFER_VALID = true → rd s I.HBR_OFFEREND ≤ upNow s →
    ∃ t, exec .offerTimeout s = .next t ∧ on t HBR_OFFER_VALID = false
      ∧ (∀ w ∈ s.waiting, w.1 = 6 → Completed t w.2 6 cTIMEOUT) ∧ MemSame s t
      ∧ FieldsSameBut [HBR_OFFER_VALID, HBR_OFFER_TO, HBR_OFFER_REMAIN] s t)
  ∧ (∀ s : State, on s HBR_OWNER_ORPHAN = true → rd s I.HBR_HOLDEND ≤ upNow s → s.claims = [] →
    ∃ t, exec .orphanHoldExpiry s = .next t ∧ on t HBR_OWNER_ORPHAN = false ∧ rd t HBR_OWNER_IDENT = 0 ∧ MemSame s t
      ∧ FieldsSameBut [HBR_OWNER_ORPHAN, HBR_OWNER_SESSION, HBR_OWNER_ROLE, HBR_OWNER_IDENT] s t)

/-- Remote sessions: a connection with a known certificate opens the lowest free one; units count as traffic; a connection that
ends, says nothing for 10 s, or sends what is no unit of the protocol in its turn, closes it; a connection that fails its
handshake or has no known certificate is refused with an alert and event 327. -/
def Obligations.RemoteSessions : Prop :=
  (∀ (h : TlsHello) (anchor : List Nat) (fp : Nat) (s : State), tlsAnswers h s = true → evcOn s →
    (∀ (n : Nat) (e : Credential), freeSession s = some n → certEntry s fp = some e → handshakeOk h = true → anchor ∈ s.creds.anchors →
        on s I.ROM = false →
      ∃ t, exec (.tlsConnect h anchor fp) s = .next t ∧ on t (HBR_SESS_OPEN n) = true ∧ sessRole t n = e.role % 8
        ∧ sessIdent t n = e.ident % 65536 ∧ pendBit t 321 = true ∧ MemSame s t)
    ∧ (freeSession s = none ∨ certEntry s fp = none ∨ handshakeOk h = false ∨ anchor ∉ s.creds.anchors ∨ on s I.ROM = true →
      ∃ t, exec (.tlsConnect h anchor fp) s = .next t ∧ Emit.tlsAlert ∈ t.out ∧ pendBit t 327 = true ∧ FieldsSameBut [] s t
        ∧ MemSame s t))
  ∧ (∀ (sess : Fin 8) (s : State), sess ≠ 0 → on s (HBR_SESS_OPEN sess) = true →
    (∃ t, exec (.tlsConnectionClosed sess) s = .next t ∧ on t (HBR_SESS_OPEN sess) = false)
    ∧ (rd s (I.HBR_LASTRX sess) + 10 * nsPerS ≤ upNow s →
      ∃ t, exec (.sessionIdleTimeout sess) s = .next t ∧ on t (HBR_SESS_OPEN sess) = false)
    ∧ (rd s (I.HBR_LASTTX sess) + 2 * nsPerS ≤ upNow s →
      ∃ t, exec (.keepaliveSend sess) s = .next t ∧ t.out = s.out ++ [.unit sess unitKeepalive]
        ∧ FieldsSameBut [I.HBR_LASTTX sess] s t ∧ MemSame s t)
    ∧ (∀ n : Byte, rd s (HBR_SESS_RINGS sess) = 0 → 1 ≤ n.toNat → n.toNat ≤ 16 →
      ∃ t, exec (.unitRings sess ⟨n, 0⟩) s = .next t ∧ rd t (HBR_SESS_RINGS sess) = n.toNat
        ∧ FieldsSameBut [HBR_SESS_RINGS sess, I.HBR_LASTRX sess] s t ∧ MemSame s t)
    ∧ (rd s (HBR_SESS_RINGS sess) ≠ 0 →
      ∃ t, exec (.unitKeepalive sess) s = .next t ∧ FieldsSameBut [I.HBR_LASTRX sess] s t ∧ MemSame s t
        ∧ (upNow s < 2 ^ 96 → rd t (I.HBR_LASTRX sess) = upNow s))
    ∧ (∀ (ring : Byte) (u : CmdUnit), unitOk u = true → ring.toNat < rd s (HBR_SESS_RINGS sess) → inflight s sess ring.toNat < 64 →
        opDefined (descOf u.words).opcode = true → (∀ c ∈ s.cmds, opDefined c.desc.opcode = true) →
      ∃ t, exec (.unitCommand sess 1 ring u) s = .next t
        ∧ t.cmds = s.cmds ++ [⟨⟨sess, ring.toNat, (descOf u.words).tag, (descOf u.words).ci⟩, descOf u.words, false,
            u.data.take u.dlen.toNat⟩]
        ∧ FieldsSameBut [I.HBR_LASTRX sess] s t ∧ MemSame s t)
    ∧ (∀ (ring : Byte) (u : CmdUnit), unitOk u = true → ring.toNat < rd s (HBR_SESS_RINGS sess) → s.cmds = [] → s.cpls = [] →
        opDefined (descOf u.words).opcode = false →
      ∃ t, exec (.unitCommand sess 1 ring u) s = .next t
        ∧ Completed t ⟨sess, ring.toNat, (descOf u.words).tag, (descOf u.words).ci⟩ (descOf u.words).opcode cBADOP
        ∧ FieldsSameBut [I.HBR_LASTRX sess] s t ∧ MemSame s t)
    ∧ (∀ (ring ty : Byte) (u : CmdUnit), ty ≠ 1 ∨ rd s (HBR_SESS_RINGS sess) = 0 ∨ unitOk u = false →
      ∃ t, exec (.unitCommand sess ty ring u) s = .next t ∧ on t (HBR_SESS_OPEN sess) = false))

/-- A command without its role or ownership completes with ROLE and event 326 and does nothing else: of the register fields and
of memory only the audit log may change. -/
def Obligations.RoleRefusals : Prop :=
  ∀ (c : Instr) (ref : CmdRef) (op : Nat) (s : State), roleGated c = some (ref, op) → MayStart ref op s → evcOn s →
      roleOk s ref.session op = false → rd s ACC_AUDHEAD_HEAD < 8192 →
      (op = 0x29 ∨ op = 0x36 → ∀ b : Fin 64, fwBlockWaits s b = false) →
    ∃ t, exec c s = .next t ∧ Completed t ref op cROLE ∧ pendBit t 326 = true
      ∧ FieldsSameBut [ACC_AUDHEAD_HEAD, ACC_AUDSEQ_SEQ, I.ACC_AUDCOUNT, ACC_AUDCNT_OVWR, I.ACC_LAST483] s t
      ∧ MemSameOutside auditBase (auditBase + 32 * 8192) s t ∧ t.sol = s.sol ∧ t.undo = s.undo ∧ t.waiting = s.waiting
      ∧ t.jla = s.jla ∧ t.dma = s.dma ∧ t.bbs = s.bbs ∧ t.tim = s.tim ∧ t.safe = s.safe

/-! Accesses of the slices, the host and firmware (chapters 4, 5, 8 and 13) -/

/-- The slices on the fabric: loads and stores outside the log window; load-reserved, store-conditional and the misaligned
access of a core (Table 4.1; how a trap enters its handler is log entry 70); what memory protection refuses, and a CSR that
cannot be read (Table 4.1; the layout of the entries is log entry 129); the register queue inside the window; a store that was
held; writes of others to the image window with its protection; the delivery of an interrupt. Reads and writes of registers: a
read answers with the register's value, or with the code, which is recorded for the host; the doorbell page reads 0, and a read
of no size of the table is answered with SIZE; the host's writes of the MSI-X table act on it, an AtomicOp is answered with
Unsupported Request, and a poisoned write is discarded and reported; a write of a plain field changes that field alone; a write
that cannot be performed is answered with its code; of a 64-bit register the low half waits for the high half. -/
def Obligations.FabricAccesses : Prop :=
  ((∀ (m : SliceAcc) (a : BitVec 40) (size : Fin 16) (s : State), accRuns m s = true → regionOf a.toNat = .ddr →
      islandOn s 9 = true → sizeOk a.toNat size = true → accPmp m a.toNat size false s = true →
    (∃ t, exec (.fabricRead m .plain a size 0 false) s = .next t
      ∧ t.out = s.out ++ [.readData (writerInit (sliceWriter m.fw)) a.toNat fOK (leBytes (memRead s a.toNat size))]
      ∧ t.cores = s.cores ∧ t.own = s.own ∧ FieldsSameBut [] s t ∧ MemSame s t)
    ∧ (size.val = 4 ∨ size.val = 8 → m.own = none → m.core.val < s.cores.length →
      ∃ t, exec (.fabricRead m .reserved a size 0 false) s = .next t ∧ reserved t none m.core a.toNat = true
        ∧ Emit.readData (writerInit (sliceWriter m.fw)) a.toNat fOK (leBytes (memRead s a.toNat size)) ∈ t.out
        ∧ FieldsSameBut [] s t ∧ MemSame s t))
  ∧ (∀ (m : SliceAcc) (a : BitVec 40) (size : Fin 16) (s : State), slicesRun s = true → m.own = none → m.core.val < s.cores.length →
      misaligned a.toNat size = false →
    (accPmp m a.toNat size false s = false →
      ∃ t, exec (.fabricRead m .plain a size 0 false) s = .next t ∧ t.regs = s.regs ∧ t.mem = s.mem
        ∧ coreOf t none m.core = trapEnter 5 a.toNat false (coreOf s none m.core))
    ∧ (∀ data soon, accPmp m a.toNat size true s = false →
      ∃ t, exec (.sliceStore m .plain 0 a size data soon) s = .next t ∧ t.regs = s.regs ∧ t.mem = s.mem
        ∧ coreOf t none m.core = trapEnter 7 a.toNat false (coreOf s none m.core)))
  ∧ (∀ (m : SliceAcc) (a : BitVec 40) (size : Fin 16) (num : BitVec 12) (s : State), slicesRun s = true → m.own = none →
      m.core.val < s.cores.length →
    (csrRead s none 0 m.core num.toNat (coreOf s none m.core).user = none →
      ∃ t, exec (.fabricRead m (.csr num) a size 0 false) s = .next t ∧ t.regs = s.regs ∧ t.mem = s.mem
        ∧ coreOf t none m.core = trapEnter exIllegal 0 false (coreOf s none m.core))
    ∧ (num = 0xC01 → ∃ t, exec (.fabricRead m (.csr num) a size 0 false) s = .next t ∧ t.regs = s.regs ∧ t.mem = s.mem
        ∧ t.out = s.out ++ [.csrData 0xC01 (now s)] ∧ t.cores = s.cores))
  ∧ (∀ (m : SliceAcc) (a : BitVec 40) (size : Fin 16) (data : BitVec 64) (s : State), accRuns m s = true →
      (m.own = none → on s CKP_STATUS_LOGOPEN = false) → (m.own ≠ none → rd s SLC_MODE = 1 → inCwin s a.toNat size = true) →
      regionOf a.toNat = .ddr → islandOn s 9 = true → sizeOk a.toNat size = true → accPmp m a.toNat size true s = true → Inv s →
    ∃ t, exec (.sliceStore m .plain 0 a size data false) s = .next t
      ∧ memRead t a.toNat size = bytesLE size data.toNat ∧ MemSameOutside a.toNat (a.toNat + size) s t
      ∧ FieldsSameBut [] s t)
  ∧ (∀ (m : SliceAcc) (a : BitVec 40) (size : Fin 16) (data : BitVec 64) (s : State), slicesRun s = true → m.own = none →
      on s CKP_STATUS_LOGOPEN = false → regionOf a.toNat = .ddr → islandOn s 9 = true → size.val = 4 ∨ size.val = 8 →
      a.toNat % size = 0 → accPmp m a.toNat size true s = true → Inv s →
    (reserved s none m.core a.toNat = true →
      ∃ t, exec (.sliceStore m .sc 0 a size data false) s = .next t ∧ memRead t a.toNat size = bytesLE size data.toNat
        ∧ MemSameOutside a.toNat (a.toNat + size) s t ∧ Emit.atomicResult a.toNat 0 ∈ t.out ∧ FieldsSameBut [] s t)
    ∧ (reserved s none m.core a.toNat = false →
      ∃ t, exec (.sliceStore m .sc 0 a size data false) s = .next t ∧ Emit.atomicResult a.toNat 1 ∈ t.out
        ∧ t.regs = s.regs ∧ t.mem = s.mem)
    ∧ (∃ t, exec (.sliceStore m (.amo .add) 0 a size data false) s = .next t
        ∧ memNat t a.toNat size = (memNat s a.toNat size + data.toNat) % 2 ^ (8 * size.val)
        ∧ MemSameOutside a.toNat (a.toNat + size) s t ∧ Emit.atomicResult a.toNat (memNat s a.toNat size) ∈ t.out
        ∧ FieldsSameBut [] s t))
  ∧ (∀ (m : SliceAcc) (a : BitVec 40) (size : Fin 16) (data : BitVec 64) (soon : Bool) (s : State), slicesRun s = true →
      m.own = none → misaligned a.toNat size = true → m.core.val < s.cores.length →
    (∃ t, exec (.fabricRead m .plain a size 0 false) s = .next t ∧ t.regs = s.regs ∧ t.mem = s.mem
      ∧ coreOf t none m.core = trapEnter 4 a.toNat false (coreOf s none m.core))
    ∧ (∃ t, exec (.sliceStore m .plain 0 a size data soon) s = .next t ∧ t.regs = s.regs ∧ t.mem = s.mem
      ∧ coreOf t none m.core = trapEnter 6 a.toNat false (coreOf s none m.core)))
  ∧ (∀ (m : SliceAcc) (a : BitVec 40) (size : Fin 16) (data : BitVec 64) (soon : Bool) (s : State), slicesRun s = true →
      m.own = none → misaligned a.toNat size = false → accPmp m a.toNat size true s = true → on s CKP_STATUS_LOGOPEN = true →
      regionOf a.toNat = .registers → on s I.CKP_REGDIRECT = false → s.regq.length < 256 →
    ∃ t, exec (.sliceStore m .plain 0 a size data soon) s = .next t
      ∧ t.regq = s.regq ++ [⟨sliceWriter m.fw, a.toNat, size, data.toNat⟩] ∧ rd t CKP_REGQ_ENTRIES = s.regq.length + 1
      ∧ FieldsSameBut [CKP_REGQ_ENTRIES, CKP_REGQ_PEAK] s t ∧ MemSame s t)
  ∧ (∀ (q : RegStore) (l : List RegStore) (s : State), s.stalled = q :: l → on s CKP_STATUS_LOGOPEN = true → Inv s →
    ∃ t, exec .stalledStoreRelease s = .next t ∧ t.stalled = l ∧ memRead t q.addr q.size = bytesLE q.size q.data
      ∧ MemSameOutside q.addr (q.addr + q.size) s t)
  ∧ (∀ (a : BitVec 40) (bs : List Byte) (s : State), regionOf a.toNat = .image → regionOn s .image = true →
      sizeOk a.toNat bs.length = true → Inv s →
    (imgArea a.toNat = .words → ∃ t, exec (.imageWrite .host a bs) s = .next t ∧ memRead t a.toNat bs.length = bs
      ∧ MemSameOutside a.toNat (a.toNat + bs.length) s t ∧ FieldsSameBut [] s t)
    ∧ (imgDenied a.toNat = true → evcOn s → ∃ t, exec (.imageWrite .host a bs) s = .next t ∧ on t IMG_STATUS_PROT = true
      ∧ rd t IMG_PROTADDR_SOURCE = 2 ∧ pendBit t 99 = true ∧ MemSame s t
      ∧ FieldsSameBut [IMG_STATUS_PROT, IMG_PROTADDR_SOURCE, IMG_PROTADDR_ADDR] s t))
  ∧ (∀ (k src : Nat) (l : List (Nat × Nat)) (s : State), s.extIrq = (k, src) :: l → on s CKP_STATUS_LOGOPEN = false →
      slicesRun s = true →
    ∃ t, exec .sliceInterruptDelivery s = .next t ∧ t.extIrq = l ∧ t.regs = s.regs ∧ t.mem = s.mem
      ∧ (k < s.cores.length → coreOf t none k = trapEnter (2 ^ 63 + 11) 0 true (coreOf s none k))
      ∧ (∀ j, j ≠ k → t.cores[j]? = s.cores[j]?)))
  ∧ ((∀ (o : BitVec 24) (size : Fin 16) (l : List (Hit × Nat)) (s : State), NoneHeld s → PlainRead s (regSpace + o.toNat) size l →
    ∃ t, exec (.inboundRead ⟨0, o⟩ size) s = .next t
      ∧ t.out = s.out ++ [.readData 2 (regSpace + o.toNat) fOK (readReach s (.whole l))] ∧ t.regs = s.regs ∧ t.mem = s.mem)
  ∧ (∀ (o : BitVec 24) (size : Fin 16) (s : State), NoneHeld s → evcOn s → accessCode s (regSpace + o.toNat) size ≠ fOK →
    ∃ t, exec (.inboundRead ⟨0, o⟩ size) s = .next t ∧ pendBit t 328 = true
      ∧ rd t HBR_RDERR_CODE = accessCode s (regSpace + o.toNat) size
      ∧ Emit.readData 2 (regSpace + o.toNat) (accessCode s (regSpace + o.toNat) size)
          (codeData (accessCode s (regSpace + o.toNat) size) size) ∈ t.out
      ∧ FieldsSameBut [HBR_RDERR_CODE, HBR_RDERR_ADDR, HBR_RDERR_COUNT] s t ∧ MemSame s t)
  ∧ (∀ (b : Fin 3) (o : BitVec 24) (size : Fin 16) (s : State), NoneHeld s → b ≠ 0 →
    (barCode o.toNat size = fOK →
      ∃ t, exec (.inboundRead ⟨b, o⟩ size) s = .next t ∧ t.out = s.out ++ [.readData 2 o.toNat fOK (barRead s b o.toNat size)]
        ∧ (b = 1 → barRead s b o.toNat size = 0) ∧ t.regs = s.regs ∧ t.mem = s.mem)
    ∧ (barCode o.toNat size ≠ fOK → evcOn s →
      ∃ t, exec (.inboundRead ⟨b, o⟩ size) s = .next t ∧ pendBit t 328 = true ∧ rd t HBR_RDERR_CODE = fSIZE
        ∧ FieldsSameBut [HBR_RDERR_CODE, HBR_RDERR_ADDR, HBR_RDERR_COUNT] s t ∧ MemSame s t))
  ∧ (∀ (n : Fin 64) (data : BitVec 64) (s : State), NoneHeld s →
    ∃ t, exec (.registerWrite .host (.msix (BitVec.ofNat 13 (16 * n + 8))) 8 data) s = .next t
      ∧ rd t (I.HBR_MSIXDATA n) = data.toNat % 2 ^ 32 ∧ on t (I.HBR_MSIXMASK n) = data.getLsbD 32
      ∧ FieldsSameBut [I.HBR_MSIXDATA n, I.HBR_MSIXMASK n] s t ∧ MemSame s t)
  ∧ (∀ (size : Fin 16) (data : BitVec 64) (s : State), NoneHeld s →
    exec (.registerWrite .host .atomic size data) s = .next (emit .unsupportedRequest s)
      ∧ exec (.registerWrite .host .poisoned size data) s = .next (emit .poisonedReport s))
  ∧ (∀ (w : Writer) (data : BitVec 64) (s : State), NoneHeld s → on s HBR_LOCKST_HELD = false →
    ∃ t, exec (.registerWrite w (.space (BitVec.ofNat 40 PWR_WAKETIME.addr)) 4 data) s = .next t
      ∧ rd t PWR_WAKETIME = data.toNat % 2 ^ 32 ∧ FieldsSameBut [PWR_WAKETIME] s t ∧ MemSame s t)
  ∧ (∀ (a : BitVec 40) (size : Fin 16) (data : BitVec 64) (s : State), NoneHeld s → on s HBR_LOCKST_HELD = false →
      accessCode s a.toNat size ≠ fOK →
    ∃ t, exec (.registerWrite .userCore (.space a) size data) s = .next t ∧ Emit.writeError 0 a.toNat (accessCode s a.toNat size) ∈ t.out
      ∧ FieldsSameBut [] s t ∧ MemSame s t)
  ∧ (∀ (w : Writer) (a : BitVec 40) (size : Fin 16) (data : BitVec 64) (s : State), NoneHeld s → w ≠ .host →
      blockLocked s (blockOf a.toNat) = true →
    ∃ t, exec (.registerWrite w (.space a) size data) s = .next t ∧ t.heldAcc = [⟨w, a.toNat, size, some data.toNat⟩]
      ∧ t.regs = s.regs ∧ t.mem = s.mem)
  ∧ (∀ (w : Writer) (a : BitVec 40) (data : Word) (h : Hit) (s : State), NoneHeld s → on s HBR_LOCKST_HELD = false →
      accessCode s a.toNat 4 = fOK → reach a.toNat 4 = some (.half h) → h.high = false →
    ∃ t, exec (.registerHalfAccess w a (some data)) s = .next t ∧ t.halves = [⟨w, h.addr, true, data.toNat, upNow s⟩]
      ∧ t.regs = s.regs ∧ t.mem = s.mem))

/-- Outbound reads that fail are recorded in HBR_OBERR with event 331, a load of the slices then gets DECODE and 0; one broken
off is issued again up to 15 times; a host half left alone and a lock left too long are broken with event 330; a lock of the
host takes a block and gives it back. The INIT number 17 of the ring engine is the model's choice (log entry 67). RDREG answers
the register's value, RDMEM and RDLOG move the bytes of memory and of the log, WRREG and WRMEM write, QUENCH sets the switch's
or a channel's registers (its refusal for other targets with BADARG and the split of a memory command are the model's choice,
log entry 66); a doorbell of a ring in use sets its TAIL, one of no ring is counted with event 325. -/
def Obligations.AccessCommands : Prop :=
  ((∀ (addr : BitVec 40) (kind : Fin 3) (s : State), evcOn s → obLink s = true ∨ on s (EVC_ROUTE_HOST 331) = false →
    (∃ t, exec (.outboundReadTimeout 17 addr) s = .next t ∧ rd t HBR_OBERR_STATUS = 4 ∧ rd t HBR_OBERR_INIT = 17
      ∧ rd t HBR_OBERR_ADDR = addr.toNat ∧ pendBit t 331 = true
      ∧ FieldsSameBut [HBR_OBERR_STATUS, HBR_OBERR_INIT, HBR_OBERR_ADDR] s t ∧ MemSame s t)
    ∧ (∃ t, exec (.outboundReadError 17 kind addr) s = .next t ∧ rd t HBR_OBERR_STATUS = kind.val + 1
      ∧ rd t HBR_OBERR_ADDR = addr.toNat ∧ pendBit t 331 = true ∧ MemSame s t))
  ∧ (∀ (addr : BitVec 40) (r : OutRead) (s : State), obEnds s obSlices addr.toNat = some r →
      r.since + 1000 * rd s HBR_CPLTO_TIMEOUT ≤ upNow s → obLink s = true ∨ on s (EVC_ROUTE_HOST 331) = false →
    ∃ t, exec (.outboundReadTimeout 16 addr) s = .next t ∧ rd t HBR_OBERR_STATUS = 4 ∧ Emit.readData 0 r.addr fDECODE 0 ∈ t.out
      ∧ (∀ x ∈ t.outReads, ¬ (x.init = obSlices ∧ x.own = r.own ∧ x.core = r.core ∧ x.addr = r.addr)))
  ∧ (∀ (init : Fin 17) (o : BitVec 24) (size : Fin 16) (r : OutRead) (s : State), NoneHeld s → obOpen s init = some r →
      r.since + 2000 ≤ upNow s → r.retries + 1 < 16 →
    ∃ t, exec (.crossingDeadlockBreak init o size) s = .next t
      ∧ { r with retries := r.retries + 1, reissue := true, since := upNow s } ∈ t.outReads ∧ MemSame s t)
  ∧ (∀ (init : Fin 17) (r : OutRead) (s : State), s.outReads.find? (fun r => r.init == init.val && r.reissue) = some r →
      r.since + 1000 ≤ upNow s → obCode s r.addr = fOK →
    ∃ t, exec (.readReissue init) s = .next t ∧ { r with reissue := false, since := upNow s } ∈ t.outReads ∧ t.regs = s.regs ∧ t.mem = s.mem)
  ∧ (∀ (x : HalfAccess) (s : State), s.heldAcc = [] → s.regq = [] → x ∈ s.halves → x.writer = .host → x.since + 1000 ≤ upNow s →
      evcOn s →
    ∃ t, exec .halfLockTimeout s = .next t ∧ (∀ x ∈ t.halves, x.writer ≠ .host) ∧ on t HBR_LOCKST_BROKEN = true
      ∧ pendBit t 330 = true ∧ FieldsSameBut [HBR_LOCKST_BROKEN] s t ∧ MemSame s t)
  ∧ (∀ (block : BitVec 8) (time : BitVec 5) (s : State), WriteTaken .host HBR_LOCK_GO 1 s → isOwner s 0 = true →
      lockBarred block.toNat = false → on s HBR_LOCKST_HELD = false →
    ∃ t, exec (.hostLockGo .host block time) s = .next t ∧ on t HBR_LOCKST_HELD = true ∧ rd t HBR_LOCKST_BLOCK = block.toNat
      ∧ blockLocked t block.toNat = true ∧ MemSame s t
      ∧ rd t HBR_LOCK_TIME = min 20 (max 1 time.toNat)
      ∧ FieldsSameBut [HBR_LOCK_BLOCK, HBR_LOCK_TIME, HBR_LOCKST_RESULT, HBR_LOCKST_HELD, HBR_LOCKST_BLOCK, I.HBR_LOCKT] s t)
  ∧ (∀ s : State, WriteTaken .host HBR_LOCK_UNLOCK 1 s → s.heldAcc = [] → s.regq = [] →
    ∃ t, exec (.hostUnlock .host) s = .next t ∧ on t HBR_LOCKST_HELD = false ∧ FieldsSameBut [HBR_LOCKST_HELD] s t
      ∧ MemSame s t)
  ∧ (∀ s : State, on s HBR_LOCKST_HELD = true → rd s I.HBR_LOCKT + 1000 * rd s HBR_LOCK_TIME ≤ upNow s →
      s.heldAcc = [] → s.regq = [] → evcOn s →
    ∃ t, exec .hostLockTimeout s = .next t ∧ on t HBR_LOCKST_HELD = false ∧ on t HBR_LOCKST_BROKEN = true
      ∧ pendBit t 330 = true ∧ FieldsSameBut [HBR_LOCKST_HELD, HBR_LOCKST_BROKEN] s t ∧ MemSame s t))
  ∧ ((∀ (ref : CmdRef) (a : BitVec 40) (size : BitVec 32) (l : List (Hit × Nat)) (s : State), Permitted ref 0x10 s →
      (size = 4 ∨ size = 8) → regionOf a.toNat = .registers → fwWaits s a.toNat = false → PlainRead s a.toNat size.toNat l →
    ∃ t, exec (.rdreg ref a size) s = .next t ∧ t.regs = s.regs ∧ t.mem = s.mem
      ∧ (∃ c ∈ t.cpls, c.ref = ref ∧ c.opcode = 0x10 ∧ c.status = cOK ∧ c.result = readReach s (.whole l)))
  ∧ (∀ (ref : CmdRef) (a : BitVec 40) (n : BitVec 32) (s : State), Permitted ref 0x11 s → n.toNat ≤ 65536 →
      a.toNat + n.toNat ≤ 0x800000000 → islandOn s 9 = true → slicesHeld s = false → (ref.session = 0 → obLink s = true) →
    ∃ t, exec (.rdmem ref a n true) s = .next t ∧ Returned s t ref 0x11 (memRead s a.toNat n.toNat)
      ∧ t.regs = s.regs ∧ t.mem = s.mem)
  ∧ (∀ (ref : CmdRef) (arg0 n : BitVec 32) (s : State), Permitted ref 0x13 s → 32 ≤ n.toNat → (ref.session = 0 → obLink s = true) →
    ∃ t, exec (.rdlog ref arg0 n true) s = .next t ∧ t.regs = s.regs ∧ t.mem = s.mem
      ∧ Returned s t ref 0x13 (if bit arg0.toNat 31 then logEntries s true (bits arg0.toNat 0 8) (n.toNat / 32)
          else logEntries s false (bits arg0.toNat 0 31) (n.toNat / 32)))
  ∧ (∀ (ref : CmdRef) (a : BitVec 40) (size data : BitVec 32) (s : State), Permitted ref 0x34 s → (size = 4 ∨ size = 8) →
      regionOf a.toNat = .registers → fwWaits s a.toNat = false →
    ∃ t, exec (.wrreg ref a size data) s = .next t
      ∧ t.regs = (storeNow (.firmware ref.session) a.toNat size.toNat data.toNat (markPassed ref s)).1.regs
      ∧ (∃ c ∈ t.cpls, c.ref = ref ∧ c.opcode = 0x34
          ∧ (c.status = cOK ↔ (storeNow (.firmware ref.session) a.toNat size.toNat data.toNat (markPassed ref s)).2 = fOK)))
  ∧ (∀ (ref : CmdRef) (a : BitVec 40) (buf : Option (List Byte)) (l : List Byte) (s : State), Permitted ref 0x35 s →
      cmdBytes (markPassed ref s) ref buf = some l → l.length ≤ 65536 →
      a.toNat + l.length ≤ 0x800000000 → islandOn s 9 = true → slicesHeld s = false → Inv s →
    ∃ t, exec (.wrmem ref a buf) s = .next t ∧ memRead t a.toNat l.length = l
      ∧ MemSameOutside a.toNat (a.toNat + l.length) s t ∧ Completed t ref 0x35 cOK ∧ t.regs = s.regs)
  ∧ (∀ (ref : CmdRef) (arg0 arg1 : BitVec 32) (s : State), Permitted ref 0x29 s →
      fwBlockWaits s (quenchBlock arg0.toNat) = false →
    (bits arg0.toNat 28 4 = 0 → islandOn s 11 = true →
      ∃ t, exec (.quench ref arg0 arg1) s = .next t ∧ Completed t ref 0x29 cOK ∧ MemSame s t
        ∧ on t (BBS_QUENCH_INDROP (bits arg0.toNat 0 2)) = bit arg1.toNat 7
        ∧ rd t (BBS_QUENCH_CLASSES (bits arg0.toNat 0 2)) = bits arg1.toNat 0 7)
    ∧ (bits arg0.toNat 28 4 = 1 → islandOn s (15 + bits arg0.toNat 0 2) = true →
      ∃ t, exec (.quench ref arg0 arg1) s = .next t ∧ (quenchKey (bits arg0.toNat 0 2) (bits arg0.toNat 2 3), ref) ∈ t.waiting ∧ MemSame s t
        ∧ rd t (JLA_QUENCH_MODE (bits arg0.toNat 0 2) (bits arg0.toNat 2 3)) = min (bits arg1.toNat 30 2) 2)
    ∧ (2 ≤ bits arg0.toNat 28 4 →
      ∃ t, exec (.quench ref arg0 arg1) s = .next t ∧ Completed t ref 0x29 cBADARG ∧ t.regs = s.regs ∧ t.mem = s.mem))
  ∧ (∀ (idx : BitVec 12) (filled : List (Option (List Word))) (late : Bool) (s : State), NoneHeld s →
    (∀ d : Fin 8192, d.val < 16 → on s (HBR_RP_CFG_EN d) = true → idx.toNat < rd s (HBR_RP_CFG_CMDENT d) →
      ∃ t, exec (.doorbellWrite d idx filled late) s = .next t ∧ rd t (I.HBR_TAIL d) = idx.toNat)
    ∧ (∀ d : Fin 8192, 80 ≤ d.val → evcOn s →
      ∃ t, exec (.doorbellWrite d idx filled late) s = .next t ∧ rd t HBR_DBERR_INDEX = d ∧ pendBit t 325 = true
        ∧ on t HBR_FENCE_FAIL = true)))

/-! The reshuffle DMA (chapter 15) -/

/-- What each mode moves: a copy through an intermediate buffer, a repeated pattern (byte a of the pattern by absolute address,
the model's reading, log entry 62), bit planes, element planes, and back. Channels: a start fetches the first descriptor, from
the module's memory at once and from the host's by an outbound read, or is kept while a run lasts; TAIL, CLRHALT, ABORT and the
enable; an abort that completes leaves IDLE, or HALTED where its write-back fails; a completed descriptor is written back, ends
the run or halts the channel. -/
def Obligations.DmaDescriptors : Prop :=
  ((∀ (n : Fin 16) (d : DDesc) (s : State), DmaMoves s n d 0 →
    ∃ t, exec (.copy n) s = .next t ∧ DmaMoved s t n d ∧ memRead t d.dst d.len = (dmaGet d.src d.len s).1)
  ∧ (∀ (n : Fin 16) (d : DDesc) (s : State), DmaMoves s n d 1 →
    ∃ t, exec (.fill n) s = .next t ∧ DmaMoved s t n d
      ∧ ∀ i, i < d.len → Memory.read t.mem (d.dst + i) = fillByte d (d.dst + i))
  ∧ (∀ (n : Fin 16) (d : DDesc) (s : State), DmaMoves s n d 2 →
    ∃ t, exec (.transpose n) s = .next t ∧ DmaMoved s t n d
      ∧ ∀ b k, b < 8 * d.count → k < 64 → bit (memNat t (d.dst + 8 * b) 8) k
          = if k < d.k then (dmaByte s (fieldAddr d d.src k + b / 8)).getLsbD (b % 8)
            else d.keep && bit (memNat s (d.dst + 8 * b) 8) k)
  ∧ (∀ (n : Fin 16) (d : DDesc) (s : State), DmaMoves s n d 3 → d.count ≤ d.stride →
    ∃ t, exec (.untranspose n) s = .next t ∧ DmaMoved s t n d
      ∧ ∀ b k, b < 8 * d.count → k < d.k → (Memory.read t.mem (fieldAddr d d.dst k + b / 8)).getLsbD (b % 8)
          = bit (leBytes (dmaGet (d.src + 8 * b) 8 s).1) k)
  ∧ (∀ (n : Fin 16) (d : DDesc) (s : State), DmaMoves s n d 4 →
    ∃ t, exec (.deinterleave n) s = .next t ∧ DmaMoved s t n d
      ∧ ∀ j k, j < d.count → k < d.k → memRead t (d.dst + d.esz * (d.pitch * j + k)) d.esz
          = (dmaGet (fieldAddr d d.src k + d.esz * j) d.esz s).1)
  ∧ (∀ (n : Fin 16) (d : DDesc) (s : State), DmaMoves s n d 5 → d.esz * d.count ≤ d.stride →
    ∃ t, exec (.interleave n) s = .next t ∧ DmaMoved s t n d
      ∧ ∀ j k, j < d.count → k < d.k → memRead t (fieldAddr d d.dst k + d.esz * j) d.esz
          = (dmaGet (d.src + d.esz * (d.pitch * j + k)) d.esz s).1))
  ∧ ((∀ (w : Writer) (n : Fin 16) (s : State), WriteTaken w (DMA_CH_CTRL_GO n) 1 s → on s (DMA_CH_CFG_RING n) = false →
    (∀ a : Nat, dcState s n = dcIDLE → Inv s → a = 32 * rd s (DMA_CH_CHAIN_BASE n 0) → 0 < rd s DMA_CHAINLIM_LIMIT →
      (regionOf a ≠ .outbound → memCode s a = fOK →
          (on s (DMA_CH_CFG_REUSE n) = true ∨ (dDesc (dmaWords (dmaGet a 32 s).1)).own = true) →
        ∃ t, exec (.dmaGo w n) s = .next t ∧ dcState t n = dcACTIVE ∧ MemSame s t
          ∧ (dch t n).words = some (dmaWords (dmaGet a 32 s).1))
      ∧ (regionOf a = .outbound → obCode s a = fOK →
        ∃ t, exec (.dmaGo w n) s = .next t ∧ dcState t n = dcACTIVE ∧ MemSame s t ∧ (dch t n).words = none
          ∧ t.outReads = s.outReads ++ [⟨n, none, 0, a, 32, 0, false, upNow s⟩]))
    ∧ (dcState s n = dcACTIVE → on s (DMA_CH_CTRL_PEND n) = false →
      ∃ t, exec (.dmaGo w n) s = .next t ∧ on t (DMA_CH_CTRL_PEND n) = true ∧ dcState t n = dcACTIVE
        ∧ FieldsSameBut [DMA_CH_CTRL_PEND n] s t ∧ MemSame s t))
  ∧ (∀ (w : Writer) (n : Fin 16) (tail : BitVec 12) (s : State), WriteTaken w (DMA_CH_IDX_TAIL n) tail.toNat s →
      (on s (DMA_CH_CFG_RING n) = true → tail.toNat < rd s (DMA_CH_RING_ENTRIES n) ∧ dcState s n ≠ dcIDLE) →
    ∃ t, exec (.dmaTailWrite w n tail) s = .next t ∧ rd t (DMA_CH_IDX_TAIL n) = tail.toNat
      ∧ FieldsSameBut [DMA_CH_IDX_TAIL n] s t ∧ MemSame s t)
  ∧ (∀ (w : Writer) (n : Fin 16) (s : State), Inv s → WriteTaken w (DMA_CH_CTRL_ABORT n) 1 s → dcState s n = dcACTIVE →
    ∃ t, exec (.dmaAbort w n) s = .next t ∧ (dch t n).abort = true ∧ FieldsSameBut [] s t ∧ MemSame s t)
  ∧ (∀ (n : Fin 16) (moved : Nat) (ok : Bool) (s : State), (dch s n).abort = true → on s (DMA_CH_CTRL_EN n) = true →
      on s DMA_CTRL_EN = true →
    ∃ t, exec (.dmaAbortComplete n moved ok) s = .next t ∧ (dch t n).abort = false
      ∧ (on s (DMA_CH_CFG_REUSE n) = true → dcState t n = dcIDLE)
      ∧ (on s (DMA_CH_CFG_REUSE n) = false → ok = false → (dch s n).words.isSome = true → dcState t n = dcHALTED))
  ∧ (∀ (w : Writer) (n : Fin 16) (s : State), WriteTaken w (DMA_CH_CTRL_CLRHALT n) 1 s → dcState s n = dcHALTED →
    ∃ t, exec (.dmaClearHalt w n) s = .next t ∧ dcState t n = dcIDLE ∧ bit (rd t DMA_STATUS_HALTED) n = false
      ∧ FieldsSameBut [DMA_CH_CTRL_STATE n, DMA_STATUS_ACTIVE, DMA_STATUS_HALTED] s t ∧ MemSame s t)
  ∧ (∀ (w : Writer) (n : Fin 16) (s : State), WriteTaken w (DMA_CH_CTRL_EN n) 1 s → on s (DMA_CH_CTRL_BUSY_OFF n) = false →
      on s DMA_CTRL_EN = true → dcState s n = dcOFF →
    ∃ t, exec (.dmaChannelEnable w n true) s = .next t ∧ on t (DMA_CH_CTRL_EN n) = true ∧ dcState t n = dcIDLE ∧ MemSame s t)
  ∧ (∀ (w : Writer) (n : Fin 16) (s : State), Inv s → WriteTaken w (DMA_CH_CTRL_EN n) 0 s → dcState s n = dcACTIVE →
    ∃ t, exec (.dmaChannelEnable w n false) s = .next t ∧ on t (DMA_CH_CTRL_EN n) = false
      ∧ on t (DMA_CH_CTRL_BUSY_OFF n) = true ∧ (dch t n).abort = true ∧ MemSame s t)
  ∧ (∀ s : State, on s I.CYC_OUTDUE = true →
    ∃ t, exec .outChainTrigger s = .next t ∧ on t I.CYC_OUTDUE = false ∧ MemSame s t
      ∧ (∀ n : Fin 16, on s (DMA_CH_CFG_RING n) = false → rd s (DMA_CH_CFG_TRIG n) = 2 → dcState s n = dcACTIVE →
          (∀ m : Fin 16, m ≠ n → rd s (DMA_CH_CFG_TRIG m) ≠ 2) → on t (DMA_CH_CTRL_PEND n) = true))
  ∧ (∀ (n : Fin 16) (w : List Nat) (e : Nat × Nat × Nat) (ok : Bool) (s : State), (dch s n).words = some w →
      (dch s n).ended = some e → dcState s n = dcACTIVE → (dch s n).abort = false →
    (on s (DMA_CH_CFG_REUSE n) = true → on s (DMA_CH_CFG_RING n) = false → e.1 = dsOK → (dDesc w).last = true →
        on s (DMA_CH_CTRL_PEND n) = false →
      ∃ t, exec (.descriptorComplete n ok) s = .next t ∧ dcState t n = dcIDLE ∧ rd t (DMA_CH_LASTSTAT_STATUS n) = dsOK
        ∧ ((dDesc w).irq = true → bit (rd t DMA_IRQSTAT_IRQ) n = true) ∧ MemSame s t)
    ∧ (on s (DMA_CH_CFG_REUSE n) = true → e.1 ≠ dsOK → e.1 < 16 → evcOn s →
      ∃ t, exec (.descriptorComplete n ok) s = .next t ∧ dcState t n = dcHALTED ∧ rd t (DMA_CH_LASTSTAT_STATUS n) = e.1
        ∧ pendBit t 356 = true ∧ MemSame s t)
    ∧ (on s (DMA_CH_CFG_REUSE n) = false → DmaPlain s (curAddr s n) → Inv s →
      ∃ t, exec (.descriptorComplete n true) s = .next t ∧ memNat t (curAddr s n) 4 = wbWord (dDesc w) e.1 % 2 ^ 32
        ∧ MemSameOutside (curAddr s n) (curAddr s n + 4) s t))
  ∧ (∀ (n : Fin 16) (moved : Nat) (d : DDesc) (s : State), Inv s → dmaReady s n = some d →
      (obWaits s n = true → obAged s n 64000 = true) →
    ∃ t, exec (.dmaBusTimeout n moved) s = .next t ∧ ∃ r, (dch t n).ended = some (dsBUSTIMEOUT, 0, r)))

/-- The data phase of every mode ends for the descriptor in progress of a channel, whatever its source and destination are,
unless a channel of higher priority goes first (R359) or its outbound read waits to be issued again (R333): with OK, or with
FABRIC and the code of the access that failed. FILL of a register waits for a lock of the host. -/
def Obligations.DmaDataPhases : Prop :=
  ∀ (n : Fin 16) (d : DDesc) (s : State), s.dma.length = 16 → dmaReady s n = some d → dmaOutranked s n = false →
      obRetrying s n = false →
    (d.mode = 0 → ∃ t, exec (.copy n) s = .next t ∧ DataEnded t n)
    ∧ (d.mode = 1 → mustWait .dma d.dst s = false → ∃ t, exec (.fill n) s = .next t ∧ DataEnded t n)
    ∧ (d.mode = 2 → ∃ t, exec (.transpose n) s = .next t ∧ DataEnded t n)
    ∧ (d.mode = 3 → ∃ t, exec (.untranspose n) s = .next t ∧ DataEnded t n)
    ∧ (d.mode = 4 → ∃ t, exec (.deinterleave n) s = .next t ∧ DataEnded t n)
    ∧ (d.mode = 5 → ∃ t, exec (.interleave n) s = .next t ∧ DataEnded t n)

/-- The commands of a DMA channel complete in every state of the channel: GO keeps a second start, fetches the first descriptor
of the chain and goes on with it or halts, and does nothing for a ring or a channel that is OFF or HALTED; TAIL is taken or,
out of range in ring mode, discarded; ABORT and CLRHALT act on an ACTIVE and on a HALTED channel alone; an enable waits while
the channel turns off, and a disable turns every channel off but an ACTIVE one, which it aborts; an abort that completes, a
completed descriptor, an access or a fetch that stays unanswered and the OUT trigger leave the states that Table 15.1 gives. -/
def Obligations.DmaChannelCommands : Prop :=
  (∀ (w : Writer) (n : Fin 16) (s : State), s.dma.length = 16 → WriteTaken w (DMA_CH_CTRL_GO n) 1 s →
    (on s (DMA_CH_CFG_RING n) = true ∨ dcState s n = dcOFF ∨ dcState s n = dcHALTED →
      ∃ t, exec (.dmaGo w n) s = .next t ∧ t.regs = s.regs ∧ t.mem = s.mem ∧ t.dma = s.dma)
    ∧ (on s (DMA_CH_CFG_RING n) = false → dcState s n = dcIDLE →
      ∃ t, exec (.dmaGo w n) s = .next t ∧ rd t (DMA_CH_CURDESC_ADDR n) = rd s (DMA_CH_CHAIN_BASE n 0)
        ∧ (dcState t n = dcACTIVE ∧ ((dch t n).words.isSome = true ∨ obWaits t n = true)
          ∨ dcState t n = dcHALTED ∧ rd t (DMA_CH_LASTSTAT_STATUS n) ∈ [dsCHAINLIMIT, dsDESCREAD, dsNOTOWN]) ∧ MemSame s t)
    ∧ (on s (DMA_CH_CFG_RING n) = false → dcState s n = dcACTIVE → on s (DMA_CH_CTRL_PEND n) = true → evcOn s →
      ∃ t, exec (.dmaGo w n) s = .next t ∧ pendBit t 357 = true ∧ dcState t n = dcACTIVE
        ∧ FieldsSameBut [DMA_CH_CNT_MERGED n] s t ∧ MemSame s t))
  ∧ (∀ (w : Writer) (n : Fin 16) (tail : BitVec 12) (s : State), WriteTaken w (DMA_CH_IDX_TAIL n) tail.toNat s →
    (on s (DMA_CH_CFG_RING n) = false ∨ tail.toNat < rd s (DMA_CH_RING_ENTRIES n) →
      ∃ t, exec (.dmaTailWrite w n tail) s = .next t ∧ rd t (DMA_CH_IDX_TAIL n) = tail.toNat ∧ MemSame s t)
    ∧ (on s (DMA_CH_CFG_RING n) = true → rd s (DMA_CH_RING_ENTRIES n) ≤ tail.toNat →
      ∃ t, exec (.dmaTailWrite w n tail) s = .next t ∧ t.regs = s.regs ∧ t.mem = s.mem ∧ t.dma = s.dma))
  ∧ (∀ (w : Writer) (n : Fin 16) (s : State), s.dma.length = 16 → WriteTaken w (DMA_CH_CTRL_ABORT n) 1 s →
    ∃ t, exec (.dmaAbort w n) s = .next t ∧ t.regs = s.regs ∧ t.mem = s.mem
      ∧ (dcState s n = dcACTIVE → (dch t n).abort = true) ∧ (dcState s n ≠ dcACTIVE → t.dma = s.dma))
  ∧ (∀ (w : Writer) (n : Fin 16) (s : State), WriteTaken w (DMA_CH_CTRL_CLRHALT n) 1 s →
    ∃ t, exec (.dmaClearHalt w n) s = .next t ∧ dcState t n = (if dcState s n = dcHALTED then dcIDLE else dcState s n)
      ∧ FieldsSameBut [DMA_CH_CTRL_STATE n, DMA_STATUS_ACTIVE, DMA_STATUS_HALTED] s t ∧ MemSame s t)
  ∧ (∀ (w : Writer) (n : Fin 16) (s : State), WriteTaken w (DMA_CH_CTRL_EN n) 1 s →
    (on s (DMA_CH_CTRL_BUSY_OFF n) = true →
      ∃ t, exec (.dmaChannelEnable w n true) s = .next t ∧ on t (DMA_CH_CTRL_ENPEND n) = true
        ∧ FieldsSameBut [DMA_CH_CTRL_ENPEND n] s t ∧ MemSame s t)
    ∧ (on s (DMA_CH_CTRL_BUSY_OFF n) = false →
      ∃ t, exec (.dmaChannelEnable w n true) s = .next t ∧ on t (DMA_CH_CTRL_EN n) = true ∧ MemSame s t
        ∧ dcState t n = (if on s DMA_CTRL_EN = true ∧ dcState s n = dcOFF then dcIDLE else dcState s n)))
  ∧ (∀ (w : Writer) (n : Fin 16) (s : State), WriteTaken w (DMA_CH_CTRL_EN n) 0 s → dcState s n ≠ dcACTIVE →
    ∃ t, exec (.dmaChannelEnable w n false) s = .next t ∧ on t (DMA_CH_CTRL_EN n) = false ∧ dcState t n = dcOFF ∧ MemSame s t)
  ∧ (∀ (n : Fin 16) (moved : Nat) (ok : Bool) (s : State), s.dma.length = 16 → (dch s n).abort = true →
    ∃ t, exec (.dmaAbortComplete n moved ok) s = .next t ∧ (dch t n).abort = false ∧ (dch t n).words = none
      ∧ on t (DMA_CH_CTRL_PEND n) = false)
  ∧ (∀ (n : Fin 16) (e : Nat × Nat × Nat) (ok : Bool) (s : State), s.dma.length = 16 → (dch s n).words.isSome = true →
      (dch s n).ended = some e → dcState s n = dcACTIVE → (dch s n).abort = false → e.1 ≠ dsOK → e.1 < 16 →
    ∃ t, exec (.descriptorComplete n ok) s = .next t ∧ dcState t n = dcHALTED ∧ rd t (DMA_CH_LASTSTAT_STATUS n) = e.1)
  ∧ (∀ (n : Fin 16) (moved : Nat) (s : State), s.dma.length = 16 → dmaFetching s n = true → obAged s n 64000 = true → evcOn s →
    ∃ t, exec (.dmaBusTimeout n moved) s = .next t ∧ dcState t n = dcHALTED ∧ rd t (DMA_CH_LASTSTAT_STATUS n) = dsBUSTIMEOUT
      ∧ pendBit t 356 = true ∧ MemSame s t)
  ∧ (∀ (n : Fin 16) (moved : Nat) (d : DDesc) (s : State), s.dma.length = 16 → dmaReady s n = some d →
      (obWaits s n = true → obAged s n 64000 = true) →
    ∃ t, exec (.dmaBusTimeout n moved) s = .next t ∧ ∃ r, (dch t n).ended = some (dsBUSTIMEOUT, 0, r))
  ∧ (∀ s : State, on s I.CYC_OUTDUE = true →
    ∃ t, exec .outChainTrigger s = .next t ∧ on t I.CYC_OUTDUE = false ∧ MemSame s t)

/-! Error log, Gleaner, Granary and update (chapters 19 and 20) -/

/-- The error log: the oldest report opens the next entry of the ring or of the critical area, or coalesces; entries close; the
latched raises are taken; critical entries are acknowledged and cleared; firmware reports as source 511. The Gleaner: its
seconds, its samples, its persists, the clear of its user counts, and additions of firmware to histograms 16 to 31 alone; every
count saturates. -/
def Obligations.ErrorLogAndGleaner : Prop :=
  ((∀ (r : Report) (l : List Report) (s : State), Inv s → on s I.EVC_RELOAD = false → s.evFifo = r :: l → evcOn s →
      rd s I.EVC_WRT ≤ upNow s → s.evOpen.length < 32 → s.evOpen.find? (identical r) = none →
    (r.crit = false → rd s EVC_LOGSTAT_HEAD < 4096 →
      ∃ t, exec .logEntryWrite s = .next t ∧ t.evFifo = l ∧ rd t EVC_LOGSEQ = (rd s EVC_LOGSEQ + 1) % 2 ^ 32
        ∧ rd t EVC_LOGSTAT_HEAD = (rd s EVC_LOGSTAT_HEAD + 1) % 4096
        ∧ memRead t (ringAddr s (rd s EVC_LOGSTAT_HEAD)) 32
            = entryBytes ⟨r, false, rd s EVC_LOGSTAT_HEAD, (rd s EVC_LOGSEQ + 1) % 2 ^ 32, 0, 0⟩ false
        ∧ MemSameOutside (ringAddr s (rd s EVC_LOGSTAT_HEAD)) (ringAddr s (rd s EVC_LOGSTAT_HEAD) + 32) s t)
    ∧ (r.crit = true → rd s EVC_LOGSTAT_CRITUSED < 255 →
      ∃ t, exec .logEntryWrite s = .next t ∧ t.evFifo = l ∧ rd t EVC_LOGSTAT_CRITUSED = rd s EVC_LOGSTAT_CRITUSED + 1
        ∧ on t EVC_LOGSTAT_UNACK = true ∧ pendBit t 504 = true
        ∧ MemSameOutside (critAddr s (rd s EVC_LOGSTAT_CRITUSED)) (critAddr s (rd s EVC_LOGSTAT_CRITUSED) + 32) s t))
  ∧ (∀ (r : Report) (l : List Report) (e : OpenEntry) (s : State), on s I.EVC_RELOAD = false → s.evFifo = r :: l → evcOn s →
      rd s I.EVC_WRT ≤ upNow s → s.evOpen = [e] → identical r e = true → e.rpt < 0xFFFE →
    ∃ t, exec .logEntryWrite s = .next t ∧ t.evFifo = l ∧ FieldsSameBut [I.EVC_WRT] s t ∧ t.mem = s.mem
      ∧ t.evOpen = [{ e with rpt := e.rpt + 1, lastDt := e.rep.to r.at / 1000 }])
  ∧ (∀ (e : OpenEntry) (l : List OpenEntry) (s : State), Inv s → s.evOpen = e :: l → evcOn s →
      rd s I.EVC_WRT ≤ upNow s → 10000000 ≤ e.rep.to (now s) →
    ∃ t, exec .logEntryClose s = .next t ∧ e ∉ t.evOpen
      ∧ FieldsSameBut (I.EVC_WRT :: s.subs.map (fun b => I.HBR_LASTTX b.1)) s t
      ∧ memRead t (entryAddr s e) 32 = entryBytes e (ackedAt s (entryAddr s e))
      ∧ MemSameOutside (entryAddr s e) (entryAddr s e + 32) s t)
  ∧ (∀ s : State, evcOn s →
    ∃ t, exec .eventLatchReplay s = .next t ∧ t.evLatch = [] ∧ rd t I.EVC_LATCHLOST = 0 ∧ MemSame s t
      ∧ ∀ r ∈ s.evLatch, r.source < 512 → pendBit t r.source = true)
  ∧ (∀ (w : Writer) (s : State), Inv s → WriteTaken w EVC_CRITACK_ACK 1 s → rd s EVC_LOGBASE_BASE = EVC_LOGBASE_BASE.rst →
      rd s ACC_AUDHEAD_HEAD < 8192 → rd s EVC_LOGSTAT_CRITUSED ≤ 256 →
    ∃ t, exec (.criticalAck w) s = .next t ∧ on t EVC_LOGSTAT_UNACK = false
      ∧ ∀ p, p < rd s EVC_LOGSTAT_CRITUSED → ackedAt t (critAddr s p) = true)
  ∧ (∀ (w : Writer) (s : State), WriteTaken w EVC_CRITACK_CLR 1 s →
    ∃ t, exec (.criticalClear w) s = .next t ∧ rd t EVC_LOGSTAT_CRITUSED = 0 ∧ on t EVC_LOGSTAT_CRITFULL = false
      ∧ on t EVC_LOGSTAT_UNACK = false ∧ ∀ e ∈ t.evOpen, e.inCrit = false)
  ∧ (∀ (w : Writer) (crit : Bool) (detail : BitVec 48) (s : State), WriteTaken w EVC_FWLOG_DETAIL detail.toNat s →
      s.evFifo.length < 56 →
    ∃ t, exec (.firmwareLog w crit detail) s = .next t ∧ t.evFifo = s.evFifo ++ [critReport (reportNow 511 detail.toNat crit s) s]
      ∧ t.regs = s.regs ∧ t.mem = s.mem))
  ∧ ((∀ s : State, ∃ t, exec .gleanerSecond s = .next t ∧ MemSame s t ∧ FieldsSameBut [GLN_PERSIST_AGE, I.GLN_SMPAGE] s t
      ∧ rd t (GLN_CNT_COUNT 0) = satAdd (GLN_CNT_COUNT 0).width (rd s (GLN_CNT_COUNT 0)) 1
      ∧ (rd s CYC_STATE = 1 → rd t (GLN_CNT_COUNT 1) = satAdd (GLN_CNT_COUNT 1).width (rd s (GLN_CNT_COUNT 1)) 1)
      ∧ rd t GLN_PERSIST_AGE = satAdd GLN_PERSIST_AGE.width (rd s GLN_PERSIST_AGE) 1)
  ∧ (∀ s : State, s.glnCopies.length = 2 → evcOn s →
    (600 ≤ rd s GLN_PERSIST_AGE →
      ∃ t, exec .gleanerPersist s = .next t ∧ rd t GLN_GEN = (rd s GLN_GEN + 1) % 2 ^ 32 ∧ rd t GLN_PERSIST_AGE = 0
      ∧ t.glnCopies[rd t GLN_GEN % 2]? = some ⟨true, rd t GLN_GEN, s.regs.filter (fun p => glnKey p.1)⟩
      ∧ t.glnCopies[(rd t GLN_GEN + 1) % 2]? = s.glnCopies[(rd t GLN_GEN + 1) % 2]? ∧ pendBit t 508 = true ∧ MemSame s t)
    ∧ (∀ w : Writer, WriteTaken w GLN_PERSIST_GO 1 s →
      ∃ t, exec (.gleanerPersistGo w) s = .next t ∧ rd t GLN_GEN = (rd s GLN_GEN + 1) % 2 ^ 32 ∧ rd t GLN_PERSIST_AGE = 0
        ∧ t.glnCopies[rd t GLN_GEN % 2]? = some ⟨true, rd t GLN_GEN, s.regs.filter (fun p => glnKey p.1)⟩
        ∧ pendBit t 508 = true ∧ MemSame s t))
  ∧ (∀ (temp : Int) (rail : Nat) (s : State), 10 ≤ rd s I.GLN_SMPAGE →
    ∃ t, exec (.gleanerSample temp rail) s = .next t ∧ MemSame s t ∧ rd t I.GLN_SMPAGE = 0
      ∧ FieldsSameBut [I.GLN_SMPAGE, GLN_HIST_BIN 2 (glnBin temp (-640) 64), GLN_HIST_BIN 3 (glnBin rail 1600 50)] s t
      ∧ rd t (GLN_HIST_BIN 3 (glnBin rail 1600 50))
          = satAdd (GLN_HIST_BIN 3 0).width (rd s (GLN_HIST_BIN 3 (glnBin rail 1600 50))) 1)
  ∧ (∀ (w : Writer) (s : State), WriteTaken w GLN_UCLR_GO 1 s → rd s I.ACC_AUDCOUNT < 8192 →
    ∃ t, exec (.gleanerUserClear w) s = .next t ∧ (∀ n, n < 128 → rd t (GLN_CNT_COUNT (128 + n)) = 0)
      ∧ (∀ h b, h < 16 → b < 32 → rd t (GLN_HIST_BIN (16 + h) b) = 0)
      ∧ (∀ n, n < 128 → rd t (GLN_CNT_COUNT n) = rd s (GLN_CNT_COUNT n)))
  ∧ (∀ (w : Writer) (h b : Fin 32) (s : State), WriteTaken w GLN_HADD_HIST h s →
    (16 ≤ h.val → ∃ t, exec (.histogramAdd w h b) s = .next t ∧ FieldsSameBut [GLN_HIST_BIN h b] s t ∧ MemSame s t
      ∧ rd t (GLN_HIST_BIN h b) = satAdd (GLN_HIST_BIN h b).width (rd s (GLN_HIST_BIN h b)) 1)
    ∧ (h.val < 16 → exec (.histogramAdd w h b) s = .next s)))

/-- The journal drains record by record into the ring, or breaks with event 496 where a record would overwrite one still
needed; a completed base rewrite becomes the valid base and frees its records; the commissioning lock sets with event 481, and
releases with event 482 in STOP alone. -/
def Obligations.JournalAndLock : Prop :=
  (∀ (r : JRec) (l : List JRec) (s : State), s.journalBuf = r :: l → recsBytes s.journal + recBytes r ≤ 4194304 →
    ∃ t, exec .journalDrain s = .next t ∧ t.journal = s.journal ++ [r] ∧ t.journalBuf = l
      ∧ rd t GRN_SEQ = r.seq % 2 ^ GRN_SEQ.width ∧ MemSame s t)
  ∧ (∀ (r : JRec) (l : List JRec) (s : State), s.journalBuf = r :: l → 4194304 < recsBytes s.journal + recBytes r → evcOn s →
    ∃ t, exec .journalDrain s = .next t ∧ t.journalBuf = [] ∧ on t GRN_STATUS_BRK = true ∧ on t GRN_STATUS_REWRITE = true
      ∧ pendBit t 496 = true ∧ MemSame s t)
  ∧ (∀ s : State, on s GRN_STATUS_REWRITE = true → evcOn s →
    ∃ t, exec .baseRewriteComplete s = .next t ∧ on t GRN_STATUS_REWRITE = false ∧ pendBit t 497 = true
      ∧ rd t GRN_BASESEQ_SB = rd s I.GRN_SBNEXT % 2 ^ GRN_BASESEQ_SB.width ∧ MemSame s t
      ∧ t.journal = s.journal.filter (fun r => decide (rd s I.GRN_SBNEXT < r.seq))
      ∧ (∃ b ∈ t.bases, b.valid = true ∧ b.sb = rd s I.GRN_SBNEXT ∧ b.cells = retainedCells s))
  ∧ (∀ (w : Writer) (s : State), WriteTaken w ACC_LOCK 1 s → evcOn s →
    ∃ t, exec (.commissioningLockSet w) s = .next t ∧ on t ACC_LOCK_LOCKED = true
      ∧ on t ACC_LOCK_ENGAGED = (on s ACC_LOCK_ENGAGED || on s I.BOOTED) ∧ pendBit t 481 = true)
  ∧ (∀ (w : Writer) (s : State), WriteTaken w ACC_LOCK_UNLOCK 1 s → evcOn s →
    (ctlState s = stSTOP → ∃ t, exec (.commissioningLockRelease w) s = .next t ∧ on t ACC_LOCK_LOCKED = false
      ∧ on t ACC_LOCK_ENGAGED = false ∧ pendBit t 482 = true)
    ∧ (ctlState s ≠ stSTOP → ∃ t, exec (.commissioningLockRelease w) s = .next t
      ∧ rd t ACC_LOCK_LOCKED = rd s ACC_LOCK_LOCKED ∧ rd t ACC_LOCK_ENGAGED = rd s ACC_LOCK_ENGAGED))

/-- Staging, activation and confirmation: each command of the sequence with what it leaves, and where it is refused. -/
def Obligations.Update : Prop :=
  (∀ (ref : CmdRef) (kind : Fin 4) (len : BitVec 32) (s : State), MayStart ref 0x40 s → evcOn s →
    (stageBeginCheck s ref.session kind len.toNat = cOK →
      ∃ t, exec (.stageBegin ref kind len) s = .next t ∧ on t UPD_STATUS_LOCKED = true
        ∧ rd t UPD_STATUS_LOCKSESS = ref.session ∧ rd t UPD_STATUS_STAGE = 1 ∧ rd t UPD_STATUS_KIND = kind
        ∧ rd t UPD_STAGED_BYTES = 0 ∧ t.staged = none ∧ Completed t ref 0x40 cOK ∧ pendBit t 484 = true)
    ∧ (stageBeginCheck s ref.session kind len.toNat = cSTAGINGBUSY →
      ∃ t, exec (.stageBegin ref kind len) s = .next t ∧ Completed t ref 0x40 cSTAGINGBUSY ∧ pendBit t 485 = true
        ∧ t.staged = s.staged ∧ rd t UPD_STATUS_LOCKSESS = rd s UPD_STATUS_LOCKSESS ∧ rd t UPD_ERR_STATUS = cSTAGINGBUSY))
  ∧ (∀ (ref : CmdRef) (off : BitVec 32) (bs : List Byte) (s : State), MayStart ref 0x41 s → stageHolder s ref.session = true →
      off.toNat + bs.length ≤ rd s I.UPD_LEN → cmdBytes (markPassed ref s) ref (some bs) = some bs →
    ∃ t, exec (.stageData ref off bs.length (some bs)) s = .next t ∧ Completed t ref 0x41 cOK ∧ rd t UPD_STATUS_STAGE = 1
      ∧ t.stagedRanges = rangesAdd off.toNat (off.toNat + bs.length) s.stagedRanges
      ∧ t.stagedData = stagedPut off.toNat bs s.stagedData ∧ t.staged = none ∧ MemSame s t
      ∧ FieldsSameBut [UPD_STAGED_BYTES, UPD_STATUS_STAGE, I.UPD_HOLDT] s t)
  ∧ (∀ (ref : CmdRef) (off : BitVec 32) (n : Nat) (buf : Option (List Byte)) (s : State), MayStart ref 0x41 s →
    (stageHolder s ref.session = false →
      ∃ t, exec (.stageData ref off n buf) s = .next t ∧ Completed t ref 0x41 cSTAGINGBUSY ∧ t.stagedData = s.stagedData
        ∧ t.staged = s.staged ∧ FieldsSameBut [UPD_ERR_CMD, UPD_ERR_STATUS] s t ∧ MemSame s t)
    ∧ (stageHolder s ref.session = true → rd s I.UPD_LEN < off.toNat + n →
      ∃ t, exec (.stageData ref off n buf) s = .next t ∧ Completed t ref 0x41 cBADARG ∧ t.stagedData = s.stagedData
        ∧ t.staged = s.staged ∧ FieldsSameBut [UPD_ERR_CMD, UPD_ERR_STATUS, I.UPD_HOLDT] s t ∧ MemSame s t))
  ∧ (∀ (ref : CmdRef) (obj : StagedObj) (s : State), MayStart ref 0x42 s → stageHolder s ref.session = false → evcOn s →
    ∃ t, exec (.updateStageEnd ref obj) s = .next t ∧ Completed t ref 0x42 cSTAGINGBUSY ∧ pendBit t 486 = true
      ∧ t.staged = s.staged ∧ FieldsSameBut [UPD_ERR_CMD, UPD_ERR_STATUS] s t ∧ MemSame s t)
  ∧ (∀ (ref : CmdRef) (obj : StagedObj) (s : State), MayStart ref 0x42 s → stageHolder s ref.session = true → evcOn s →
    (stagedCheck s obj = cOK → ∃ t, exec (.updateStageEnd ref obj) s = .next t ∧ rd t UPD_STATUS_STAGE = 2
      ∧ t.staged = some obj ∧ Completed t ref 0x42 cOK ∧ pendBit t 487 = true ∧ MemSame s t)
    ∧ (stagedCheck s obj ≠ cOK → ∃ t, exec (.updateStageEnd ref obj) s = .next t ∧ rd t UPD_STATUS_STAGE = 3
      ∧ Completed t ref 0x42 (stagedCheck s obj) ∧ pendBit t 486 = true ∧ t.slots = s.slots ∧ MemSame s t))
  ∧ (∀ s : State, on s UPD_STATUS_LOCKED = true → rd s I.UPD_HOLDT + 600 * nsPerS ≤ upNow s → evcOn s →
    ∃ t, exec .stagingLockTimeout s = .next t ∧ on t UPD_STATUS_LOCKED = false ∧ pendBit t 492 = true ∧ t.staged = s.staged
      ∧ FieldsSameBut [UPD_STATUS_LOCKED, UPD_STATUS_LOCKSESS] s t ∧ MemSame s t)
  ∧ (∀ (ref : CmdRef) (kind : Fin 4) (revert restart : Bool) (s : State), MayStart ref 0x43 s → evcOn s →
    (activateCheck s ref.session kind revert = cOK → kind.val ≠ 1 → on s I.ROM = false → ctlState s = stRUN →
      ∃ t, exec (.activate ref kind revert restart) s = .next t ∧ on t UPD_STATUS_ACTIVATING = true
        ∧ rd t I.CYC_PENDCMD = 2 ∧ on t CYC_STATE_TRANS = true ∧ Completed t ref 0x43 cOK ∧ pendBit t 488 = true)
    ∧ (∀ (ok : Bool) (c : CredSet), activateCheck s ref.session kind revert = cOK → kind.val = 1 →
        s.staged = some (.creds ok c) →
      ∃ t, exec (.activate ref kind revert restart) s = .next t ∧ t.creds = c ∧ t.prevCreds = s.creds
        ∧ Completed t ref 0x43 cOK ∧ pendBit t 499 = true)
    ∧ (activateCheck s ref.session kind revert ≠ cOK →
      ∃ t, exec (.activate ref kind revert restart) s = .next t
        ∧ Completed t ref 0x43 (activateCheck s ref.session kind revert) ∧ t.creds = s.creds ∧ t.slots = s.slots
        ∧ rd t UPD_SLOTS_EXEC = rd s UPD_SLOTS_EXEC))
  ∧ (∀ (ref : CmdRef) (s : State), MayStart ref 0x44 s → activateRole s ref.session = true → evcOn s →
    (on s UPD_STATUS_TRIAL = true → ∃ t, exec (.confirm ref) s = .next t ∧ on t UPD_STATUS_TRIAL = false
      ∧ Completed t ref 0x44 cOK ∧ pendBit t 490 = true)
    ∧ (on s UPD_STATUS_TRIAL = false → ∃ t, exec (.confirm ref) s = .next t ∧ Completed t ref 0x44 cSTATE
      ∧ rd t UPD_SECMIN = rd s UPD_SECMIN))

/-! The controller, forces and online change (chapter 6) -/

/-- Commands of the controller: each accepted one becomes pending or acts at once; a refused one completes with its reason and
changes no state of the controller. Where START is refused, in the order of the rule. -/
def Obligations.ControllerCommands : Prop :=
  ((∀ p ∈ ([(.start, 1), (.stop, 2), (.halt, 3), (.step, 4), (.resume, 5), (.ack, 6)] : List ((CmdRef → Instr) × Nat)),
    ∀ (ref : CmdRef) (s : State), MayStart ref (cycOpcode p.2) s → cycRefusal p.2 ref.session s ≠ cOK →
      ∃ t, exec (p.1 ref) s = .next t ∧ Completed t ref (cycOpcode p.2) (cycRefusal p.2 ref.session s)
        ∧ rd t CYC_CMDSTAT_RESULT = cycRefusal p.2 ref.session s % 2 ^ CYC_CMDSTAT_RESULT.width
        ∧ ctlState t = ctlState s ∧ rd t I.CYC_PENDCMD = rd s I.CYC_PENDCMD)
  ∧ (∀ (ref : CmdRef) (s : State), MayStart ref 0x20 s → cycRefusal 1 ref.session s = cOK → pwState s = pwRUN →
      on s PWR_STATE_TRANS = false → on s PWR_SUPPLY_HOLDUP_RDY = true →
    ∃ t, exec (.start ref) s = .next t ∧ rd t I.CYC_PENDCMD = 1 ∧ on t CYC_STATE_TRANS = true ∧ on t CYC_CTRL_EN = true
      ∧ (0x20, ref) ∈ t.waiting ∧ rd t CYC_CMDSTAT_RESULT = cOK ∧ ctlState t = ctlState s ∧ MemSame s t)
  ∧ (∀ p ∈ ([(.halt, 3), (.step, 4), (.resume, 5)] : List ((CmdRef → Instr) × Nat)),
    ∀ (ref : CmdRef) (s : State), MayStart ref (cycOpcode p.2) s → cycRefusal p.2 ref.session s = cOK →
      ∃ t, exec (p.1 ref) s = .next t ∧ rd t I.CYC_PENDCMD = p.2 ∧ on t CYC_STATE_TRANS = true
        ∧ (cycOpcode p.2, ref) ∈ t.waiting ∧ ctlState t = ctlState s ∧ MemSame s t)
  ∧ (∀ (ref : CmdRef) (s : State), MayStart ref 0x21 s → cycRefusal 2 ref.session s = cOK →
    (ctlState s = stRUN → ∃ t, exec (.stop ref) s = .next t ∧ rd t I.CYC_PENDCMD = 2 ∧ on t CYC_STATE_TRANS = true
      ∧ (0x21, ref) ∈ t.waiting ∧ ctlState t = stRUN ∧ MemSame s t)
    ∧ (ctlState s = stHALT → on s I.CYC_STEPPING = false → on s I.UPD_WARM = false →
      ∃ t, exec (.stop ref) s = .next t ∧ ctlState t = stSTOP ∧ rd t CYC_STATE_STOPCAUSE = 1 ∧ on t CYC_STATE_SAFEOUT = true
        ∧ Completed t ref 0x21 cOK)
    ∧ (ctlState s = stSTOP → ∃ t, exec (.stop ref) s = .next t ∧ rd t I.CYC_PENDCMD = 0 ∧ on t CYC_STATE_TRANS = false
      ∧ Completed t ref 0x21 cOK ∧ ctlState t = stSTOP))
  ∧ (∀ (ref : CmdRef) (s : State), MayStart ref 0x25 s → cycRefusal 6 ref.session s = cOK →
    ∃ t, exec (.ack ref) s = .next t ∧ ctlState t = stSTOP ∧ rd t CYC_STATE_STOPCAUSE = rd s CYC_STATE_STOPCAUSE
      ∧ on t CYC_STATE_SAFEOUT = true ∧ on t EVC_LOGSTAT_UNACK = false ∧ Completed t ref 0x25 cOK))
  ∧ (∀ s : State,
    (ctlState s ≠ stSTOP → startRefusal s = cSTATE)
    ∧ (ctlState s = stSTOP → pairMayRun s = true →
        (on s CYC_STATE_RSTBLOCK = true → startRefusal s = cBLOCKED)
        ∧ (on s CYC_STATE_RSTBLOCK = false → on s I.PWR_OCXOFAIL = false →
            (jlaAlignBad s = true → startRefusal s = cALIGN)
            ∧ (jlaAlignBad s = false → rd s CYC_CHGID = 0 → startRefusal s = cNOPROG)
            ∧ (jlaAlignBad s = false → rd s CYC_CHGID ≠ 0 → on s I.BOOTED = true → startRefusal s = cOK))))

/-- Forces: with no cycle in progress a force takes effect at once, in its entry of the list; in RUN it waits for the next
cycle start; a release frees the entry; a refused force leaves the list as it is. That what waited takes effect once no cycle
is in progress is the model's reading (log entry 42). Period and phase are clamped and written in STOP and else refused with
CFGREF; CKP_WORST clears; an automatic start whose conditions hold becomes pending. -/
def Obligations.ForcesAndSettings : Prop :=
  ((∀ (ref : CmdRef) (space : Fin 8) (index : Fin 2097152) (value : BitVec 32) (s : State), Permitted ref 0x30 s →
      (forceWaits s = true ∨ s.forcePend = []) →
    (∀ i : Nat, evcOn s → forceCheck space index s = 0 → forceWaits s = false →
        (forceFind s space index).orElse (fun _ => forceFree s) = some i →
      ∃ t, exec (.force ref space index value) s = .next t ∧ on t (CYC_FORCE_VALID i) = true
        ∧ rd t (CYC_FORCE_SPACE i) = space ∧ rd t (CYC_FORCE_INDEX i) = index ∧ rd t (CYC_FORCE_VALUE i) = forceWord space value.toNat
        ∧ Completed t ref 0x30 cOK ∧ pendBit t 86 = true)
    ∧ (forceCheck space index s = 0 → forceWaits s = true →
      ∃ t, exec (.force ref space index value) s = .next t
        ∧ t.forcePend = s.forcePend ++ [⟨some ref, false, space, index, forceWord space value.toNat⟩] ∧ t.cpls = s.cpls)
    ∧ (forceCheck space index s ≠ 0 →
      ∃ t, exec (.force ref space index value) s = .next t ∧ Completed t ref 0x30 (forceCheck space index s)
        ∧ t.forcePend = s.forcePend ∧ ∀ i, i < forceMax → rd t (CYC_FORCE_VALID i) = rd s (CYC_FORCE_VALID i)))
  ∧ (∀ (ref : CmdRef) (space : Fin 8) (index : Fin 2097152) (i : Nat) (s : State), Permitted ref 0x31 s → evcOn s →
      forceWaits s = false → s.forcePend = [] → forceFind s space index = some i →
    ∃ t, exec (.unforce ref space index) s = .next t ∧ on t (CYC_FORCE_VALID i) = false ∧ Completed t ref 0x31 cOK
      ∧ pendBit t 87 = true))
  ∧ ((∀ (w : Writer) (v : BitVec 20) (s : State), WriteTaken w CYC_PERIOD v.toNat s →
    (ctlState s = stSTOP → ∃ t, exec (.periodWrite w v) s = .next t ∧ rd t CYC_PERIOD = max 100 (min v.toNat 1000000)
      ∧ on t FIO_STATUS_WDADJ = decide (1000 * rd s FIO_WDT < 2 * rd t CYC_PERIOD)
      ∧ FieldsSameBut [CYC_PERIOD, CYC_PHASE, FIO_STATUS_WDADJ] s t ∧ MemSame s t)
    ∧ (ctlState s ≠ stSTOP → ∃ t, exec (.periodWrite w v) s = .next t ∧ on t CYC_STATUS_CFGREF = true
      ∧ FieldsSameBut [CYC_STATUS_CFGREF] s t ∧ MemSame s t))
  ∧ (∀ (w : Writer) (v : BitVec 30) (s : State), WriteTaken w CYC_PHASE v.toNat s →
    (ctlState s = stSTOP → ∃ t, exec (.phaseWrite w v) s = .next t ∧ rd t CYC_PHASE = v.toNat % cycP s
      ∧ FieldsSameBut [CYC_PHASE] s t ∧ MemSame s t)
    ∧ (ctlState s ≠ stSTOP → ∃ t, exec (.phaseWrite w v) s = .next t ∧ on t CYC_STATUS_CFGREF = true
      ∧ FieldsSameBut [CYC_STATUS_CFGREF] s t ∧ MemSame s t))
  ∧ (∀ (w : Writer) (s : State), WriteTaken w CKP_WORST_CLR 1 s →
    ∃ t, exec (.ckpWorstClear w) s = .next t ∧ rd t CKP_WORST = 0 ∧ FieldsSameBut [CKP_WORST] s t ∧ MemSame s t)
  ∧ (∀ s : State, autoReady s = true → mayAutoStart s = true → pwState s = pwRUN → on s PWR_STATE_TRANS = false →
    ∃ t, exec .autostart s = .next t ∧ rd t I.CYC_PENDCMD = 7 ∧ on t CYC_STATE_TRANS = true ∧ on t CYC_CTRL_EN = true
      ∧ MemSame s t))

/-- Online change: LOAD starts the loader, its completion makes the change loaded, ARM arms it in RUN and switches at once in
STOP. -/
def Obligations.OnlineChange : Prop :=
  (∀ (ref : CmdRef) (c : ChangeSet) (s : State), MayStart ref 0x32 s → roleOk s ref.session 0x32 = true →
      pairStandby s = false → bufReach s ref = true →
    (loadCheck c s = 0 → ∃ t, exec (.load ref (some c)) s = .next t ∧ rd t CYC_CHG_PHASE = 1 ∧ t.chg = some c
      ∧ (0x32, ref) ∈ t.waiting ∧ rd t CYC_CHG_RESULT = 0 ∧ rd t CYC_CHGID = rd s CYC_CHGID)
    ∧ (loadCheck c s ≠ 0 → evcOn s → ∃ t, exec (.load ref (some c)) s = .next t ∧ t.chg = s.chg ∧ pendBit t 91 = true
      ∧ Completed t ref 0x32 (chgStatus (loadCheck c s)) ∧ rd t CYC_CHG_PHASE = rd s CYC_CHG_PHASE)
    ∧ (∃ t, exec (.load ref none) s = .next t ∧ Completed t ref 0x32 cBUFERR ∧ t.chg = s.chg
      ∧ rd t CYC_CHG_PHASE = rd s CYC_CHG_PHASE ∧ rd t CYC_CHG_BANK = rd s CYC_CHG_BANK))
  ∧ (∀ (c : ChangeSet) (s : State), s.chg = some c → rd s CYC_CHG_PHASE = 1 → loaderRuns s = true →
      pairedSync s = false → evcOn s →
    ∃ t, exec (.loadComplete false) s = .next t ∧ rd t CYC_CHG_PHASE = 2 ∧ pendBit t 89 = true
      ∧ (∀ w ∈ s.waiting, w.1 = 0x32 → Completed t w.2 0x32 cOK) ∧ rd t CYC_CHG_BANK = rd s CYC_CHG_BANK)
  ∧ (∀ (ref : CmdRef) (verifies : Bool) (s : State), MayStart ref 0x33 s → roleOk s ref.session 0x33 = true →
      pairStandby s = false → rd s CYC_CHG_PHASE = 2 →
    (ctlState s = stRUN → ∃ t, exec (.arm ref verifies) s = .next t ∧ rd t CYC_CHG_PHASE = 3 ∧ on t I.CHG_ARMED = true
      ∧ (0x33, ref) ∈ t.waiting ∧ rd t CYC_CHG_BANK = rd s CYC_CHG_BANK)
    ∧ (∀ c : ChangeSet, ctlState s = stSTOP → s.chg = some c → evcOn s →
      ∃ t, exec (.arm ref true) s = .next t ∧ rd t CYC_CHGID = c.newId % 2 ^ CYC_CHGID.width
        ∧ rd t CYC_CHG_BANK = (1 - rd s CYC_CHG_BANK) % 2 ∧ rd t CYC_CHG_PHASE = 4 ∧ pendBit t 90 = true
        ∧ Completed t ref 0x33 cOK))

/-! The control cycle (chapters 5 and 6) -/

/-- The start of a cycle: in RUN the next start is counted and its deadline is due; a pending START enters RUN; the fabric
counter takes over from a failed trigger and hands back. The log window: step 4 begins (late beyond a tolerance of 8 ns or by
the command's word, log entry 126), the window opens with an empty log, stages follow one another, tasks end, and the verdict
is requested with the window closed. -/
def Obligations.CycleStart : Prop :=
  ((∀ s : State, on s I.HELD = false → on s I.BOOTED = true → prState s ≠ prPROMOTING → ctlState s = stRUN →
      on s I.CYC_DLDUE = false → rd s I.CYC_PENDCMD = 0 → rd s I.CYC_TMIN ≤ nextT0 s →
      (solo s && on s (I.SLC_STOPPED 0)) = false →
    ∃ t, exec .cycleStart s = .next t ∧ rd t CYC_COUNT_STARTS = (rd s CYC_COUNT_STARTS + 1) % 2 ^ CYC_COUNT_STARTS.width
      ∧ on t I.CYC_IN = true ∧ on t I.CYC_DLDUE = true ∧ rd t CYC_T0_NSEC = nextT0 s % nsPerS ∧ ctlState t = stRUN
      ∧ t.forcePend = [])
  ∧ (∀ s : State, on s I.HELD = false → on s I.BOOTED = true → prState s ≠ prPROMOTING → on s I.CYC_DLDUE = false →
      rd s I.CYC_PENDCMD = 1 → startDue s = true → (solo s && on s (I.SLC_STOPPED 0)) = false →
    ∃ t, exec .cycleStart s = .next t ∧ ctlState t = stRUN ∧ rd t I.CYC_PENDCMD = 0 ∧ rd t CYC_COUNT_STARTS = 1
      ∧ on t CYC_STATE_TRANS = false ∧ on t I.CYC_IN = true ∧ (∀ w ∈ s.waiting, w.1 = 0x20 → Completed t w.2 0x20 cOK))
  ∧ (∀ s : State, on s TIM_STATUS_FAIL = false → evcOn s →
    ∃ t, exec .cycleTriggerFailed s = .next t ∧ on t TIM_STATUS_FAIL = true ∧ pendBit t 268 = true ∧ MemSame s t
      ∧ (ctlState s = stRUN → on t CYC_STATUS_FABTRIG = true ∧ (on s CYC_STATUS_FABTRIG = false → pendBit t 93 = true))
      ∧ FieldsSameBut [TIM_STATUS_FAIL, CYC_STATUS_FABTRIG] s t)
  ∧ (∀ s : State, ∃ t, exec .cycleTriggerRestored s = .next t ∧ on t TIM_STATUS_FAIL = false
      ∧ on t CYC_STATUS_FABTRIG = false ∧ FieldsSameBut [TIM_STATUS_FAIL, CYC_STATUS_FABTRIG, I.CYC_TMIN] s t ∧ MemSame s t))
  ∧ ((∀ (late : Bool) (s : State), on s I.CYC_IN = true → on s I.CYC_INRUN = false → newT0 s + rd s TIM_TRIG_DELAY ≤ now s →
      (∀ c, c < 4 → bufferClosed s c = true) → evcOn s →
    ∃ t, exec (.inChainTrigger late) s = .next t ∧ on t I.CYC_INRUN = true
      ∧ (newT0 s + rd s TIM_TRIG_DELAY + 8 < now s ∨ late = true ∧ newT0 s + rd s TIM_TRIG_DELAY < now s → pendBit t 267 = true))
  ∧ (∀ s : State, on s I.CYC_IN = true → on s I.CYC_INRUN = true → on s I.CYC_WAITPREV = false → dmaInDone s = true →
    (rd s I.CYC_PH = 0 → (solo s && on s (I.SLC_STOPPED 0)) = false → (nextStage s 0).isSome = true →
      ∃ t, exec .logWindowOpen s = .next t ∧ rd t I.CYC_PH = 1 ∧ on t CKP_STATUS_LOGOPEN = true ∧ on t I.CYC_IN = false
        ∧ t.undo = [] ∧ t.regq = [] ∧ t.stalled = [] ∧ rd t CYC_STATUS_STAGE = (nextStage s 0).getD 0)
    ∧ (rd s I.CYC_PH ≠ 0 → ∃ t, exec .logWindowOpen s = .next t ∧ on t I.CYC_WAITPREV = true ∧ t.undo = s.undo ∧ MemSame s t
      ∧ FieldsSameBut (I.CYC_WAITPREV :: (List.range 32).map (GLN_HIST_BIN 5)) s t))
  ∧ (∀ s : State, rd s I.CYC_PH = 1 → stageEnded s = true →
    (∀ m : Nat, nextStage s (rd s CYC_STATUS_STAGE + 1) = some m →
      ∃ t, exec .stageEnd s = .next t ∧ rd t I.CYC_PH = 1 ∧ rd t CYC_STATUS_STAGE = m ∧ MemSame s t)
    ∧ (nextStage s (rd s CYC_STATUS_STAGE + 1) = none → safetyStage s (rd s CYC_STATUS_STAGE) = false →
      ∃ t, exec .stageEnd s = .next t ∧ rd t I.CYC_PH = 2 ∧ on t I.CKP_VREQ = true ∧ on t CKP_STATUS_LOGOPEN = false
        ∧ MemSame s t))
  ∧ (∀ (c : Fin 4) (status : BitVec 8) (s : State), rd s I.CYC_PH = 1 → on s (I.CORE_TASK c) = true → s.stalled = [] →
    (status = 0 → ∃ t, exec (.taskEnd c status) s = .next t ∧ on t (I.CORE_TASK c) = false ∧ FieldsSameBut [I.CORE_TASK c] s t
      ∧ MemSame s t)
    ∧ (status ≠ 0 → evcOn s → ∃ t, exec (.taskEnd c status) s = .next t ∧ on t CYC_STATUS_TASKERR = true
      ∧ rd t CYC_STATUS_TASKCODE = status.toNat ∧ on t I.CKP_PROGFAULT = true ∧ rd t I.CYC_PH = 2 ∧ pendBit t 85 = true
      ∧ MemSame s t)))

/-- Verdict, restore and commit: a clean window commits, a program fault restores and fails; a restore puts the logged lines
back and re-executes, or fails the cycle; the commit point numbers the checkpoint and empties the log. Step 4 of the commit:
every dirty line of the output working copy stands in the committed copy afterwards, and no other byte of memory has changed. -/
def Obligations.VerdictAndCommit : Prop :=
  ((∀ (o : WindowObs) (s : State), rd s I.CYC_PH = 2 → on s I.CKP_VREQ = true → WindowClean s o →
    (on s I.CKP_PROGFAULT = false → ∃ t, exec (.verdict o) s = .next t ∧ rd t I.CYC_PH = 3 ∧ on t I.CKP_VREQ = false
      ∧ t.recs = [] ∧ rd t I.WNW_WINDOW = (rd s I.WNW_WINDOW + 1) % 2 ^ I.WNW_WINDOW.width
      ∧ FieldsSameBut [I.CKP_VREQ, I.WNW_WINDOW, I.WNW_NAMED, I.WNW_NAMESRC, I.WNW_INJ, I.CYC_PH] s t ∧ MemSame s t)
    ∧ (on s I.CKP_PROGFAULT = true → on s CKP_STATUS_NONRB = false → evcOn s →
      ∃ t, exec (.verdict o) s = .next t ∧ rd t I.CYC_PH = 4 ∧ rd t I.CYC_CAUSE = 4 ∧ pendBit t 69 = true ∧ t.qDirty = []
        ∧ t.regq = [] ∧ t.cores = (validBank s).cores.map (fun c => { c with resv := none })
        ∧ t.sol.acc = (validBank s).acc ∧ MemSame s t))
  ∧ (∀ s : State, rd s I.CYC_PH = 4 → on s I.CYC_WAITPREV = false → on s I.UPD_WARM = false → s.forcePend = [] →
    (rd s I.CYC_CAUSE = 0 → mayReexecute s = true → on s I.CYC_LATE = false → (solo s && on s (I.SLC_STOPPED 0)) = false →
        (nextStage s 0).isSome = true →
      ∃ t, exec .restoreComplete s = .next t ∧ rd t I.CYC_PH = 1 ∧ on t CKP_STATUS_REEXEC = true ∧ t.undo = []
        ∧ on t CKP_STATUS_LOGOPEN = true
        ∧ (∀ e : LogEntry, Inv s → s.undo = [e] → e.valid = true → e.seqlo = (rd s CKP_SEQ + 1) % 65536 →
            memRead t e.addr e.data.length = e.data ∧ MemSameOutside e.addr (e.addr + e.data.length) s t))
    ∧ (rd s I.CYC_CAUSE = 4 → ctlState s = stRUN → rd s I.CYC_PENDCMD = 0 →
        rd s CKP_STATUS_FAILCOUNT + 1 < rd s CKP_CTRL_FAILLIM →
      ∃ t, exec .restoreComplete s = .next t ∧ rd t I.CYC_PH = 0 ∧ rd t CKP_STATUS_LASTRES = 4 ∧ ctlState t = stRUN
        ∧ rd t CKP_STATUS_FAILCOUNT = min 15 (rd s CKP_STATUS_FAILCOUNT + 1) ∧ rd t CKP_SEQ = rd s CKP_SEQ ∧ t.undo = []))
  ∧ (∀ s : State, rd s I.CYC_PH = 3 → s.regq = [] → on s I.CYC_WAITPREV = false → on s I.UPD_WARM = false →
    ∃ t, exec .commitPoint s = .next t ∧ rd t CKP_SEQ = (rd s CKP_SEQ + 1) % 2 ^ CKP_SEQ.width ∧ rd t I.CYC_PH = 0
      ∧ rd t CKP_STATUS_FAILCOUNT = 0 ∧ t.undo = [] ∧ t.qDirty = [])
  ∧ (∀ s : State, ∃ t, exec .deltaSent s = .next t ∧ on t I.CKP_DELTABUSY = false ∧ FieldsSameBut [I.CKP_DELTABUSY] s t
      ∧ MemSame s t))
  ∧ (∀ s : State, Inv s → (∀ l ∈ s.qDirty, l < 512) →
    (∀ l ∈ s.qDirty, memRead (commitQ s) (imgQC + 64 * l) 64 = memRead s (imgQ + 64 * l) 64)
    ∧ (∀ a, (∀ l ∈ s.qDirty, a < imgQC + 64 * l ∨ imgQC + 64 * l + 64 ≤ a) →
        Memory.read (commitQ s).mem a = Memory.read s.mem a))

/-- The deadline of a cycle that still solves is an overrun: it is counted, event 81 is raised and the restore begins with
LASTRES 5 to come; in a commit or restore it is noted as late; without a cycle in progress nothing happens but that it has
passed. The overrun watchdog of a late commit still in progress stops the controller in FAULT with cause 0x10 and event 84. The
corners of log entries 49 and 71 to 73 are the model's readings. -/
def Obligations.Overruns : Prop :=
  (∀ s : State, on s I.CYC_DLDUE = true → on s I.CYC_IN = false →
    (rd s I.CYC_PH = 1 → on s CKP_STATUS_NONRB = false → evcOn s →
      ∃ t, exec .deadline s = .next t ∧ on t CYC_STATUS_OVERRUN = true ∧ rd t I.CYC_PH = 4 ∧ rd t I.CYC_CAUSE = 5
        ∧ rd t CYC_OVR_OVERRUN = satAdd CYC_OVR_OVERRUN.width (rd s CYC_OVR_OVERRUN) 1 ∧ pendBit t 81 = true
        ∧ t.undo = s.undo ∧ MemSame s t)
    ∧ (2 ≤ rd s I.CYC_PH → ∃ t, exec .deadline s = .next t ∧ on t I.CYC_LATE = true ∧ on t I.CYC_DLDUE = false
      ∧ FieldsSameBut [I.CYC_DLDUE, I.CYC_LATE] s t ∧ MemSame s t)
    ∧ (rd s I.CYC_PH = 0 → ∃ t, exec .deadline s = .next t ∧ on t I.CYC_DLDUE = false ∧ FieldsSameBut [I.CYC_DLDUE] s t
      ∧ MemSame s t))
  ∧ (∀ s : State, on s I.CYC_LATE = true → rd s I.CYC_PH = 3 → ctlState s = stRUN → on s I.UPD_WARM = false → evcOn s →
    ∃ t, exec .overrunWatchdog s = .next t ∧ ctlState t = stFAULT ∧ rd t CYC_STATE_STOPCAUSE = 0x10
      ∧ on t CYC_STATE_SAFEOUT = true ∧ pendBit t 84 = true ∧ rd t I.CYC_PENDCMD = 0)

/-! Slices and the Winnower (chapter 4) -/

/-- Divergences: the end of a clean window changes nothing but what belongs to the window; with three slices a minority is
fenced, and without a majority the record says so and the checkpoint is restored (what WNW_DIVINFO shows in the corners is the
model's reading, log entry 27); an ECC error and an injection are noted for the window that they fall into; a lost PLL, a
parity error and the scrub fence a slice at once; the scrub repairs a page of the program store with two slices. What the vote
decides: equal records are clean; with three slices a single different one is the minority, as is a slice named in the window,
or one into which a divergence is injected; two that are named leave no majority; a slice alone is not compared. -/
def Obligations.Divergences : Prop :=
  ((∀ (o : WindowObs) (s : State), WindowClean s o →
    ∃ t, exec (.signatureWindowEnd o) s = .next t ∧ rd t I.WNW_WINDOW = (rd s I.WNW_WINDOW + 1) % 2 ^ I.WNW_WINDOW.width
      ∧ t.recs = [] ∧ FieldsSameBut [I.WNW_WINDOW, I.WNW_NAMED, I.WNW_NAMESRC, I.WNW_INJ] s t ∧ MemSame s t)
  ∧ (∀ (o : WindowObs) (k src : Nat) (s : State), k < 3 → windowVote s o = .minority k src → o.rails = 0 →
      faultedSolvers s o = 0 → (∀ j, j < 3 → probationDiff s o j = 0) → rd s I.CYC_PH ≠ 3 → evcOn s →
    ∃ t, exec (.signatureWindowEnd o) s = .next t ∧ participates t k = false
      ∧ bit (rd t SLC_MODE_FENCED) k = true ∧ pendBit t (32 + k) = true ∧ on t WNW_DIVINFO_NOMAJ = false
      ∧ rd t WNW_DIVINFO_SLICES = 2 ^ k ∧ MemSame s t)
  ∧ (∀ (o : WindowObs) (m src : Nat) (s : State), windowVote s o = .noMajority m src → o.rails = 0 → faultedSolvers s o = 0 →
      (∀ j, j < 3 → probationDiff s o j = 0) → rd s I.CYC_PH = 0 → rd s SLC_READMIT_PHASE = 0 → evcOn s →
    ∃ t, exec (.signatureWindowEnd o) s = .next t ∧ on t WNW_DIVINFO_NOMAJ = (partCount s == 3)
      ∧ pendBit t (if partCount s = 3 then 35 else 36) = true
      ∧ t.cores = (validBank s).cores.map (fun c => { c with resv := none })
      ∧ rd t SLC_MODE_PART = rd s SLC_MODE_PART ∧ MemSame s t)
  ∧ (∀ (k : Fin 3) (s : State), evcOn s →
    (uncompared s = false → participates s k = true →
      ∃ t, exec (.eccUncorrectable k) s = .next t ∧ bit (rd t I.WNW_NAMED) k = true ∧ pendBit t 45 = true
        ∧ rd t (SLC_ECC_UNCORR k) = satAdd (SLC_ECC_UNCORR k).width (rd s (SLC_ECC_UNCORR k)) 1
        ∧ FieldsSameBut [SLC_ECC_UNCORR k, I.WNW_NAMED, I.WNW_NAMESRC] s t ∧ MemSame s t)
    ∧ (uncompared s = true → probation s k = false → k.val ≠ 0 →
      ∃ t, exec (.eccUncorrectable k) s = .next t ∧ on t (I.SLC_STOPPED k) = true ∧ pendBit t 45 = true
        ∧ FieldsSameBut [SLC_ECC_UNCORR k, I.SLC_STOPPED k] s t ∧ MemSame s t))
  ∧ (∀ (k : Fin 3) (s : State), solo s = false → probation s k = false → partCount s = 3 → rd s I.CYC_PH ≠ 3 → evcOn s →
    (∃ t, exec (.pllLockLost ⟨k.val, by omega⟩) s = .next t ∧ participates t k = false ∧ on t (I.PLL_LOST k) = true
      ∧ pendBit t 48 = true ∧ MemSame s t)
    ∧ (∃ t, exec (.staggerParityError k) s = .next t ∧ participates t k = false ∧ on t WNW_STATUS_PARITY = true
      ∧ pendBit t 42 = true ∧ MemSame s t)
    ∧ (∀ (kind : ScrubKind) (block : List ScrubWord) (src : Nat) (passMs : Option Nat), on s WNW_CTRL_SCRUB_EN = true →
        scrubVote s block = .minority k src →
      ∃ t, exec (.scrubBlock kind block passMs) s = .next t ∧ participates t k = false ∧ pendBit t 43 = true ∧ MemSame s t))
  ∧ (∀ (w : Writer) (k : Fin 3) (s : State), WriteTaken w WNW_CTRL_INJ_GO 1 s → fieldCode s w WNW_CTRL_INJ_SLICE k = fOK →
    ∃ t, exec (.winnowerInject w ⟨k.val, by omega⟩) s = .next t ∧ rd t I.WNW_INJ = k.val + 1
      ∧ rd t WNW_CTRL_INJ_SLICE = k ∧ FieldsSameBut [I.WNW_INJ, WNW_CTRL_INJ_SLICE] s t ∧ MemSame s t)
  ∧ (∀ (k : Fin 3) (s : State), evcOn s → ∃ t, exec (.eccCorrected k) s = .next t ∧ pendBit t 44 = true
      ∧ rd t (SLC_ECC_CORR k) = satAdd (SLC_ECC_CORR k).width (rd s (SLC_ECC_CORR k)) 1
      ∧ FieldsSameBut [SLC_ECC_CORR k] s t ∧ MemSame s t)
  ∧ (∀ s : State, rd s CYC_STATE_STOPCAUSE ≠ 4 → ctlState s = stRUN → on s I.UPD_WARM = false →
    ∃ t, exec (.pllLockLost 3) s = .next t ∧ ctlState t = stSTOP ∧ rd t CYC_STATE_STOPCAUSE = 3
      ∧ on t CYC_STATE_RSTBLOCK = true ∧ on t CYC_STATE_SAFEOUT = true)
  ∧ (∀ (k : Fin 3) (s : State), ∃ t, exec (.pllRelock k) s = .next t ∧ on t (I.PLL_LOST k) = false
      ∧ on t (I.SLC_STOPPED k) = false ∧ FieldsSameBut [I.PLL_LOST k, I.SLC_STOPPED k] s t ∧ MemSame s t)
  ∧ (∀ (kind : ScrubKind) (block : List ScrubWord) (d : Nat) (s : State), on s WNW_CTRL_SCRUB_EN = true →
      scrubVote s block = .clean →
    ∃ t, exec (.scrubBlock kind block (some d)) s = .next t ∧ rd t WNW_SCRUB_PASS_MS = min d 1000
      ∧ FieldsSameBut [WNW_SCRUB_PASS_MS] s t ∧ MemSame s t)
  ∧ (∀ (p : Fin 1024) (block : List ScrubWord) (m src : Nat) (s : State), on s WNW_CTRL_SCRUB_EN = true → partCount s = 2 →
      scrubVote s block = .noMajority m src → s.reload = [] → rd s I.CYC_PH = 0 → on s I.CYC_IN = false →
      Assoc.sorted s.master = true → evcOn s →
    ∃ t, exec (.scrubBlock (.programStore p) block none) s = .next t ∧ pendBit t 43 = true
      ∧ (∀ i, i / 1024 = p.val → Assoc.find i t.prog = Assoc.find i s.master)
      ∧ (rd s SLC_READMIT_PHASE ≠ 2 → rd t SLC_READMIT_DIRTY = rd s SLC_READMIT_DIRTY)
      ∧ FieldsSameBut [WNW_SCRUB_RESYNC, SLC_READMIT_DIRTY] s t ∧ MemSame s t))
  ∧ ((∀ (a b : SliceAct) (r : Fin 8) (s : State), solo s = false → partCount s = 3 → rd s I.WNW_NAMED = 0 → rd s I.WNW_INJ = 0 →
    voteWindow s ⟨[a, a, a], r, 0⟩ = .clean
    ∧ (diffStream (sliceSig s ⟨[a, a, b], r, 0⟩ 0) (sliceSig s ⟨[a, a, b], r, 0⟩ 2) ≠ 0 →
      (∃ src, voteWindow s ⟨[a, a, b], r, 0⟩ = .minority 2 src) ∧ (∃ src, voteWindow s ⟨[b, a, a], r, 0⟩ = .minority 0 src)
        ∧ (∃ src, voteWindow s ⟨[a, b, a], r, 0⟩ = .minority 1 src)))
  ∧ (∀ (a : SliceAct) (r : Fin 8) (k : Fin 3) (s : State), solo s = false → partCount s = 3 →
    (rd s I.WNW_INJ = 0 → rd s I.WNW_NAMED = 2 ^ k.val →
      voteWindow s ⟨[a, a, a], r, 0⟩ = .minority k (rd s I.WNW_NAMESRC))
    ∧ (rd s I.WNW_INJ = 0 → rd s I.WNW_NAMED = 7 - 2 ^ k.val →
      voteWindow s ⟨[a, a, a], r, 0⟩ = .noMajority (7 - 2 ^ k.val) (rd s I.WNW_NAMESRC))
    ∧ (rd s I.WNW_INJ = k.val + 1 → rd s I.WNW_NAMED = 0 → voteWindow s ⟨[a, a, a], r, 0⟩ = .minority k 1))
  ∧ (∀ (o : WindowObs) (s : State), uncompared s = true → voteWindow s o = .clean)
  ∧ (∀ x y : Nat × Nat × Nat, diffStream x y = 0 ↔ x = y))

/-- Joins: the guard stops the copy; a complete copy makes the join READY, or, while the controller stands, a participant at
once (the model's reading, log entry 40); a time-out tries again or marks the slice failed. A mode request is refused with its
reason, becomes pending in RUN, and takes effect at once while the controller stands and no slice has to join. SLC_FAILED
clears bits that are set. The self-test passes without a change, or masks the comparator that fails with event 40. -/
def Obligations.JoinsAndModes : Prop :=
  (∀ s : State, rd s SLC_READMIT_PHASE = 2 →
    (∃ t, exec .copyGuardReached s = .next t ∧ on t I.SLC_COPYSTOP = true ∧ FieldsSameBut [I.SLC_COPYSTOP] s t ∧ MemSame s t)
    ∧ (on s I.SLC_COPYSTOP = false → copyDone s = true → ctlStopped s = false →
      ∃ t, exec (.joinCopyComplete false) s = .next t ∧ rd t SLC_READMIT_PHASE = 3
        ∧ (∀ x ∈ t.caches, x.slice ≠ 3) ∧ FieldsSameBut [SLC_READMIT_PHASE] s t ∧ MemSame s t)
    ∧ (on s I.SLC_COPYSTOP = false → 2 ≤ partCount s → ctlStopped s = false → evcOn s →
      ∃ t, exec (.joinCopyComplete true) s = .next t ∧ rd t SLC_READMIT_PHASE = 0 ∧ pendBit t 38 = true ∧ MemSame s t)
    ∧ (on s I.SLC_COPYSTOP = false → copyDone s = true → ctlStopped s = true → on s SLC_MODE_REQPEND = false → evcOn s →
      ∃ t, exec (.joinCopyComplete false) s = .next t ∧ rd t SLC_READMIT_PHASE = 0 ∧ pendBit t 37 = true
        ∧ rd t SLC_MODE_PART = Nat.lor (rd s SLC_MODE_PART) (rd s SLC_READMIT_SLICES) % 8 ∧ MemSame s t)
    ∧ (64 ≤ rd s SLC_READMIT_CYCLES → rd s SLC_READMIT_TRIES + 1 < max 1 (rd s SLC_READCFG_MAXTRY) → ctlStopped s = false → evcOn s →
        rd s SLC_READMIT_TRIES < 15 →
      ∃ t, exec .joinTimeout s = .next t ∧ rd t SLC_READMIT_PHASE = 0
        ∧ rd t SLC_READMIT_TRIES = (rd s SLC_READMIT_TRIES + 1) % 2 ^ SLC_READMIT_TRIES.width ∧ pendBit t 38 = true
        ∧ rd t SLC_FAILED = rd s SLC_FAILED ∧ MemSame s t)
    ∧ (64 ≤ rd s SLC_READMIT_CYCLES → max 1 (rd s SLC_READCFG_MAXTRY) ≤ rd s SLC_READMIT_TRIES + 1 → evcOn s →
      ∃ t, exec .joinTimeout s = .next t ∧ rd t SLC_READMIT_PHASE = 0 ∧ pendBit t 39 = true
        ∧ rd t SLC_FAILED = Nat.lor (rd s SLC_FAILED) (rd s SLC_READMIT_SLICES) % 8 ∧ MemSame s t))
  ∧ (∀ (ref : CmdRef) (mode : Fin 4) (s : State), MayStart ref 0x26 s →
      (roleOk s ref.session 0x26 && pairStandby s) = false →
    (modeCheck ref.session mode s ≠ 0 → ∃ t, exec (.mode ref mode) s = .next t
      ∧ Completed t ref 0x26 (modeStatus (modeCheck ref.session mode s))
      ∧ rd t SLC_MODESTAT_RESULT = modeCheck ref.session mode s ∧ rd t SLC_MODE = rd s SLC_MODE
      ∧ rd t SLC_MODE_REQPEND = rd s SLC_MODE_REQPEND)
    ∧ (modeCheck ref.session mode s = 0 → ctlStopped s = false →
      ∃ t, exec (.mode ref mode) s = .next t ∧ on t SLC_MODE_REQPEND = true ∧ rd t SLC_MODE_REQMODE = mode
        ∧ (0x26, ref) ∈ t.waiting ∧ rd t SLC_MODE = rd s SLC_MODE)
    ∧ (modeCheck ref.session mode s = 0 → ctlStopped s = true → modeJoins s mode = 0 → evcOn s →
      ∃ t, exec (.mode ref mode) s = .next t ∧ rd t SLC_MODE = mode ∧ on t SLC_MODE_REQPEND = false
        ∧ rd t SLC_MODE_PART = Nat.land (rd s SLC_MODE_PART) (modeSlices mode) % 8 ∧ Completed t ref 0x26 cOK
        ∧ pendBit t 46 = true))
  ∧ (∀ (w : Writer) (m : Fin 8) (s : State), WriteTaken w SLC_FAILED m s → rd s SLC_FAILED < 8 →
    ∃ t, exec (.sliceFailedClear w m) s = .next t ∧ (Nat.land (rd s SLC_FAILED) m ≠ 0 → rd t SLC_READMIT_TRIES = 0) ∧ MemSame s t
      ∧ rd t SLC_FAILED = rd s SLC_FAILED - Nat.land (rd s SLC_FAILED) m)
  ∧ (∀ s : State, ∃ t, exec (.winnowerSelfTest 0 0) s = .next t ∧ FieldsSameBut [I.WNW_TESTSLICE] s t ∧ MemSame s t)
  ∧ (∀ (k : Fin 3) (s : State), rd s WNW_STATUS_CMP_OK = 7 → solo s = false → partCount s = 3 → evcOn s →
    ∃ t, exec (.winnowerSelfTest 0 ⟨2 ^ k.val % 8, Nat.mod_lt _ (by decide)⟩) s = .next t
      ∧ rd t WNW_STATUS_CMP_OK = 7 - 2 ^ k.val ∧ on t WNW_STATUS_MASKED = true ∧ pendBit t 40 = true ∧ ctlState t = ctlState s
      ∧ MemSame s t)

/-! Jalora (chapters 9 and 10) -/

/-- Enabling, disabling and the protocol states of a channel: a configuration that passes every check enters LISTEN, any other
is refused with its number; LISTEN and BACKOFF end in COLDSTART, this in NORMAL, RESTART in LISTEN. -/
def Obligations.JaloraStates : Prop :=
  (∀ (w : Writer) (c : Fin 4) (s : State), Inv s → WriteTaken w (JLA_CTRL_EN c) 1 s → on s (JLA_CTRL_EN c) = false →
      on s (JLA_CTRL_BUSY_OFF c) = false →
    (cfgErr (trimsClear c s) c = 0 → ∃ t, exec (.jlaEnable w c) s = .next t ∧ on t (JLA_CTRL_EN c) = true
      ∧ jState t c = jlLISTEN ∧ rd t (JLA_CTRL_CFGERR c) = 0 ∧ (jch t c).live = false ∧ (jch t c).kept = []
      ∧ (jch t c).releasing = (jch s c).releasing)
    ∧ (cfgErr (trimsClear c s) c ≠ 0 → evcOn s → ∃ t, exec (.jlaEnable w c) s = .next t ∧ on t (JLA_CTRL_EN c) = false
      ∧ rd t (JLA_CTRL_CFGERR c) = cfgErr (trimsClear c s) c ∧ pendBit t (143 + 32 * c) = true
      ∧ FieldsSameBut [JLA_CTRL_CFGERR c] s t ∧ t.mem = (trimsClear c s).mem))
  ∧ (∀ (w : Writer) (c : Fin 4) (s : State), WriteTaken w (JLA_CTRL_EN c) 0 s → on s (JLA_CTRL_EN c) = true →
    ∃ t, exec (.jlaDisable w c) s = .next t ∧ on t (JLA_CTRL_DISPEND c) = true ∧ on t (JLA_CTRL_EN c) = true
      ∧ FieldsSameBut [JLA_CTRL_ENPEND c, JLA_CTRL_DISPEND c] s t ∧ MemSame s t)
  ∧ (∀ (c : Fin 4) (s : State), Inv s → evcOn s →
    (jState s c = jlLISTEN → ∃ t, exec (.listenTimeout c) s = .next t ∧ jState t c = jlCOLD ∧ (jch t c).nt = now s
      ∧ pendBit t (144 + 32 * c) = true ∧ MemSame s t)
    ∧ (jState s c = jlBACK → ∃ t, exec (.backoffEnd c) s = .next t ∧ jState t c = jlCOLD ∧ (jch t c).nt = now s
      ∧ pendBit t (144 + 32 * c) = true ∧ MemSame s t)
    ∧ (jState s c = jlCOLD → 8 ≤ (jch s c).clean → ∃ t, exec (.coldstartComplete c) s = .next t ∧ jState t c = jlNORMAL
      ∧ FieldsSameBut [JLA_SYNCSTAT_STATE c] s t ∧ MemSame s t)
    ∧ (jState s c = jlRESTART → 9 ≤ (jch s c).silent → ∃ t, exec (.restartComplete c) s = .next t ∧ jState t c = jlLISTEN
      ∧ (jch t c).live = false ∧ FieldsSameBut [JLA_SYNCSTAT_STATE c] s t ∧ MemSame s t))
  ∧ (∀ (c : Fin 4) (path : Fin 2) (up : Bool) (s : State), evcOn s →
      on s (if path.val = 0 then JLA_STATUS_LINKA c else JLA_STATUS_LINKB c) ≠ up →
    ∃ t, exec (.jaloraLinkChange c path up) s = .next t
      ∧ on t (if path.val = 0 then JLA_STATUS_LINKA c else JLA_STATUS_LINKB c) = up
      ∧ pendBit t (128 + 32 * c + 2 * path + b2n up) = true ∧ MemSame s t
      ∧ FieldsSameBut [if path.val = 0 then JLA_STATUS_LINKA c else JLA_STATUS_LINKB c] s t)

/-- A TXRDY names the buffer to switch to, or raises event 10 of the channel where that one is in use; the mailbox is taken; a
QUENCH register is written; counters clear at the next round; delay trims move by the mean of their samples, rounded half away
from zero (the model's choice, log entry 75); a grant that idles or is revoked ends with event 27 of the channel, and its slot
is free after its release. -/
def Obligations.JaloraBuffersAndGrants : Prop :=
  (∀ (w : Writer) (c : Fin 4) (b : Fin 2) (s : State), Inv s → WriteTaken w (JLA_TXRDY_BUF c) b s →
    ((on s (JLA_CTRL_EN c) && rd s (JLA_STATUS_TXBUF c) == b.val) = false →
      ∃ t, exec (.txrdy w c b) s = .next t ∧ on t (I.JLA_RDY c) = true ∧ rd t (I.JLA_RDYBUF c) = b ∧ (jch t c).txok = true
        ∧ FieldsSameBut [I.JLA_RDY c, I.JLA_RDYBUF c, I.JLA_EMPTY c] s t ∧ MemSame s t)
    ∧ ((on s (JLA_CTRL_EN c) && rd s (JLA_STATUS_TXBUF c) == b.val) = true → evcOn s →
      ∃ t, exec (.txrdy w c b) s = .next t ∧ pendBit t (138 + 32 * c) = true ∧ FieldsSameBut [] s t ∧ MemSame s t))
  ∧ (∀ (w : Writer) (c : Fin 4) (len : BitVec 7) (s : State), Inv s → WriteTaken w (JLA_MBOXCTL_GO c) 1 s →
      on s (JLA_MBOXCTL_BUSY c) = false →
    ∃ t, exec (.mailboxGo w c len) s = .next t ∧ on t (JLA_MBOXCTL_BUSY c) = true ∧ (jch t c).mboxLen = min len.toNat 64
      ∧ FieldsSameBut [JLA_MBOXCTL_LEN c, JLA_MBOXCTL_BUSY c] s t ∧ MemSame s t)
  ∧ (∀ (w : Writer) (c : Fin 4) (n : Fin 8) (mode : Fin 4) (last first : BitVec 11) (s : State),
      WriteTaken w (JLA_QUENCH_MODE c n) mode s → fieldCode s w (JLA_QUENCH_LAST c n) last.toNat = fOK →
      fieldCode s w (JLA_QUENCH_FIRST c n) first.toNat = fOK →
    ∃ t, exec (.jlaQuenchWrite w c n mode last first) s = .next t ∧ rd t (JLA_QUENCH_MODE c n) = min mode.val 2
      ∧ rd t (JLA_QUENCH_LAST c n) = last.toNat ∧ rd t (JLA_QUENCH_FIRST c n) = first.toNat
      ∧ FieldsSameBut [JLA_QUENCH_MODE c n, JLA_QUENCH_LAST c n, JLA_QUENCH_FIRST c n] s t ∧ MemSame s t)
  ∧ (∀ (w : Writer) (c : Fin 4) (s : State), Inv s → WriteTaken w (JLA_CNTCTL_CLR c) 1 s →
    ∃ t, exec (.jlaCounterClear w c) s = .next t ∧ (jch t c).clrPend = true ∧ t.regs = s.regs ∧ t.mem = s.mem)
  ∧ (∀ (c : Fin 4) (s : State), Inv s → (jch s c).trimDue = true →
    (∃ t, exec (.delayTrimUpdate c) s = .next t ∧ (jch t c).trimDue = false ∧ (jch t c).samples = [])
    ∧ (on s (I.JLA_HOLD c) = true → ∃ t, exec (.delayTrimUpdate c) s = .next t ∧ MemSame s t)
    ∧ (∀ (n : Nat) (path : Fin 2) (sum : Int) (cnt : Nat), on s (I.JLA_HOLD c) = false →
        (jch s c).samples = [(2 * n + path, (sum, cnt))] → 4 ≤ cnt → 2 * cnt ≤ sum.natAbs →
        delayAddr s c n + 16 ≤ 0x800000000 →
      ∃ t, exec (.delayTrimUpdate c) s = .next t
        ∧ delayTrim t c path n = satSigned 16 (delayTrim s c path n + roundDiv (8 * sum) cnt)
        ∧ MemSameOutside (delayAddr s c n + 12 + 2 * path) (delayAddr s c n + 14 + 2 * path) s t))
  ∧ (∀ (c : Fin 4) (i : Fin 64) (s : State), Inv s → evcOn s → i.val < claimCount s c → claimValid s c i = true →
      claimAddr s c i + 16 ≤ 0x800000000 →
    (rd s (JLA_CLAIMCFG_IDLE c) ≤ claimIdle s c i → on s (I.JLA_HOLD c) = false →
      ∃ t, exec (.grantIdleExpiry c i) s = .next t ∧ claimValid t c i = false ∧ pendBit t (155 + 32 * c) = true
        ∧ (claimSlot s c i, 0) ∈ (jch t c).releasing ∧ ⟨claimSlot s c i, 0, 0, 0⟩ ∈ (jch t c).pages
        ∧ MemSameOutside (claimAddr s c i) (claimAddr s c i + 4) s t)
    ∧ (∀ (w : Writer) (slot : BitVec 11), WriteTaken w (JLA_CLAIMREV_SLOT c) slot.toNat s → grantOf s c slot.toNat = some i.val →
      ∃ t, exec (.claimRevoke w c slot) s = .next t ∧ claimValid t c i = false ∧ pendBit t (155 + 32 * c) = true
        ∧ (claimSlot s c i, 0) ∈ (jch t c).releasing ∧ MemSameOutside (claimAddr s c i) (claimAddr s c i + 4) s t))
  ∧ (∀ (c : Fin 4) (slot : BitVec 11) (s : State), Inv s →
    ∃ t, exec (.slotRelease c slot) s = .next t ∧ t.regs = s.regs ∧ t.mem = s.mem
      ∧ ∀ p, p ∈ (jch t c).releasing ↔ p ∈ (jch s c).releasing ∧ ¬ (p.1 = slot.toNat ∧ 64 ≤ p.2))

/-- PoDL: the states of a path, what makes it leave each, and the supply rail that takes power from every path. -/
def Obligations.Podl : Prop :=
  (∀ (w : Writer) (c : Fin 4) (path : Fin 2) (s : State),
    (WriteTaken w (podlEn c path) 0 s → ∃ t, exec (.podlEnableWrite w c path false) s = .next t
      ∧ rd t (podlState c path) = pdOFF ∧ rd t (podlCurrent c path) = 0
      ∧ FieldsSameBut [podlEn c path, podlState c path, podlCurrent c path, podlClass c path] s t ∧ MemSame s t)
    ∧ (WriteTaken w (podlEn c path) 1 s → rd s (podlState c path) = pdOFF → islandPowered s (15 + c) = true →
      ∃ t, exec (.podlEnableWrite w c path true) s = .next t ∧ rd t (podlState c path) = pdDETECT
        ∧ on t (podlEn c path) = true ∧ FieldsSameBut [podlEn c path, podlState c path, podlCurrent c path] s t
        ∧ MemSame s t))
  ∧ (∀ (c : Fin 4) (path : Fin 2) (s : State),
    (rd s (podlState c path) = pdDETECT → ∃ t, exec (.podlDetect c path true) s = .next t
      ∧ rd t (podlState c path) = pdCLASS ∧ FieldsSameBut [podlState c path] s t ∧ MemSame s t)
    ∧ (∀ cls : Fin 32, rd s (podlState c path) = pdCLASS →
      (podlRested s c path = true → ∃ t, exec (.podlClassify c path cls true) s = .next t ∧ rd t (podlState c path) = pdPOWERED
        ∧ rd t (podlClass c path) = cls ∧ rd t (podlCurrent c path) ≤ 250 ∧ MemSame s t
        ∧ FieldsSameBut [podlState c path, podlClass c path, podlCurrent c path] s t)
      ∧ (evcOn s → ∃ t, exec (.podlClassify c path cls false) s = .next t ∧ rd t (podlState c path) = pdREFUSED
        ∧ rd t (podlCurrent c path) = 0 ∧ pendBit t (141 + 32 * c + path) = true ∧ MemSame s t))
    ∧ (rd s (podlState c path) = pdPOWERED → evcOn s → ∃ t, exec (.podlOverload c path) s = .next t
      ∧ rd t (podlState c path) = pdFAULT ∧ rd t (podlCurrent c path) = 0 ∧ pendBit t (141 + 32 * c + path) = true
      ∧ rd t (I.JLA_PODLT (2 * c + path)) = (upNow s + 1) % 2 ^ (I.JLA_PODLT (2 * c + path)).width
      ∧ FieldsSameBut [podlState c path, podlCurrent c path, I.JLA_PODLT (2 * c + path)] s t ∧ MemSame s t)
    ∧ (rd s (podlState c path) = pdFAULT → podlRested s c path = true → ∃ t, exec (.podlFaultRetry c path) s = .next t
      ∧ rd t (podlState c path) = pdDETECT ∧ FieldsSameBut [podlState c path, podlCurrent c path] s t ∧ MemSame s t)
    ∧ (podlRested s c path = false → (rd s (podlState c path) = pdFAULT → exec (.podlFaultRetry c path) s = .next s)
      ∧ ∀ cls : Fin 32, exec (.podlClassify c path cls true) s = .next s)
    ∧ (rd s (podlState c path) = pdUNDERVOLT → ∃ t, exec (.podlUndervoltRecover c path) s = .next t
      ∧ rd t (podlState c path) = pdDETECT ∧ FieldsSameBut [podlState c path, podlCurrent c path] s t ∧ MemSame s t))
  ∧ (∀ s : State, ∃ t, exec .railBelow16v s = .next t ∧ MemSame s t
      ∧ ∀ (c : Fin 4) (path : Fin 2), rd t (podlState c path)
          = if rd s (podlState c path) = pdPOWERED then pdUNDERVOLT else rd s (podlState c path))

/-- Rounds and frames: what the module sends in its slots, what a valid frame leaves, the record of a node after its slot, the
corrections at the end of the static segment, and the round boundary. Which instant counts and roundings are the model's choice
(log entries 75 and 76). -/
def Obligations.JaloraRounds : Prop :=
  (∀ (c : Fin 4) (s : State), jSends s c = true → on s (JLA_CTRL_PATHA_EN c) = true →
    (∃ t, exec (.mgmtSend c) s = .next t ∧ MemSame s t
      ∧ ∃ body, Emit.frame (0x10 + c) 0 (macFrame (jBytes s c (jHeader 3 { sync := true, startup := jState s c == jlCOLD } 0 c 1
          (rd s (JLA_STATUS_ROUND c)) body.length 0) body)) ∈ t.out)
    ∧ (∃ t, exec (.beaconSend c) s = .next t ∧ MemSame s t
      ∧ ∃ info body, Emit.frame (0x10 + c) 0 (macFrame (jBytes s c (jHeader 4 {} 0 c 2 (rd s (JLA_STATUS_ROUND c))
          body.length info) body)) ∈ t.out ∧ body.take 2 = bytesBE 2 (schedId s c))
    ∧ (∀ k : Fin 512, on s (I.JLA_EMPTY c) = false → k.val < rd s (JLA_OUTSLOT_COUNT c) → on s (I.JLA_HOLD c) = false →
      ∃ t, exec (.outputSend c k) s = .next t ∧ t.regs = s.regs ∧ t.mem = s.mem
        ∧ Emit.frame (0x10 + c) 0 (macFrame (jBytes s c (jHeader 2 { safe := on s (JLA_STATUS_SAFE c) } 0 c
            (rd s (JLA_OUTSLOT_FIRST c) + k) (rd s (JLA_STATUS_ROUND c)) 72 (rd s (JLA_OUTSLOT_OWD c) * 256))
            (bytesBE 8 (rd s (JLA_TXSEQ_SEQ c)) ++ memRead s (txBase s c (rd s (JLA_STATUS_TXBUF c)) + 64 * k) 64))) ∈ t.out))
  ∧ (∀ (c : Fin 4) (path : Fin 2) (stamp t0 : Int) (bytes : List Byte) (s : State), Inv s →
      t0 = (stamp * 65536 - ingressCorr s (4 + 2 * c + path)) / 65536 →
      on s (if path.val = 0 then JLA_CTRL_PATHA_EN c else JLA_CTRL_PATHB_EN c) = true → on s (JLA_CTRL_EN c) = true →
      jState s c = jlNORMAL → (jch s c).live = true →
    (∀ slot : Nat, (jParse bytes).dst = 0x034A4C520000 + c → (jParse bytes).ether = 0x88B5 → (jParse bytes).hcrcOk = true →
        jPlace s c t0 = .static slot → inWindow s c t0 (jAp s c slot) = true →
        jRest s c (typeInSlot s c slot (jParse bytes)) (some slot) (jParse bytes) = none → quenched s c slot = false →
        keptOf s c false slot = none → ((jParse bytes).startup = true → slot ≤ 1) →
      ∃ t, exec (.frameReceive c path stamp true bytes) s = .next t
        ∧ ∃ k, keptOf t c false slot = some k ∧ k.payload = (jParse bytes).payload.take (jParse bytes).len ∧ k.path = path.val)
    ∧ (evcOn s → ∃ t, exec (.frameReceive c path stamp false bytes) s = .next t ∧ pendBit t (135 + 32 * c) = true
      ∧ rd t (JLA_ERRCNT_CRC c) = satAdd (JLA_ERRCNT_CRC c).width (rd s (JLA_ERRCNT_CRC c)) 1 ∧ MemSame s t
      ∧ (jch t c).kept = (jch s c).kept))
  ∧ (∀ (c : Fin 4) (n : Fin 512) (s : State), Inv s → (jch s c).live = true → nodeValid s c n = true →
      (jch s c).done.contains n.val = false →
    (on s (I.JLA_HOLD c) = true → ∃ t, exec (.nodeSlotEnd c n) s = .next t ∧ n.val ∈ (jch t c).done ∧ MemSame s t)
    ∧ (∀ x : JKept, on s (I.JLA_HOLD c) = false → keptOf s c false (nodeSlot s c n) = some x → x.typ = 1 →
        rxRecord s c (rd s (JLA_STATUS_RXBUF c)) n + 16 + x.payload.length ≤ 0x800000000 →
      ∃ t, exec (.nodeSlotEnd c n) s = .next t ∧ n.val ∈ (jch t c).done
        ∧ memRead t (rxRecord s c (rd s (JLA_STATUS_RXBUF c)) n + 16) (x.payload.take (rd s (JLA_RECSZ c) - 16)).length
            = x.payload.take (rd s (JLA_RECSZ c) - 16)
        ∧ rxBit t c (rd s (JLA_STATUS_RXBUF c)) 0x40 n = true))
  ∧ (∀ (c : Fin 4) (s : State), Inv s → (jch s c).live = true →
    (rd s (JLA_STATUS_ROUND c) % 2 = 0 → ∃ t, exec (.staticSegmentEnd c) s = .next t ∧ (jch t c).devE = devsNow s c
      ∧ (jch t c).nit = -(jch s c).steer ∧ t.regs = s.regs ∧ t.mem = s.mem)
    ∧ (rd s (JLA_STATUS_ROUND c) % 2 = 1 → ∃ t, exec (.staticSegmentEnd c) s = .next t ∧ (jch t c).devO = devsNow s c
      ∧ rd t (JLA_SYNCSTAT_NSYNC c) = min (devsNow s c).length 15 ∧ MemSame s t
      ∧ ((jch t c).nit + (jch s c).steer).natAbs ≤ rd s (JLA_SYNCCFG_OFFLIM c)))
  ∧ (∀ (c : Fin 4) (s : State), Inv s → on s (JLA_CTRL_EN c) = true → jState s c = jlNORMAL → (jch s c).live = true →
    (on s (JLA_CTRL_DISPEND c) = true → ∃ t, exec (.roundStart c) s = .next t ∧ on t (JLA_CTRL_EN c) = false
      ∧ jState t c = jlOFF ∧ on t (JLA_CTRL_BUSY_OFF c) = true ∧ (jch t c).live = false ∧ (jch t c).kept = [])
    ∧ (on s (JLA_CTRL_DISPEND c) = false → ∃ t, exec (.roundStart c) s = .next t
      ∧ rd t (JLA_STATUS_RXBUF c) = (1 - rd s (JLA_STATUS_RXBUF c)) % 2 ∧ (jch t c).nt = (jch s c).nt + jRoundNs s c
      ∧ (jch t c).live = true ∧ (jch t c).kept = []))

/-! The time unit (chapter 11) -/

/-- States of the time unit: the oven settles, the input is enabled, an edge disciplines or is rejected, seconds are missed,
and holdover ages. Setting the time: where a step is allowed it takes effect at once outside LOCKED, and in LOCKED it waits for
the next accepted edge; where none is allowed it is refused and the time stays. -/
def Obligations.TimeUnit : Prop :=
  ((∀ s : State, on s TIM_STATUS_WARM = false → islandPowered s 19 = true → evcOn s →
    ∃ t, exec .ocxoWarm s = .next t ∧ on t TIM_STATUS_WARM = true ∧ pendBit t 256 = true ∧ MemSame s t
      ∧ (timState s = tmWARMUP → pairStandby s = false →
          timState t = if on s TIM_CTRL_PPS_EN then tmACQUIRE else tmFREERUN))
  ∧ (∀ (w : Writer) (s : State), timState s ≠ tmWARMUP → timState s ≠ tmPAIR →
    (WriteTaken w TIM_CTRL_PPS_EN 0 s → ∃ t, exec (.ppsEnableWrite w false) s = .next t ∧ timState t = tmFREERUN
      ∧ on t TIM_CTRL_PPS_EN = false ∧ now t = now s ∧ MemSame s t)
    ∧ (WriteTaken w TIM_CTRL_PPS_EN 1 s → timState s = tmFREERUN → ∃ t, exec (.ppsEnableWrite w true) s = .next t
      ∧ timState t = tmACQUIRE ∧ on t TIM_CTRL_PPS_EN = true ∧ t.tim.n = 0 ∧ now t = now s ∧ MemSame s t))
  ∧ (∀ (acc : Fin 5) (x sec e : Int) (s : State), timState s = tmLOCKED → s.tim.rejSec = none → s.tim.lastAcc = none →
      s.tim.setPend = none → x = (now s : Int) + acc.val - 2 - rdS s TIM_PPSCFG_INDELAY → sec = (x + 500000000) / 1000000000 →
      e = x - sec * 1000000000 →
    (e.natAbs ≤ 1000 → ∃ t, exec (.ppsEdge acc) s = .next t ∧ rdS t TIM_PPSERR_ERR = e ∧ timState t = tmLOCKED
      ∧ t.tim.lastAcc = some x ∧ t.tim.missCnt = 0 ∧ t.tim.expNext = sec.toNat + 1 ∧ now t = now s ∧ MemSame s t)
    ∧ (1000 < e.natAbs → evcOn s → ∃ t, exec (.ppsEdge acc) s = .next t ∧ pendBit t 260 = true ∧ t.tim.lastAcc = none
      ∧ now t = now s ∧ MemSame s t))
  ∧ (∀ s : State, timState s = tmLOCKED → s.tim.expNext * nsPerS + 1000000 ≤ now s →
    (s.tim.missCnt < 2 → ∃ t, exec .ppsSecondMissing s = .next t ∧ t.tim.missCnt = s.tim.missCnt + 1 ∧ t.regs = s.regs
      ∧ t.mem = s.mem ∧ t.tim.expNext = s.tim.expNext + 1)
    ∧ (2 ≤ s.tim.missCnt → evcOn s → ∃ t, exec .ppsSecondMissing s = .next t ∧ timState t = tmHOLDOVER ∧ pendBit t 258 = true
      ∧ t.tim.slew = 0 ∧ t.tim.holdStart = now s ∧ rd t TIM_HOLDT = 0 ∧ now t = now s ∧ MemSame s t))
  ∧ (∀ s : State, timState s = tmHOLDOVER → on s TIM_STATUS_HOLD1H = false → s.tim.holdStart + 3600 * nsPerS ≤ now s → evcOn s →
    ∃ t, exec .holdover1h s = .next t ∧ on t TIM_STATUS_HOLD1H = true ∧ pendBit t 259 = true ∧ timState t = tmHOLDOVER
      ∧ MemSame s t))
  ∧ ((∀ (ref : CmdRef) (sec : BitVec 64) (ns : BitVec 32) (s : State), Permitted ref 0x36 s → ns.toNat < nsPerS →
      islandOn s 19 = true → fwBlockWaits s 0x20 = false → evcOn s →
    (stepAllowed s = true → timState s ≠ tmLOCKED →
      ∃ t, exec (.timeset ref sec ns) s = .next t ∧ now t = sec.toNat * nsPerS + ns.toNat ∧ on t TIM_STATUS_TIMESET = true
        ∧ Completed t ref 0x36 cOK ∧ pendBit t 261 = true ∧ pendBit t 262 = true
        ∧ rd t TMR_STEPOFS_OFFSET = ofSigned 64 ((rd s TMR_STEPOFS_OFFSET : Int) + (sec.toNat * nsPerS + ns.toNat : Nat) - (now s : Int)))
    ∧ (stepAllowed s = true → timState s = tmLOCKED → NoneWaits 0x36 s →
      ∃ t, exec (.timeset ref sec ns) s = .next t ∧ now t = now s ∧ t.tim.setPend = some sec.toNat ∧ (0x36, ref) ∈ t.waiting
        ∧ t.cpls = s.cpls)
    ∧ (stepAllowed s = false →
      ∃ t, exec (.timeset ref sec ns) s = .next t ∧ now t = now s ∧ on t TIM_STATUS_SETREF = true ∧ Completed t ref 0x36 cSTATE
        ∧ pendBit t 263 = true))
  ∧ (∀ (w : Writer) (ns : BitVec 30) (s : State), WriteTaken w TIM_SETNS_NS ns.toNat s → fieldCode s w TIM_SETNS_GO 1 = fOK →
      stepAllowed s = true → timState s ≠ tmLOCKED → evcOn s →
    ∃ t, exec (.timeSetGo w ns) s = .next t ∧ now t = (rd s TIM_SETSEC * nsPerS + ns.toNat) % (2 ^ 64 * nsPerS)
      ∧ on t TIM_STATUS_TIMESET = true ∧ pendBit t 262 = true))

/-- PTP: Sync, Announce and Pdelay_Req of a port that sends are queued in class 7 with its domain and sequence number; a Sync
that leaves carries its egress stamp, or is followed by a Follow_Up with it; a Delay_Req and a Pdelay_Req are answered with
their ingress stamp, and a Pdelay_Resp to the request last sent gives the peer delay. An Announce of another clock is counted
and raises event 264 at most once per second and port, and nothing else changes. A port's configuration applies when it is
taken. Time-event pins: a ONCE pin is armed for its instant, gives its pulse there and disarms; a PERIODIC pin goes on to its
next instant, and one with too short a period is refused with CFGERR; before its instant no event acts. The 1PPS output is high
for 100 ms from a whole second on. -/
def Obligations.PtpAndPins : Prop :=
  (∀ (n : Fin 4) (p : PtpPort) (s : State), s.tim.ports.length = 4 → p = ptpPort s n →
    (∀ m, m = ptpMake p 0x0 p.domain p.seqSync [] → ptpMaster s n = true → bufferRoom s 7 (bbSize (ptpFrame s m)) = true →
      ∃ t, exec (.ptpSyncSend n) s = .next t ∧ t.bbs = { s.bbs with queue := s.bbs.queue ++ [⟨n, 7, ptpFrame s m, none, none, some m⟩] }
        ∧ (ptpPort t n).seqSync = (p.seqSync + 1) % 65536 ∧ t.regs = s.regs ∧ t.mem = s.mem ∧ t.out = s.out)
    ∧ (∀ m, m = ptpMake p 0xB p.domain p.seqAnn (announceFields s) → ptpMaster s n = true →
        bufferRoom s 7 (bbSize (ptpFrame s m)) = true →
      ∃ t, exec (.ptpAnnounceSend n) s = .next t ∧ t.bbs = { s.bbs with queue := s.bbs.queue ++ [⟨n, 7, ptpFrame s m, none, none, some m⟩] }
        ∧ (ptpPort t n).seqAnn = (p.seqAnn + 1) % 65536 ∧ t.regs = s.regs ∧ t.mem = s.mem ∧ t.out = s.out)
    ∧ (∀ m, m = ptpMake p 0x2 p.domain p.seqPdly [] → ptpSends s n = true → p.proto = 2 ∨ p.proto = 3 →
        bufferRoom s 7 (bbSize (ptpFrame s m)) = true →
      ∃ t, exec (.ptpPdelaySend n) s = .next t ∧ t.bbs = { s.bbs with queue := s.bbs.queue ++ [⟨n, 7, ptpFrame s m, none, none, some m⟩] }
        ∧ (ptpPort t n).seqPdly = (p.seqPdly + 1) % 65536 ∧ t.regs = s.regs ∧ t.mem = s.mem ∧ t.out = s.out)
    ∧ (ptpSends s n = false → exec (.ptpSyncSend n) s = .next s ∧ exec (.ptpAnnounceSend n) s = .next s
        ∧ exec (.ptpPdelaySend n) s = .next s)
    ∧ (∀ (d : Byte) (q : BitVec 16) (x : BitVec 48) (ns : BitVec 32) (c : Int) (two : Bool) (m : PtpMsg),
        islandPowered s 19 = true → portOn s n = true → ptpSends s n = true → d.toNat = p.domain →
      (m = ptpMake p 0x9 d.toNat q.toNat (stampFields (ingressStamp s n) ++ [p.logDreq]) → p.proto ≤ 1 → p.reqSec ≠ rd s TIM_SEC →
          bufferRoom s 7 (bbSize (ptpFrame s m)) = true →
        ∃ t, exec (.ptpMessageReceive n 0x1 d q ⟨x, ns, c, two⟩) s = .next t ∧ t.regs = s.regs ∧ t.mem = s.mem
          ∧ t.bbs = { s.bbs with queue := s.bbs.queue ++ [⟨n, 7, ptpFrame s m, none, none, some m⟩] })
      ∧ (m = ptpMake p 0x3 d.toNat q.toNat (stampFields (ingressStamp s n)) → 2 ≤ p.proto →
          bufferRoom s 7 (bbSize (ptpFrame s m)) = true →
        ∃ t, exec (.ptpMessageReceive n 0x2 d q ⟨x, ns, c, two⟩) s = .next t ∧ t.regs = s.regs ∧ t.mem = s.mem
          ∧ t.bbs = { s.bbs with queue := s.bbs.queue ++ [⟨n, 7, ptpFrame s m, none, none, some m⟩] })
      ∧ (∀ t1, p.t1 = some t1 → 2 ≤ p.proto → q.toNat = (p.seqPdly + 65535) % 65536 →
        ∃ t, exec (.ptpMessageReceive n 0x3 d q ⟨x, ns, c, false⟩) s = .next t ∧ t.regs = s.regs ∧ t.mem = s.mem ∧ t.bbs = s.bbs
          ∧ (ptpPort t n).peer = some ((ingressStamp s n - t1 - c) / 2) ∧ (ptpPort t n).t1 = none)))
  ∧ (∀ (port : Fin 4) (cls : Fin 8) (q : BbQueued) (m f : PtpMsg) (s : State), queueHead s port cls = some q → q.launch = none →
      q.msg = some m → m.kind = 0x0 → portOn s port = true → mayStart s q = true → outranked s port cls = false →
      f = ptpMake (ptpPort s port) 0x8 m.domain m.seq (stampFields (egressStamp s port)) →
    (m.oneStep = true → ∃ t, exec (.backboneFrameTransmit port cls) s = .next t ∧ t.regs = s.regs ∧ t.mem = s.mem
      ∧ t.out = s.out ++ flickers port ++ [.ptp port { m with fields := stampFields (egressStamp s port) }]
      ∧ t.bbs.queue = s.bbs.queue.erase q)
    ∧ (m.oneStep = false → bufferRoom (queueDrop q s) 7 (bbSize (ptpFrame s f)) = true →
      ∃ t, exec (.backboneFrameTransmit port cls) s = .next t ∧ t.regs = s.regs ∧ t.mem = s.mem
        ∧ t.out = s.out ++ flickers port ++ [.ptp port m]
        ∧ t.bbs.queue = s.bbs.queue.erase q ++ [⟨port, 7, ptpFrame s f, none, none, some f⟩]))
  ∧ (∀ (n : Fin 4) (d : Byte) (q : BitVec 16) (x : BitVec 48) (ns : BitVec 32) (c : Int) (two : Bool) (s : State),
      s.tim.ports.length = 4 → islandPowered s 19 = true → portOn s n = true →
    ((ptpPort s n).foreignSec ≠ rd s TIM_SEC + 1 → evcOn s →
      ∃ t, exec (.ptpMessageReceive n 0xB d q ⟨x, ns, c, two⟩) s = .next t ∧ pendBit t 264 = true
        ∧ (ptpPort t n).foreignSec = rd s TIM_SEC + 1
        ∧ rd t TIM_FOREIGN_COUNT = satAdd TIM_FOREIGN_COUNT.width (rd s TIM_FOREIGN_COUNT) 1
        ∧ FieldsSameBut [TIM_FOREIGN_COUNT] s t ∧ MemSame s t)
    ∧ ((ptpPort s n).foreignSec = rd s TIM_SEC + 1 →
      ∃ t, exec (.ptpMessageReceive n 0xB d q ⟨x, ns, c, two⟩) s = .next t
        ∧ rd t TIM_FOREIGN_COUNT = satAdd TIM_FOREIGN_COUNT.width (rd s TIM_FOREIGN_COUNT) 1
        ∧ pendBit t 264 = pendBit s 264 ∧ t.evFifo = s.evFifo ∧ t.tim = s.tim
        ∧ (∀ g : Fld, g.key ≠ TIM_FOREIGN_COUNT.key → rd t g = rd s g) ∧ t.mem = s.mem ∧ t.out = s.out))
  ∧ (∀ (n : Fin 4) (s : State), s.tim.ports.length = 4 →
    ∃ t, exec (.ptpConfigApply n) s = .next t ∧ t.regs = s.regs ∧ t.mem = s.mem ∧ (ptpPort t n).en = on s (TIM_PTP_EN n)
      ∧ (ptpPort t n).proto = rd s (TIM_PTP_PROTO n) ∧ (ptpPort t n).domain = rd s (TIM_PTP_DOMAIN n))
  ∧ (∀ (w : Writer) (n : Fin 4) (safeOff level : Bool) (width : BitVec 16) (s : State), s.tim.te.length = 4 →
      WriteTaken w (TIM_TE_CTRL_ARM n) 1 s →
    (now s + 100 ≤ teTime s n → width ≠ 0 →
      ∃ t, exec (.teArm w n true safeOff level 1 width) s = .next t ∧ on t (TIM_TE_CTRL_ARM n) = true
        ∧ rd t (TIM_TE_CTRL_MODE n) = 1 ∧ rd t (TIM_TE_CTRL_WIDTH n) = width.toNat ∧ (tePin t n).next = some (teTime s n)
        ∧ FieldsSameBut [TIM_TE_CTRL_ARM n, TIM_TE_CTRL_SAFEOFF n, TIM_TE_CTRL_LEVEL n, TIM_TE_CTRL_MODE n, TIM_TE_CTRL_WIDTH n] s t
        ∧ MemSame s t)
    ∧ (rd s (TIM_TE_PERIOD_PERIOD n) < 8 * max 1 width.toNat + 16 →
      ∃ t, exec (.teArm w n true safeOff level 2 width) s = .next t ∧ on t (TIM_TE_CTRL_ARM n) = false
        ∧ on t (TIM_TE_STAT_CFGERR n) = true ∧ MemSame s t))
  ∧ (∀ (n : Fin 4) (d : Nat) (s : State), s.tim.te.length = 4 → (tePin s n).old = [] → (tePin s n).next = some d →
    (d ≤ now s + 8 → on s CYC_STATE_SAFEOUT = false → rd s (TIM_TE_CTRL_MODE n) = 1 →
      ∃ t, exec (.teEvent n) s = .next t ∧ t.out = s.out ++ [.pulse n (8 * rd s (TIM_TE_CTRL_WIDTH n))]
        ∧ on t (TIM_TE_CTRL_ARM n) = false ∧ (tePin t n).next = none ∧ FieldsSameBut [TIM_TE_CTRL_ARM n] s t ∧ MemSame s t)
    ∧ (d ≤ now s + 8 → on s CYC_STATE_SAFEOUT = false → rd s (TIM_TE_CTRL_MODE n) = 2 →
      ∃ t, exec (.teEvent n) s = .next t ∧ t.out = s.out ++ [.pulse n (8 * rd s (TIM_TE_CTRL_WIDTH n))]
        ∧ (tePin t n).next = (if rd s (TIM_TE_PERIOD_PERIOD n) = 0 then none else some (d + rd s (TIM_TE_PERIOD_PERIOD n))) ∧ t.regs = s.regs ∧ t.mem = s.mem)
    ∧ (now s + 8 < d → exec (.teEvent n) s = .next s))
  ∧ (∀ s : State, on s TIM_CTRL_PPSOUT_EN = true → (now s + 8) % nsPerS ≤ 16 →
    ∃ t, exec .ppsOutput s = .next t ∧ t.out = s.out ++ [.pulse 4 100000000] ∧ t.regs = s.regs ∧ t.mem = s.mem)

/-! Backbone switch and CAN gateway (chapters 12 and 14) -/

/-- Frames at the backbone ports: one above 2,000 bytes is dropped and counted; QUENCH drops and counts a frame that enters
with INDROP, and one of a VLAN that the port is no member of is dropped; a unicast frame of a member port goes to the port of
the filtering database's entry, in class min(PCP, 6), and its source is learned; the head of a queue whose gate is open leaves,
and none does from a port that is not up; a launch time more than 1 s ahead or passed by more than LATEWIN drops the frame. -/
def Obligations.BackboneFrames : Prop :=
  (∀ (n : Fin 4) (f : BbFrame) (s : State), portOn s n = true → 2000 < bbSize f →
    ∃ t, exec (.backboneFrameIngress n f) s = .next t ∧ rd t (BBS_ERR_OVERSIZE n) = satAdd 16 (rd s (BBS_ERR_OVERSIZE n)) 1
      ∧ t.bbs = s.bbs ∧ t.mem = s.mem ∧ t.out = s.out ++ flickers n ∧ FieldsSameBut [BBS_ERR_OVERSIZE n] s t)
  ∧ (∀ (n : Fin 4) (f : BbFrame) (vid : Nat) (s : State), portOn s n = true → bbSize f ≤ 2000 → f.kind ≠ .ptp →
      vid = frameVid f (rd s (BBS_PORT_PVID n)) → (mgmtKind s f.kind && bit (destMask s f vid n false) 4) = false →
    (on s (BBS_QUENCH_INDROP n) = true →
      ∃ t, exec (.backboneFrameIngress n f) s = .next t ∧ rd t (BBS_DROP_INDROP n) = satAdd 16 (rd s (BBS_DROP_INDROP n)) 1
        ∧ t.bbs = s.bbs ∧ t.mem = s.mem ∧ FieldsSameBut [BBS_DROP_INDROP n] s t)
    ∧ (on s (BBS_QUENCH_INDROP n) = false → bit (vlanOf s vid).member n = false →
      ∃ t, exec (.backboneFrameIngress n f) s = .next t ∧ t.bbs = s.bbs ∧ t.regs = s.regs ∧ t.mem = s.mem
        ∧ t.out = s.out ++ flickers n))
  ∧ (∀ (n p : Fin 4) (f g : BbFrame) (vid pcp i : Nat) (s : State), portOn s n = true → bbSize f ≤ 2000 → f.kind ≠ .ptp →
      vid = frameVid f (rd s (BBS_PORT_PVID n)) → pcp = framePcp f (rd s (BBS_PORT_DEFPCP n)) →
      bit (vlanOf s vid).member n = true → destMask s f vid n false = 2 ^ p.val → on s (BBS_QUENCH_INDROP n) = false →
      on s (BBS_PORT_LEARN n) = true → bit (f.src / 2 ^ 40) 0 = false → fdbFind s f.src vid = none → fdbFree s = some i →
      s.bbs.streams = [] → g = { f with tag := if bit (vlanOf s vid).untag p then none else some (pcp, vid) } →
      bufferRoom s (min pcp 6) (bbSize g) = true →
    ∃ t, exec (.backboneFrameIngress n f) s = .next t ∧ t.bbs.queue = s.bbs.queue ++ [⟨p, min pcp 6, g, none, none, none⟩]
      ∧ Assoc.find i t.bbs.fdb = some ⟨f.src, vid, false, 2 ^ n.val, upNow s⟩ ∧ t.regs = s.regs ∧ t.mem = s.mem
      ∧ t.out = s.out ++ flickers n)
  ∧ (∀ (port : Fin 4) (cls : Fin 8) (q : BbQueued) (s : State), queueHead s port cls = some q → q.launch = none → q.back = none →
      q.msg = none →
    (portOn s port = true → mayStart s q = true → outranked s port cls = false →
      ∃ t, exec (.backboneFrameTransmit port cls) s = .next t ∧ t.out = s.out ++ flickers port ++ [.frame 0x21 port (bbBytes q.frame)]
        ∧ t.bbs.queue = s.bbs.queue.erase q ∧ t.regs = s.regs ∧ t.mem = s.mem)
    ∧ (portOn s port = false ∨ mayStart s q = false ∨ outranked s port cls = true →
        exec (.backboneFrameTransmit port cls) s = .next s))
  ∧ (∀ (port : Fin 4) (cls : Fin 8) (q : BbQueued) (l : Nat) (s : State), queueHead s port cls = some q → q.launch = some l →
      q.back = none → q.msg = none → bbsOn s = true → evcOn s →
    (now s + nsPerS < l → ∃ t, exec (.launchTimeTransmit port cls) s = .next t ∧ t.bbs.queue = s.bbs.queue.erase q
      ∧ rd t TIM_LAUNCHCNT_FAR = satAdd 16 (rd s TIM_LAUNCHCNT_FAR) 1 ∧ pendBit t 266 = true
      ∧ FieldsSameBut [TIM_LAUNCHCNT_FAR] s t ∧ MemSame s t)
    ∧ (l + 1000 * rd s TIM_LAUNCH_LATEWIN < now s → ∃ t, exec (.launchTimeTransmit port cls) s = .next t
      ∧ t.bbs.queue = s.bbs.queue.erase q ∧ rd t TIM_LAUNCHCNT_LATE = satAdd 16 (rd s TIM_LAUNCHCNT_LATE) 1
      ∧ pendBit t 266 = true ∧ FieldsSameBut [TIM_LAUNCHCNT_LATE] s t ∧ MemSame s t)
    ∧ (l ≤ now s → now s ≤ l + 1000 * rd s TIM_LAUNCH_LATEWIN → portOn s port = true → mayStart s q = true →
        outranked s port cls = false →
      ∃ t, exec (.launchTimeTransmit port cls) s = .next t ∧ t.out = s.out ++ flickers port ++ [.frame 0x21 port (bbBytes q.frame)]
        ∧ t.bbs.queue = s.bbs.queue.erase q ∧ t.regs = s.regs ∧ t.mem = s.mem)
    ∧ (now s < l → l ≤ now s + nsPerS → exec (.launchTimeTransmit port cls) s = .next s))
  ∧ (∀ (w : Writer) (c : Fin 8) (tail : BitVec 12) (s : State), s.bbs.txHead.length = 8 →
      WriteTaken w (BBS_TXTAIL_TAIL c) tail.toNat s → bbsOn s = true → tail.toNat < rd s (BBS_TXRING_ENTRIES c) →
    ∃ t, exec (.txTailWrite w c tail) s = .next t ∧ rd t (BBS_TXTAIL_TAIL c) = tail.toNat
      ∧ t.bbs.txHead.getD c 0 = tail.toNat
      ∧ (tail.toNat = s.bbs.txHead.getD c 0 → t.bbs = s.bbs ∧ t.mem = s.mem ∧ FieldsSameBut [BBS_TXTAIL_TAIL c] s t))

/-- Gate control lists and QUENCH: GO refuses a list with a cycle outside 10 µs to 1 s or an interval under 1 µs, with event
295; a good list waits under PEND for the first instant base + N × cycle at least 1 µs after GO, and at its switch it is in
force, in the other bank, with event 294. A change of a QUENCH register raises event 293. -/
def Obligations.GateLists : Prop :=
  (∀ (w : Writer) (n : Fin 4) (len : BitVec 9) (s : State), WriteTaken w (BBS_GCL_CTRL_GO n) 1 s → evcOn s →
    (rd s (BBS_GCL_CYCLE_CYCLE n) < 10000 ∨ 1000000000 < rd s (BBS_GCL_CYCLE_CYCLE n) →
      ∃ t, exec (.gclGo w n len) s = .next t ∧ on t (BBS_GCL_STAT_CFGERR n) = true ∧ pendBit t 295 = true ∧ t.bbs = s.bbs
        ∧ FieldsSameBut [BBS_GCL_CTRL_LEN n, BBS_GCL_STAT_CFGERR n] s t ∧ MemSame s t)
    ∧ (∀ e, e < clampNat 1 256 len.toNat → (gateEntry s n (1 - rd s (BBS_GCL_CTRL_OPERBANK n)) e).2 < 1000 →
      ∃ t, exec (.gclGo w n len) s = .next t ∧ on t (BBS_GCL_STAT_CFGERR n) = true ∧ pendBit t 295 = true ∧ t.bbs = s.bbs)
    ∧ (10000 ≤ rd s (BBS_GCL_CYCLE_CYCLE n) → rd s (BBS_GCL_CYCLE_CYCLE n) ≤ 1000000000 →
        2000 * rd s BBS_MGMT_MGMTWIN ≤ rd s (BBS_GCL_CYCLE_CYCLE n) → s.bbs.pend.length = 4 →
        (∀ e, e < clampNat 1 256 len.toNat → 1000 ≤ (gateEntry s n (1 - rd s (BBS_GCL_CTRL_OPERBANK n)) e).2) →
      ∃ t, exec (.gclGo w n len) s = .next t ∧ on t (BBS_GCL_CTRL_PEND n) = true
        ∧ rd t (BBS_GCL_CTRL_LEN n) = clampNat 1 256 len.toNat
        ∧ t.bbs.pend.getD n none = some ⟨extend32 (rd s (BBS_GCL_BASE_SEC n)) (rd s TIM_SEC) * nsPerS + rd s (BBS_GCL_BASE_NSEC n),
            rd s (BBS_GCL_CYCLE_CYCLE n), clampNat 1 256 len.toNat,
            gclStart (extend32 (rd s (BBS_GCL_BASE_SEC n)) (rd s TIM_SEC) * nsPerS + rd s (BBS_GCL_BASE_NSEC n))
              (rd s (BBS_GCL_CYCLE_CYCLE n)) (now s)⟩
        ∧ t.bbs.oper = s.bbs.oper ∧ FieldsSameBut [BBS_GCL_CTRL_LEN n, BBS_GCL_CTRL_PEND n] s t ∧ MemSame s t))
  ∧ (∀ (n : Fin 4) (g : GateList) (s : State), s.bbs.pend.getD n none = some g → bbsOn s = true →
    (now s < g.start → exec (.gclSwitch n) s = .next s)
    ∧ (g.start ≤ now s → s.bbs.oper.length = 4 → evcOn s →
    ∃ t, exec (.gclSwitch n) s = .next t ∧ gateList t n = g ∧ t.bbs.pend.getD n none = none
      ∧ rd t (BBS_GCL_CTRL_OPERBANK n) = 1 - rd s (BBS_GCL_CTRL_OPERBANK n) ∧ on t (BBS_GCL_CTRL_PEND n) = false
      ∧ rd t (BBS_GCL_STAT_ENTRY n) = 0 ∧ pendBit t 294 = true
      ∧ FieldsSameBut [BBS_GCL_CTRL_OPERBANK n, BBS_GCL_CTRL_PEND n, BBS_GCL_STAT_ENTRY n] s t ∧ MemSame s t))
  ∧ (∀ (n : Fin 4) (s : State), on s (BBS_GCL_CTRL_GATEEN n) = true → bbsOn s = true →
    ∃ t, exec (.gateEntryChange n) s = .next t ∧ rd t (BBS_GCL_STAT_ENTRY n) = (gateNow s n).1 % 256
      ∧ FieldsSameBut [BBS_GCL_STAT_ENTRY n] s t ∧ t.mem = s.mem)
  ∧ (∀ (w : Writer) (n : Fin 4) (d : Bool) (c : BitVec 7) (s : State), WriteTaken w (BBS_QUENCH_INDROP n) (b2n d) s →
      fieldCode s w (BBS_QUENCH_CLASSES n) c.toNat = fOK → evcOn s →
      (on s (BBS_QUENCH_INDROP n) ≠ d ∨ rd s (BBS_QUENCH_CLASSES n) ≠ c.toNat) →
    ∃ t, exec (.bbsQuenchWrite w n d c) s = .next t ∧ on t (BBS_QUENCH_INDROP n) = d ∧ rd t (BBS_QUENCH_CLASSES n) = c.toNat
      ∧ pendBit t 293 = true ∧ FieldsSameBut [BBS_QUENCH_INDROP n, BBS_QUENCH_CLASSES n] s t ∧ MemSame s t)

/-- Tables, streams and links of the switch: READ loads the data registers, WRITE, DELETE and ageing change the entry, FIND
gives the index; a refused WRITE sets ERR with event 300; a recovery reset raises event 298, a silent port 299, a link change
288 to 291, a refused SFP+ module 292. -/
def Obligations.BackboneTables : Prop :=
  (∀ (w : Writer) (tb : Fin 4) (i : BitVec 14) (s : State), WriteTaken w BBS_TBLCMD_GO 1 s → i.toNat < tableSize tb →
    (∃ t, exec (.tableRead w tb i) s = .next t ∧ t.bbs = s.bbs ∧ t.mem = s.mem
      ∧ (∀ k : Fin 4, rd t (BBS_TBLDATA_DATA k) = (tableWords s tb i.toNat).getD k 0 % 2 ^ 32)
      ∧ FieldsSameBut [BBS_TBLCMD_TABLE, BBS_TBLCMD_OP, BBS_TBLCMD_INDEX, BBS_TBLDATA_DATA 0, BBS_TBLDATA_DATA 1,
          BBS_TBLDATA_DATA 2, BBS_TBLDATA_DATA 3] s t)
    ∧ (Assoc.sorted s.bbs.vlan = true → Assoc.sorted s.bbs.fdb = true → Assoc.sorted s.bbs.streams = true →
      ∃ t, exec (.tableDelete w tb i) s = .next t ∧ tableWords t tb i.toNat = [0, 0, 0, 0] ∧ t.mem = s.mem
        ∧ FieldsSameBut [BBS_TBLCMD_TABLE, BBS_TBLCMD_OP, BBS_TBLCMD_INDEX] s t)
    ∧ (tableRefused s tb i.toNat = true → evcOn s →
      ∃ t, exec (.tableWrite w tb i) s = .next t ∧ on t BBS_TBLCMD_ERR = true ∧ pendBit t 300 = true ∧ t.bbs = s.bbs
        ∧ FieldsSameBut [BBS_TBLCMD_TABLE, BBS_TBLCMD_OP, BBS_TBLCMD_INDEX, BBS_TBLCMD_ERR] s t ∧ MemSame s t)
    ∧ (tb.val = 0 → tableRefused s 0 i.toNat = false →
      ∃ t, exec (.tableWrite w tb i) s = .next t ∧ t.mem = s.mem
        ∧ Assoc.find i.toNat t.bbs.vlan = some ⟨bit (rd s (BBS_TBLDATA_DATA 0)) 31, bits (rd s (BBS_TBLDATA_DATA 0)) 16 6,
            bits (rd s (BBS_TBLDATA_DATA 0)) 0 6⟩
        ∧ t.bbs.fdb = s.bbs.fdb ∧ t.bbs.streams = s.bbs.streams
        ∧ FieldsSameBut [BBS_TBLCMD_TABLE, BBS_TBLCMD_OP, BBS_TBLCMD_INDEX] s t))
  ∧ (∀ (w : Writer) (s : State), WriteTaken w BBS_TBLCMD_GO 1 s →
    (∀ i e, i < 16384 → fdbFind s (rd s (BBS_TBLDATA_DATA 0) * 2 ^ 16 + bits (rd s (BBS_TBLDATA_DATA 1)) 16 16)
        (bits (rd s (BBS_TBLDATA_DATA 1)) 0 12) = some (i, e) →
      ∃ t, exec (.tableFind w) s = .next t ∧ rd t BBS_TBLCMD_INDEX = i
        ∧ (∀ k : Fin 4, rd t (BBS_TBLDATA_DATA k) = (tableWords s 1 i).getD k 0 % 2 ^ 32) ∧ t.bbs = s.bbs ∧ t.mem = s.mem)
    ∧ (fdbFind s (rd s (BBS_TBLDATA_DATA 0) * 2 ^ 16 + bits (rd s (BBS_TBLDATA_DATA 1)) 16 16)
        (bits (rd s (BBS_TBLDATA_DATA 1)) 0 12) = none →
      ∃ t, exec (.tableFind w) s = .next t ∧ on t BBS_TBLCMD_ERR = true ∧ t.bbs = s.bbs ∧ t.mem = s.mem))
  ∧ (∀ (i : BitVec 14) (e : FdbEntry) (s : State), Assoc.sorted s.bbs.fdb = true → Assoc.find i.toNat s.bbs.fdb = some e →
    (bbsOn s = true → e.static = false → rd s BBS_AGE ≠ 0 → e.at_ + rd s BBS_AGE * nsPerS ≤ upNow s →
      ∃ t, exec (.fdbAgeing i) s = .next t ∧ Assoc.find i.toNat t.bbs.fdb = none
        ∧ (∀ j, j ≠ i.toNat → Assoc.find j t.bbs.fdb = Assoc.find j s.bbs.fdb) ∧ t.regs = s.regs ∧ t.mem = s.mem)
    ∧ (e.static = true ∨ upNow s < e.at_ + rd s BBS_AGE * nsPerS → exec (.fdbAgeing i) s = .next s))
  ∧ (∀ (n : Fin 256) (e : StreamEntry) (s : State), Assoc.find n.val s.bbs.streams = some e → e.valid = true → e.rec_ = true →
      bbsOn s = true → evcOn s →
    (e.last.isSome = true → e.kept + e.resetMs * 1000000 ≤ upNow s → ∃ t, exec (.recoveryReset n) s = .next t ∧ pendBit t 298 = true
      ∧ Assoc.find n.val t.bbs.streams = some { e with last := none, seen := [] } ∧ FieldsSameBut [] s t ∧ MemSame s t)
    ∧ (e.runPort.isSome = true → e.silent = false → e.runSince + nsPerS ≤ upNow s →
      ∃ t, exec (.streamSilent n) s = .next t ∧ pendBit t 299 = true
        ∧ Assoc.find n.val t.bbs.streams = some { e with silent := true } ∧ FieldsSameBut [] s t ∧ MemSame s t)
    ∧ (upNow s < e.kept + e.resetMs * 1000000 → exec (.recoveryReset n) s = .next s))
  ∧ (∀ (n : Fin 4) (up : Bool) (s : State), bit (rd s BBS_STATUS_LINK) n ≠ up → islandPowered s 11 = true → evcOn s →
      (up = true → n.val ≤ 1 → bit (rd s BBS_STATUS_SFPREF) n = false) →
    ∃ t, exec (.backboneLinkChange n up) s = .next t ∧ bit (rd t BBS_STATUS_LINK) n = up ∧ pendBit t (288 + n) = true
      ∧ FieldsSameBut [BBS_STATUS_LINK] s t ∧ MemSame s t)
  ∧ (∀ (n : Fin 2) (baseR : Bool) (mw : Nat) (s : State),
    (baseR = true → mw ≤ 1000 → ∃ t, exec (.sfpModulePlugged n baseR mw) s = .next t ∧ bit (rd t BBS_STATUS_SFPREF) n = false
      ∧ FieldsSameBut [BBS_STATUS_SFPREF] s t ∧ MemSame s t)
    ∧ (baseR = false ∨ 1000 < mw → evcOn s → ∃ t, exec (.sfpModulePlugged n baseR mw) s = .next t
      ∧ bit (rd t BBS_STATUS_SFPREF) n = true ∧ pendBit t 292 = true ∧ FieldsSameBut [BBS_STATUS_SFPREF] s t ∧ MemSame s t))

/-- Enabling a CAN channel: where binding, mapping table and timing hold it runs with the entries of its table, else CFGERR
names the first that fails, with event 336 or 337; disabled, it holds no entry and no queued frame. -/
def Obligations.CanChannels : Prop :=
  ∀ (w : Writer) (n : Fin 2) (s : State),
    (WriteTaken w (CGW_CH_CFG_CHEN n) 1 s → on s (CGW_CH_CFG_CHEN n) = false →
      (canCheck s n = 0 → ∃ t, exec (.canChannelEnable w n true) s = .next t ∧ on t (CGW_CH_CFG_CHEN n) = true
        ∧ rd t (CGW_CH_CFG_CFGERR n) = 0 ∧ t.canMap.filter (fun e => e.ch == n.val) = (mapEntries s).filter (fun e => e.ch == n.val)
        ∧ t.canMap.filter (fun e => e.ch != n.val) = s.canMap.filter (fun e => e.ch != n.val)
        ∧ FieldsSameBut [CGW_CH_CFG_CHEN n, CGW_CH_CFG_CFGERR n, I.CGW_COMMITS n] s t ∧ MemSame s t)
      ∧ (canCheck s n ≠ 0 → evcOn s → ∃ t, exec (.canChannelEnable w n true) s = .next t
        ∧ on t (CGW_CH_CFG_CHEN n) = false ∧ rd t (CGW_CH_CFG_CFGERR n) = canCheck s n ∧ pendBit t (336 + n) = true
        ∧ t.canMap = s.canMap ∧ FieldsSameBut [CGW_CH_CFG_CFGERR n] s t ∧ MemSame s t))
    ∧ (WriteTaken w (CGW_CH_CFG_CHEN n) 0 s →
      ∃ t, exec (.canChannelEnable w n false) s = .next t ∧ on t (CGW_CH_CFG_CHEN n) = false
        ∧ (∀ e ∈ t.canMap, e.ch ≠ n.val) ∧ (∀ f ∈ t.canQ, f.ch ≠ n.val)
        ∧ FieldsSameBut [CGW_CH_CFG_CHEN n, CGW_CH_STAT_STATE n] s t ∧ MemSame s t)

/-! Local field I/O (chapter 16) -/

/-- Inputs and counters: an input's level reaches the latch if it lasts the filter time, and by 20 µs after it; each fast input
counts by its mode, a quadrature pair that changes both inputs at once counts an error with event 391; a line fault shows in
LINE and LINESEEN with event 392; a count is set by a write. That a pair mode of unit k uses FC(2k) and FC(2k + 1), and units 4
and 6 then none, is the model's reading (log entry 63). -/
def Obligations.FieldInputsAndCounters : Prop :=
  (∀ (n : Fin 24) (level : Bool) (s : State), fioActive s = true →
    (chMode s n = 1 → on s (I.FIO_RAW n) ≠ level →
      ∃ t, exec (.fioInputChange n level) s = .next t ∧ on t (I.FIO_RAW n) = level ∧ rd t (I.FIO_RAWT n) = upNow s % 2 ^ 128
        ∧ (upNow s < rd s (I.FIO_RAWT n) + filterTime s n → on t (I.FIO_LEVEL n) = on s (I.FIO_LEVEL n))
        ∧ (rd s (I.FIO_RAWT n) + filterTime s n + 20000 ≤ upNow s → on t (I.FIO_LEVEL n) = on s (I.FIO_RAW n))
        ∧ FieldsSameBut [I.FIO_LEVEL n, I.FIO_RAW n, I.FIO_RAWT n] s t ∧ t.mem = s.mem)
    ∧ (2 ≤ chMode s n → ∃ t, exec (.fioInputChange n level) s = .next t ∧ on t (I.FIO_LEVEL n) = level
      ∧ FieldsSameBut [I.FIO_LEVEL n] s t ∧ t.mem = s.mem)
    ∧ (chMode s n = 0 → exec (.fioInputChange n level) s = .next s))
  ∧ (∀ (levels : BitVec 8) (s : State), fioActive s = true → evcOn s →
    ∃ t, exec (.fcEdge levels) s = .next t ∧ MemSame s t ∧ (∀ j : Fin 8, on t (I.FIO_FCLEVEL j) = levels.getLsbD j)
      ∧ FieldsSameBut ((List.range 8).flatMap (fun j => [I.FIO_FCLEVEL j, I.FIO_FCTIME j, FIO_FCCNT_COUNT j]) ++ [FIO_FCERR_QERR]) s t
      ∧ ∀ k : Fin 8, bit (rd s FIO_FCERR_LINE) k = false →
        (fcMode s k = 0 → rd t (FIO_FCCNT_COUNT k) = rd s (FIO_FCCNT_COUNT k))
        ∧ (fcMode s k = 1 → fcLevel s k = false → fcNext s levels k = true →
            rd t (FIO_FCCNT_COUNT k) = (rd s (FIO_FCCNT_COUNT k) + 1) % 2 ^ 32 ∧ rd t (I.FIO_FCTIME k) = upNow s % 2 ^ 128)
        ∧ (fcMode s k = 1 → fcLevel s k = true ∨ fcNext s levels k = false → rd t (FIO_FCCNT_COUNT k) = rd s (FIO_FCCNT_COUNT k))
        ∧ (fcMode s k = 2 → fcLevel s k ≠ fcNext s levels k → rd t (FIO_FCCNT_COUNT k) = (rd s (FIO_FCCNT_COUNT k) + 1) % 2 ^ 32)
        ∧ (fcMode s k = 3 → k.val < 4 → bit (rd s FIO_FCERR_LINE) (2 * k) = false → bit (rd s FIO_FCERR_LINE) (2 * k + 1) = false →
            fcLevel s (2 * k) ≠ fcNext s levels (2 * k) → fcLevel s (2 * k + 1) ≠ fcNext s levels (2 * k + 1) →
            rd t (FIO_FCCNT_COUNT k) = rd s (FIO_FCCNT_COUNT k) ∧ pendBit t 391 = true)
        ∧ (fcMode s k = 4 → k.val < 4 → bit (rd s FIO_FCERR_LINE) (2 * k) = false → bit (rd s FIO_FCERR_LINE) (2 * k + 1) = false →
            fcLevel s (2 * k) = false → fcNext s levels (2 * k) = true →
            rd t (FIO_FCCNT_COUNT k) = ofSigned 32 ((rd s (FIO_FCCNT_COUNT k) : Int) + (if fcNext s levels (2 * k + 1) then 1 else -1))))
  ∧ (∀ (k : Fin 8) (s : State), fioActive s = true →
    (bit (rd s FIO_FCERR_LINE) k = false → evcOn s → ∃ t, exec (.fcLineFault k true) s = .next t
      ∧ bit (rd t FIO_FCERR_LINE) k = true ∧ bit (rd t FIO_FCERR_LINESEEN) k = true ∧ pendBit t 392 = true
      ∧ FieldsSameBut [FIO_FCERR_LINE, FIO_FCERR_LINESEEN] s t ∧ MemSame s t)
    ∧ (∃ t, exec (.fcLineFault k false) s = .next t ∧ bit (rd t FIO_FCERR_LINE) k = false
      ∧ FieldsSameBut [FIO_FCERR_LINE] s t ∧ MemSame s t))
  ∧ (∀ (w : Writer) (k : Fin 8) (v : Word) (s : State), WriteTaken w (FIO_FCSET_VALUE k) v.toNat s →
    ∃ t, exec (.fcCountSet w k v) s = .next t ∧ rd t (FIO_FCCNT_COUNT k) = v.toNat
      ∧ FieldsSameBut [FIO_FCCNT_COUNT k, I.FIO_FCTIME k] s t ∧ t.mem = s.mem)

/-- Outputs: without a refresh for the watchdog time the watchdog expires and every standard output takes its safe value, as
far as its supply is present; an overload limits, turns off after 200 µs with event 384 and on the third consecutive time
latches with event 385, and RETRY ms later a commanded channel switches on again; overtemperature holds off; wire, voltage and
supply faults show with their events; enabling checks the configuration, and disabling turns every output off. -/
def Obligations.FieldOutputs : Prop :=
  (∀ s : State, fioActive s = true → on s CYC_STATE_SAFEOUT = false → on s FIO_STATUS_WDEXP = false →
    (upNow s < rd s I.FIO_REFT + watchdogTime s → exec .outputWatchdogExpiry s = .next s)
    ∧ (rd s I.FIO_REFT + watchdogTime s ≤ upNow s → evcOn s → ∃ t, exec .outputWatchdogExpiry s = .next t ∧ on t FIO_STATUS_WDEXP = true ∧ on t FIO_STATUS_WDSEEN = true
      ∧ pendBit t 390 = true ∧ MemSame s t
      ∧ ∀ n : Fin 24, chMode s n = 2 →
          (rd s (FIO_CHCFG_SAFE n) = 0 → bit (rd t FIO_OUT) n = false)
          ∧ (rd s (FIO_CHCFG_SAFE n) = 1 → row2 s n = false → bit (rd t FIO_OUT) n = groupOk s n)
          ∧ (rd s (FIO_CHCFG_SAFE n) = 2 → row2 s n = false → on s I.FIO_ROW3 = false →
              bit (rd t FIO_OUT) n = (bit (rd s I.FIO_WANT) n && groupOk s n))))
  ∧ (∀ (n : Fin 24) (s : State), bit (rd s FIO_OUT) n = true → on s (I.FIO_OVLNOW n) = false →
    ∃ t, exec (.outputOverload n) s = .next t ∧ on t (I.FIO_OVLNOW n) = true ∧ rd t (FIO_CHSTAT_CURR n) = 0xFF
      ∧ rd t (I.FIO_OVLT n) = upNow s % 2 ^ 128
      ∧ FieldsSameBut [I.FIO_OVLNOW n, I.FIO_OVLT n, FIO_CHSTAT_CURR n, I.FIO_CONSEC n] s t ∧ t.mem = s.mem)
  ∧ (∀ (n : Fin 24) (s : State), on s (I.FIO_OVLNOW n) = true → evcOn s →
    (upNow s < rd s (I.FIO_OVLT n) + 200000 → exec (.overloadTurnOff n) s = .next s)
    ∧ (chMode s n = 2 → rd s (I.FIO_OVLT n) + 200000 ≤ upNow s → ∃ t, exec (.overloadTurnOff n) s = .next t ∧ on t (FIO_CHSTAT_OVL n) = true
      ∧ (on s (FIO_CHSTAT_OVL n) = false → on t (FIO_CHSTAT_SEEN n) = true)
      ∧ rd t (FIO_CHSTAT_OVLCNT n) = satAdd 8 (rd s (FIO_CHSTAT_OVLCNT n)) 1 ∧ pendBit t 384 = true
      ∧ bit (rd t FIO_OUT) n = false ∧ MemSame s t
      ∧ (2 ≤ rd s (I.FIO_CONSEC n) → on t (FIO_CHSTAT_LATCH n) = true ∧ pendBit t 385 = true)
      ∧ (rd s (I.FIO_CONSEC n) < 2 → on t (FIO_CHSTAT_LATCH n) = on s (FIO_CHSTAT_LATCH n)))
    ∧ (chMode s n = 3 → 16 ≤ n.val → rd s (I.FIO_OVLT n) + 200000 ≤ upNow s → on s (FIO_PAIRSTAT_LATCHED ((n.val - 16) / 2)) = false →
      ∃ t, exec (.overloadTurnOff n) s = .next t ∧ on t (FIO_PAIRSTAT_LATCHED ((n.val - 16) / 2)) = true
        ∧ rd t (FIO_PAIRSTAT_CODE ((n.val - 16) / 2)) = 4 ∧ pendBit t 393 = true ∧ bit (rd t FIO_OUT) n = false ∧ MemSame s t))
  ∧ (∀ (n : Fin 24) (s : State), chMode s n = 2 → on s (FIO_CHSTAT_OVL n) = true → on s (FIO_CHSTAT_LATCH n) = false →
    (bit (rd s I.FIO_CMD) n = false ∨ upNow s < rd s (I.FIO_OFFT n) + 1000000 * rd s FIO_RETRY → exec (.overloadRetry n) s = .next s)
    ∧ (bit (rd s I.FIO_CMD) n = true → outWanted s n = true → rd s (I.FIO_OFFT n) + 1000000 * rd s FIO_RETRY ≤ upNow s → groupOk s n = true → fioActive s = true → on s (FIO_CHSTAT_OTEMP n) = false → row3Now s = on s I.FIO_ROW3 →
      ∃ t, exec (.overloadRetry n) s = .next t ∧ on t (FIO_CHSTAT_OVL n) = false ∧ bit (rd t FIO_OUT) n = true ∧ t.mem = s.mem)
    ∧ (bit (rd s I.FIO_CMD) n = true → rd s (I.FIO_OFFT n) + 1000000 * rd s FIO_RETRY ≤ upNow s → on s FIO_STATUS_WDEXP = true →
        rd s (FIO_CHCFG_SAFE n) = 0 →
      ∃ t, exec (.overloadRetry n) s = .next t ∧ on t (FIO_CHSTAT_OVL n) = false ∧ bit (rd t FIO_OUT) n = false ∧ t.mem = s.mem))
  ∧ (∀ (w : Writer) (n : Fin 24) (s : State), WriteTaken w (FIO_CHSTAT_CLR n) 1 s → on s (FIO_CHSTAT_LATCH n) = true →
    ∃ t, exec (.outputLatchClear w n) s = .next t ∧ on t (FIO_CHSTAT_LATCH n) = false ∧ rd t (I.FIO_CONSEC n) = 0 ∧ t.mem = s.mem)
  ∧ (∀ (n : Fin 24) (s : State),
    (openApplies s n = true → on s (FIO_CHSTAT_OPEN n) = false → evcOn s →
      ∃ t, exec (.openWireDetect n true) s = .next t ∧ on t (FIO_CHSTAT_OPEN n) = true ∧ on t (FIO_CHSTAT_SEEN n) = true
        ∧ bit (rd t FIO_FAULT) n = true ∧ pendBit t 386 = true
        ∧ FieldsSameBut [FIO_CHSTAT_OPEN n, FIO_CHSTAT_SEEN n, FIO_FAULT] s t ∧ MemSame s t)
    ∧ (∃ t, exec (.openWireDetect n false) s = .next t ∧ on t (FIO_CHSTAT_OPEN n) = false
        ∧ FieldsSameBut [FIO_CHSTAT_OPEN n, FIO_FAULT] s t ∧ t.mem = s.mem)
    ∧ (fioActive s = true → chMode s n = 2 ∨ chMode s n = 3 → bit (rd s FIO_OUT) n = false → on s (FIO_CHSTAT_EXTV n) = false →
        evcOn s →
      ∃ t, exec (.externalVoltageDetect n true) s = .next t ∧ on t (FIO_CHSTAT_EXTV n) = true ∧ on t (FIO_CHSTAT_SEEN n) = true
        ∧ bit (rd t FIO_FAULT) n = true ∧ pendBit t 395 = true
        ∧ FieldsSameBut [FIO_CHSTAT_EXTV n, FIO_CHSTAT_SEEN n, FIO_FAULT] s t ∧ MemSame s t)
    ∧ (∃ t, exec (.externalVoltageDetect n false) s = .next t ∧ on t (FIO_CHSTAT_EXTV n) = false
        ∧ FieldsSameBut [FIO_CHSTAT_EXTV n, FIO_FAULT] s t ∧ t.mem = s.mem)
    ∧ (fioActive s = true → chMode s n = 2 → on s (FIO_CHSTAT_OTEMP n) = false → evcOn s →
      ∃ t, exec (.driverOvertemp n true) s = .next t ∧ on t (FIO_CHSTAT_OTEMP n) = true ∧ bit (rd t FIO_OUT) n = false
        ∧ bit (rd t FIO_FAULT) n = true ∧ pendBit t 387 = true ∧ MemSame s t)
    ∧ (∃ t, exec (.driverOvertemp n false) s = .next t ∧ on t (FIO_CHSTAT_OTEMP n) = false ∧ MemSame s t))
  ∧ (∀ (l2 present : Bool) (f : Fld) (s : State), f = (if l2 then FIO_STATUS_L2OK else FIO_STATUS_L1OK) → on s f ≠ present →
      rd s SYS_IDENT_VARIANT ≠ 2 → evcOn s →
    ∃ t, exec (.fieldSupplyChange l2 present) s = .next t ∧ on t f = present ∧ pendBit t (if l2 then 389 else 388) = true
      ∧ MemSame s t
      ∧ ∀ p : Fin 4, l2 = true → present = false → fioActive s = true → pairUsed s p = true →
          on s (FIO_PAIRSTAT_DEMAND p) = true → on s (FIO_PAIRSTAT_LATCHED p) = false →
          on t (FIO_PAIRSTAT_LATCHED p) = true ∧ rd t (FIO_PAIRSTAT_CODE p) = 6 ∧ pendBit t 393 = true)
  ∧ (∀ (w : Writer) (s : State),
    (WriteTaken w FIO_CTRL_EN 1 s → on s FIO_CTRL_EN = false → on s FIO_CTRL_BUSY_OFF = false →
      (fioCheck s = 0 → ∃ t, exec (.fioEnable w true) s = .next t ∧ on t FIO_CTRL_EN = true ∧ rd t FIO_CTRL_CFGERR = 0
        ∧ on t FIO_STATUS_MAPERR = false ∧ MemSame s t)
      ∧ (fioCheck s ≠ 0 → evcOn s → ∃ t, exec (.fioEnable w true) s = .next t ∧ on t FIO_CTRL_EN = false
        ∧ rd t FIO_CTRL_CFGERR = fioCheck s ∧ pendBit t 394 = true
        ∧ FieldsSameBut [FIO_CTRL_CFGERR, FIO_CTRL_ENPEND] s t ∧ MemSame s t))
    ∧ (WriteTaken w FIO_CTRL_EN 1 s → on s FIO_CTRL_EN = false → on s FIO_CTRL_BUSY_OFF = true →
      ∃ t, exec (.fioEnable w true) s = .next t ∧ on t FIO_CTRL_ENPEND = true ∧ on t FIO_CTRL_EN = false
        ∧ FieldsSameBut [FIO_CTRL_ENPEND] s t ∧ MemSame s t)
    ∧ (WriteTaken w FIO_CTRL_EN 0 s → on s FIO_CTRL_EN = true →
      ∃ t, exec (.fioEnable w false) s = .next t ∧ on t FIO_CTRL_EN = false ∧ on t FIO_CTRL_BUSY_OFF = true
        ∧ (∀ n : Fin 24, bit (rd t FIO_OUT) n = false) ∧ t.mem = s.mem))

/-- Safe output pairs: the channel whose eighth of TPP runs is pulsed once in it (that the periods count from the start of the
time unit is the model's choice, log entry 128), and no other; a failed test pulse, a fault that has persisted and a demand
that is not renewed latch the pair with their codes and event 393, and both channels are off; the latch clears only while the
demand is 0. -/
def Obligations.SafeOutputPairs : Prop :=
  (∀ (p : Fin 4) (e : Nat) (s : State), on s (FIO_PAIRSTAT_ON p) = true →
      e = upNow s / (125000 * max 1 (rd s FIO_PAIRTP_TPP)) →
    (e % 8 ≠ p.val → e % 8 ≠ p.val + 4 → ∀ low, exec (.pairTestPulse p low) s = .next s)
    ∧ (e % 4 = p.val → rd s (I.FIO_TPT p) = e + 1 → ∀ low, exec (.pairTestPulse p low) s = .next s)
    ∧ (e % 4 = p.val → rd s (I.FIO_TPT p) ≠ e + 1 →
    (∃ t, exec (.pairTestPulse p true) s = .next t
      ∧ (e % 8 = p.val → rd t (I.FIO_TPNEXT p) = 1) ∧ (e % 8 = p.val + 4 → rd t (I.FIO_TPNEXT p) = 0)
      ∧ FieldsSameBut [I.FIO_TPNEXT p, I.FIO_TPT p] s t ∧ t.mem = s.mem)
    ∧ (on s (FIO_PAIRSTAT_LATCHED p) = false → evcOn s →
      ∃ t, exec (.pairTestPulse p false) s = .next t ∧ on t (FIO_PAIRSTAT_LATCHED p) = true ∧ rd t (FIO_PAIRSTAT_CODE p) = 1
        ∧ on t (FIO_PAIRSTAT_ON p) = false ∧ pendBit t 393 = true ∧ MemSame s t)))
  ∧ (∀ (p : Fin 4) (s : State), on s (FIO_PAIRSTAT_LATCHED p) = false → evcOn s →
    (∀ code : Fin 8, pairFaultApplies s p code = true →
      ∃ t, exec (.pairFaultDetect p code) s = .next t ∧ on t (FIO_PAIRSTAT_LATCHED p) = true ∧ rd t (FIO_PAIRSTAT_CODE p) = code
        ∧ bit (rd t FIO_OUT) (16 + 2 * p) = false ∧ bit (rd t FIO_OUT) (17 + 2 * p) = false ∧ on t (FIO_PAIRSTAT_ON p) = false
        ∧ pendBit t 393 = true ∧ MemSame s t)
    ∧ (fioActive s = true → pairUsed s p = true → on s (FIO_PAIRSTAT_DEMAND p) = true →
        rd s (I.FIO_DEMT p) + 1000000 * rd s FIO_PAIRCFG_PWDT ≤ upNow s →
      ∃ t, exec (.pairDemandTimeout p) s = .next t ∧ on t (FIO_PAIRSTAT_LATCHED p) = true ∧ rd t (FIO_PAIRSTAT_CODE p) = 5
        ∧ bit (rd t FIO_OUT) (16 + 2 * p) = false ∧ bit (rd t FIO_OUT) (17 + 2 * p) = false ∧ pendBit t 393 = true ∧ MemSame s t))
  ∧ (∀ (w : Writer) (p : Fin 4) (s : State), WriteTaken w (FIO_PAIRSTAT_CLR p) 1 s →
    (on s (FIO_PAIRSTAT_DEMAND p) = false → on s (FIO_PAIRSTAT_LATCHED p) = true →
      ∃ t, exec (.pairLatchClear w p) s = .next t ∧ on t (FIO_PAIRSTAT_LATCHED p) = false ∧ rd t (FIO_PAIRSTAT_CODE p) = 0
        ∧ t.mem = s.mem)
    ∧ (on s (FIO_PAIRSTAT_DEMAND p) = true ∨ on s (FIO_PAIRSTAT_LATCHED p) = false →
      ∃ t, exec (.pairLatchClear w p) s = .next t ∧ t.regs = s.regs ∧ t.mem = s.mem))

/-! Safety functions (chapter 17) -/

/-- Safeguard datagrams and publication: a datagram is kept as the latest of its connection and path, or counted; publication
comes once after each commit and its OUT chains; it is withheld without the stamp of this cycle, under the safe-output signal,
or while the functions do not run, and the demands are then 0, and else those of the committed safety area. Safe bits: 0xFFFF
reads 1 and 0xFFFE reads 0; a bit of a connection that is not in RUN, or whose partner sends fail-safe values, reads 0, and
else the bit of its safe data. Time-outs of the safety runtime: the watchdog of a connection, expired at the t0, fails it with
cause 2 and event 421; TSS1 after it began an SS1 response drops EN, TSS2 after it began an SS2 response records the standstill
position; a JX5 path silent for WD_M raises event 427. -/
def Obligations.SafeguardCarriers : Prop :=
  ((∀ (port : Fin 4) (udp : Nat) (bs : List Byte) (s : State), on s SFU_CTRL_EN = true →
      udp = rd s SFU_BBCFG_PORT ∨ udp = rd s SFU_BBCFG_JX5PORT →
    (dgramMatch s port udp bs = none → evcOn s →
      ∃ t, exec (.safeguardDatagramReceive port udp bs) s = .next t ∧ t.dgrams = s.dgrams ∧ pendBit t 426 = true
        ∧ rd t SFU_RXCNT_UNKNOWN = satAdd 16 (rd s SFU_RXCNT_UNKNOWN) 1 ∧ FieldsSameBut [SFU_RXCNT_UNKNOWN] s t ∧ MemSame s t)
    ∧ (∀ c p, dgramMatch s port udp bs = some (c, p) →
      ∃ t, exec (.safeguardDatagramReceive port udp bs) s = .next t ∧ MemSame s t
        ∧ t.dgrams = s.dgrams.filter (fun d => !replaced s c p d) ++ [⟨c, p, now s, bs.take 64⟩]
        ∧ ((∀ d ∈ s.dgrams, replaced s c p d = false) → t.regs = s.regs)
        ∧ (evcOn s → (∃ d ∈ s.dgrams, replaced s c p d = true) →
            rd t SFU_RXCNT_OVWR = satAdd 16 (rd s SFU_RXCNT_OVWR) 1 ∧ pendBit t 426 = true)
        ∧ FieldsSameBut [SFU_RXCNT_OVWR] s t))
  ∧ (∀ s : State, publishDue s = false → exec .sfuPublish s = .next s)
  ∧ (∀ s : State, on s SFU_CTRL_EN = true → publishDue s = true →
    (sfuWithheld s = true → ∃ t, exec .sfuPublish s = .next t ∧ on t SFU_STATUS_PUBLISH = false ∧ on t I.SFU_PUBDUE = false
      ∧ rd t SFU_PUBCNT_WITHHELD = satAdd 32 (rd s SFU_PUBCNT_WITHHELD) 1
      ∧ (fioActive s = true → ∀ p : Fin 4, pairUsed s p = true → on t (FIO_PAIRSTAT_DEMAND p) = false)
      ∧ (evcOn s → stampBad s = true → on t SFU_STATUS_NOSTAGE = true ∧ pendBit t 425 = true))
    ∧ (sfuWithheld s = false → ∃ t, exec .sfuPublish s = .next t ∧ on t SFU_STATUS_PUBLISH = true ∧ on t I.SFU_PUBDUE = false
      ∧ rd t SFU_PUBCNT_WITHHELD = rd s SFU_PUBCNT_WITHHELD
      ∧ (fioActive s = true → ∀ p : Fin 4, pairUsed s p = true →
          on t (FIO_PAIRSTAT_DEMAND p) = sfuDemand s p)))
  ∧ (∀ s : State, safeBit s 0xFFFF = true ∧ safeBit s 0xFFFE = false
    ∧ ∀ b, b < 0xFFFE →
        ((connOf s (b / 512)).state ≠ 2 ∨ (connOf s (b / 512)).fsv = true → safeBit s b = false)
        ∧ ((connOf s (b / 512)).state = 2 → (connOf s (b / 512)).fsv = false →
            safeBit s b = ((connOf s (b / 512)).data.getD (b % 512 / 8) 0).getLsbD (b % 512 % 8))))
  ∧ ((∀ (c : Fin 128) (s : State), rd s SFU_STATUS_STATE = 4 → (connOf s c).state = 2 ∨ (connOf s c).state = 4 →
    (connExpired sfArea c s = false → exec (.safeguardWatchdogExpiry c) s = .next s)
    ∧ (connExpired sfArea c s = true → evcOn s → ∃ t, exec (.safeguardWatchdogExpiry c) s = .next t ∧ (connOf t c).state = 3 ∧ (connOf t c).count = 0
      ∧ t.safe.lastConn = c ∧ t.safe.ccause = 2 ∧ pendBit t 421 = true ∧ t.safe.axes = s.safe.axes
      ∧ FieldsSameBut [] s t ∧ MemSame s t))
  ∧ (∀ (a : Fin 64) (s : State), rd s SFU_STATUS_STATE = 4 →
    ((axisOf s a).resp = 2 → axisLasts s a (axCfg s sfArea a).tss1 = true → ∃ t, exec (.ss1Timeout a) s = .next t ∧ axisOf t a = { axisOf s a with off := true }
      ∧ t.regs = s.regs ∧ t.mem = s.mem ∧ t.safe.conns = s.safe.conns)
    ∧ ((axisOf s a).resp ≠ 2 ∨ axisLasts s a (axCfg s sfArea a).tss1 = false → exec (.ss1Timeout a) s = .next s)
    ∧ ((axisOf s a).resp = 1 → (axisOf s a).still = none → axisLasts s a (axCfg s sfArea a).tss2 = true →
      ∃ t, exec (.ss2Standstill a) s = .next t
      ∧ axisOf t a = { axisOf s a with still := some (axisOf s a).pos } ∧ t.regs = s.regs ∧ t.mem = s.mem
      ∧ t.safe.conns = s.safe.conns))
  ∧ (∀ (c : Fin 128) (s : State), rd s SFU_STATUS_STATE = 4 → (connOf s c).state ≠ 0 → (cnCfg s sfArea c).transport = 2 → evcOn s →
    ((connOf s c).lost1 = false → (connOf s c).at1 + 1000000 * (cnCfg s sfArea c).wdm ≤ sfT0 s →
      ∃ t, exec (.jx5PathWatchdog c false) s = .next t
      ∧ connOf t c = { connOf s c with lost1 := true } ∧ pendBit t 427 = true ∧ FieldsSameBut [] s t ∧ MemSame s t)
    ∧ ((connOf s c).lost2 = false → (connOf s c).at2 + 1000000 * (cnCfg s sfArea c).wdm ≤ sfT0 s →
      ∃ t, exec (.jx5PathWatchdog c true) s = .next t
      ∧ connOf t c = { connOf s c with lost2 := true } ∧ pendBit t 427 = true ∧ FieldsSameBut [] s t ∧ MemSame s t)))

/-- Loading, commissioning and decommissioning the safety record: a LOAD that fails gives its RESULT with event 418; one that
passes copies the record, computes its check value and enters NOCFG; COMMISSION stores the record where the entered value is
the check value, with event 419, and else answers 5; DECOMMISSION acts in STOP alone. -/
def Obligations.SafetyCommissioning : Prop :=
  (∀ (w : Writer) (b : Nat) (s : State), WriteTaken w SFU_CFGCTL_LOAD 1 s → b = 16 * rd s SFU_CFGBASE_BASE → evcOn s →
    (loadResult s b ≠ 0 → ∃ t, exec (.safetyLoad w) s = .next t ∧ rd t SFU_CFGCTL_RESULT = loadResult s b ∧ pendBit t 418 = true
      ∧ rd t SFU_STATUS_STATE = rd s SFU_STATUS_STATE ∧ rd t SFU_CFGCV_CV = rd s SFU_CFGCV_CV ∧ t.safe = s.safe)
    ∧ (loadResult s b = 0 → Inv s → ∃ t, exec (.safetyLoad w) s = .next t ∧ rd t SFU_CFGCTL_RESULT = 0 ∧ pendBit t 417 = true
      ∧ rd t SFU_STATUS_STATE = 1 ∧ rd t SFU_CFGCV_CV = recordCv s b (rd s SFU_CFGBASE_LEN) % 2 ^ 32
      ∧ t.safe.conns = [] ∧ t.safe.axes = []
      ∧ (∀ i, i < rd s SFU_CFGBASE_LEN → i < 65536 → Memory.read t.mem (sfArea + i) = Memory.read s.mem (b + i))
      ∧ (rd s SFU_STATUS_STATE ≠ 1 → pendBit t 416 = true)))
  ∧ (∀ (w : Writer) (s : State), WriteTaken w SFU_CFGCTL_COMMISSION 1 s → evcOn s →
    (rd s SFU_STATUS_STATE = 0 ∨ rd s SFU_STATUS_STATE = 2 → ∃ t, exec (.commission w) s = .next t
      ∧ rd t SFU_CFGCTL_RESULT = 1 ∧ pendBit t 418 = true ∧ rd t SFU_STATUS_STATE = rd s SFU_STATUS_STATE
      ∧ rd t I.SFU_STORED = rd s I.SFU_STORED)
    ∧ (rd s SFU_STATUS_STATE ≠ 0 → rd s SFU_STATUS_STATE ≠ 2 → rd s SFU_CMTCV ≠ rd s SFU_CFGCV_CV →
      ∃ t, exec (.commission w) s = .next t ∧ rd t SFU_CFGCTL_RESULT = 5 ∧ pendBit t 418 = true
        ∧ rd t SFU_STATUS_STATE = rd s SFU_STATUS_STATE ∧ rd t I.SFU_STORED = rd s I.SFU_STORED)
    ∧ (rd s SFU_STATUS_STATE = 1 → rd s SFU_CMTCV = rd s SFU_CFGCV_CV → rd s CYC_STATE ≠ 1 →
      ∃ t, exec (.commission w) s = .next t ∧ rd t SFU_CFGCTL_RESULT = 0 ∧ pendBit t 419 = true ∧ rd t SFU_STATUS_STATE = 3
        ∧ on t I.SFU_STORED = true ∧ rd t I.SFU_STOREDCV = rd s SFU_CFGCV_CV % 2 ^ 32))
  ∧ (∀ (w : Writer) (s : State), WriteTaken w SFU_CFGCTL_DECOMMISSION 1 s → evcOn s →
    (rd s CYC_STATE = 0 → rd s SFU_STATUS_STATE ≠ 0 → ∃ t, exec (.decommission w) s = .next t ∧ rd t SFU_CFGCTL_RESULT = 0
      ∧ rd t SFU_STATUS_STATE = 1 ∧ on t I.SFU_STORED = false ∧ pendBit t 430 = true)
    ∧ (rd s CYC_STATE ≠ 0 ∨ rd s SFU_STATUS_STATE = 0 → ∃ t, exec (.decommission w) s = .next t ∧ rd t SFU_CFGCTL_RESULT = 1
      ∧ rd t SFU_STATUS_STATE = rd s SFU_STATUS_STATE ∧ rd t I.SFU_STORED = rd s I.SFU_STORED))

/-! Module pair and referee (chapter 18) -/

/-- POLLs: a foreign PAIRID is discarded; one with a lower EPOCH that does not name the present active is ignored with event
465; an accepted one gives EPOCH and ACTIVE, makes the named READY module active, begins the promotion of the named SYNC
standby with event 457, which is ACTIVE 60 µs later and waits for its first cycle start, and demotes an active that it does not
name with event 458. Without a POLL for a heartbeat one is missed, and an active without pair link fences itself. A module
answers with STATUS in its slot, once for each POLL, and for a partner without one in the partner's slot; with relayed POLLs
alone it gives its STATUS to the partner. What a missed heartbeat counts as in the corners is the model's choice (log entries
60 and 86). -/
def Obligations.RefereePolls : Prop :=
  (∀ (id : BitVec 16) (e : BitVec 32) (a : Fin 3) (s : State), inPair s = true →
    (id.toNat ≠ rd s PAIR_CTRL_PAIRID → exec (.pollReceive id e a) s = .next s)
    ∧ (id.toNat = rd s PAIR_CTRL_PAIRID → evcOn s →
      (pollAccepted s e.toNat a = false → ∃ t, exec (.pollReceive id e a) s = .next t ∧ pendBit t 465 = true
        ∧ rd t PAIR_EPOCH = rd s PAIR_EPOCH ∧ rd t PAIR_REFACT_ACTIVE = rd s PAIR_REFACT_ACTIVE ∧ on t PAIR_STATUS_REFOK = true
        ∧ rd t PAIR_STATUS_MISSED = 0 ∧ rd t PAIR_STATUS_STATE = rd s PAIR_STATUS_STATE ∧ MemSame s t)
      ∧ (pollAccepted s e.toNat a = true → ∃ t, exec (.pollReceive id e a) s = .next t ∧ rd t PAIR_EPOCH = e.toNat
        ∧ rd t PAIR_REFACT_ACTIVE = a ∧ on t PAIR_STATUS_REFOK = true ∧ on t PAIR_STATUS_RELAY = false
        ∧ rd t PAIR_STATUS_MISSED = 0
        ∧ (3 ≤ rd s PAIR_STATUS_MISSED → pendBit t 451 = true)
        ∧ (prState s = prREADY → a.val = prPos s → prState t = prACTIVE ∧ pendBit t 448 = true)
        ∧ (prState s = prACTIVE → a.val = prPos s → prState t = prACTIVE)
        ∧ (prState s = prSYNC → a.val = prPos s → prState t = prPROMOTING ∧ rd t I.PAIR_PROMT = upNow s % 2 ^ 128
            ∧ on t I.PAIR_INCOMPL = false ∧ on t I.PAIR_PROM2 = false ∧ pendBit t 457 = true
            ∧ rd t PAIR_CNT_PROMOTE = satAdd 16 (rd s PAIR_CNT_PROMOTE) 1)
        ∧ (prState s = prACTIVE → a.val ≠ prPos s → on s I.UPD_WARM = false →
            prState t = prSTALE ∧ rd t PAIR_STATUS_CAUSE = 5 ∧ pendBit t 458 = true
              ∧ rd t CYC_STATE = 0 ∧ rd t CYC_STATE_STOPCAUSE = 6))))
  ∧ (∀ s : State, s.pending = [] → s.heldAcc = [] → s.regq = [] → prState s = prPROMOTING → rd s I.PWR_LAMP = 0 →
      rd s SLC_READMIT_PHASE = 0 →
    (upNow (when (islandPowered s 19) timTick s) < rd s I.PAIR_PROMT + 20000 → ∃ t, step s = .next t ∧ prState t = prPROMOTING ∧ rd t CKP_SEQ = rd s CKP_SEQ)
    ∧ (on s I.PAIR_PROM2 = false → rd s I.PAIR_PROMT + 60000 ≤ upNow (when (islandPowered s 19) timTick s) →
      ∃ t, step s = .next t ∧ prState t = prACTIVE ∧ rd t CKP_SEQ = rd s PAIR_ANNOUNCED % 2 ^ 64
        ∧ rd t SLC_MODE = rd s I.PAIR_MODE % 4
        ∧ (startBlocked s = false → rd t I.CYC_PENDCMD = 6 ∧ rd t I.CYC_PENDDUE = (rd s I.PAIR_PROMT + 60000) % 2 ^ 128
            ∧ (on s PWR_SUPPLY_HOLDUP_RDY = true → on t CYC_CTRL_EN = true)
            ∧ (on s PWR_SUPPLY_HOLDUP_RDY = false → on t CYC_CTRL_EN = on s CYC_CTRL_EN))
        ∧ (startBlocked s = true → rd t I.CYC_PENDCMD = rd s I.CYC_PENDCMD ∧ on t CYC_CTRL_EN = on s CYC_CTRL_EN)))
  ∧ (∀ (id : BitVec 16) (e : BitVec 32) (a : Fin 3) (s : State), inPair s = true → id.toNat = rd s PAIR_CTRL_PAIRID →
      on s PAIR_STATUS_PLINK = true →
    (pollHere s = true → exec (.relayedPollReceive id e a) s = .next s)
    ∧ (pollHere s = false → pollAccepted s e.toNat a = true → evcOn s →
      ∃ t, exec (.relayedPollReceive id e a) s = .next t ∧ on t PAIR_STATUS_RELAY = true ∧ on t PAIR_STATUS_REFOK = false
        ∧ pendBit t 464 = true ∧ rd t PAIR_EPOCH = e.toNat ∧ rd t PAIR_REFACT_ACTIVE = a))
  ∧ (∀ s : State, upNow s < rd s I.PAIR_HBT + 990000 → exec .heartbeatMissed s = .next s)
  ∧ (∀ s : State, inPair s = true → rd s I.PAIR_HBT + 990000 ≤ upNow s → evcOn s → rd s PAIR_STATUS_MISSED < 255 →
    ∃ t, exec .heartbeatMissed s = .next t ∧ rd t PAIR_STATUS_MISSED = rd s PAIR_STATUS_MISSED + 1 ∧ on t PAIR_STATUS_REFOK = false
      ∧ rd t PAIR_CNT_HBMISS = satAdd 16 (rd s PAIR_CNT_HBMISS) 1 ∧ pendBit t 449 = true
      ∧ (rd s PAIR_STATUS_MISSED = 2 → pendBit t 450 = true)
      ∧ (prState s = prACTIVE → 1 ≤ rd s PAIR_STATUS_MISSED → on s PAIR_STATUS_PLINK = false → on s I.UPD_WARM = false →
          prState t = prFENCED ∧ pendBit t 460 = true)
      ∧ (prState s ≠ prACTIVE ∨ rd s PAIR_STATUS_MISSED = 0 ∨ on s PAIR_STATUS_PLINK = true → prState t = prState s ∧ MemSame s t))
  ∧ (∀ s : State, inPair s = true →
    (on s PAIR_STATUS_REFOK = true → on s I.PAIR_STSENT = false → inStatusSlot s (prPos s) = true →
      (on s I.PAIR_RESIGN = false → ∃ t, exec (.statusSend none) s = .next t ∧ on t I.PAIR_STSENT = true
        ∧ FieldsSameBut [I.PAIR_STSENT] s t ∧ t.mem = s.mem
        ∧ t.out = s.out ++ [.frame 0x27 12 (refFrame (prPos s) 2 (statusBytes s))])
      ∧ (on s I.PAIR_RESIGN = true → on s I.PAIR_RESIGNSENT = false → evcOn s → ∃ t, exec (.statusSend none) s = .next t
        ∧ on t I.PAIR_STSENT = true ∧ on t I.PAIR_RESIGNSENT = true ∧ pendBit t 459 = true
        ∧ FieldsSameBut [I.PAIR_STSENT, I.PAIR_RESIGNSENT] s t ∧ MemSame s t))
    ∧ (on s PAIR_STATUS_REFOK = true → on s I.PAIR_STSENT = true ∨ inStatusSlot s (prPos s) = false →
        exec (.statusSend none) s = .next s)
    ∧ (on s PAIR_STATUS_REFOK = false → on s PAIR_STATUS_RELAY = true → on s PAIR_STATUS_PLINK = true →
      (on s I.PAIR_RESIGN = false ∨ on s I.PAIR_RESIGNSENT = true →
        ∃ t, exec (.statusSend none) s = .next t ∧ t.regs = s.regs ∧ t.mem = s.mem
          ∧ t.out = s.out ++ [.pair 10 ((statusBytes s).map BitVec.toNat)])
      ∧ (on s I.PAIR_RESIGN = true → on s I.PAIR_RESIGNSENT = false → evcOn s →
        ∃ t, exec (.statusSend none) s = .next t ∧ on t I.PAIR_RESIGNSENT = true ∧ pendBit t 459 = true
          ∧ Emit.pair 10 ((statusBytes s).map BitVec.toNat) ∈ t.out ∧ FieldsSameBut [I.PAIR_RESIGNSENT] s t ∧ MemSame s t))
    ∧ (∀ p, on s PAIR_STATUS_REFOK = true → on s PAIR_STATUS_PLINK = true → on s I.PAIR_PARTREF = false →
        on s I.PAIR_STPART = false → inStatusSlot s (3 - prPos s) = true →
      ∃ t, exec (.statusSend (some p)) s = .next t ∧ on t I.PAIR_STPART = true ∧ FieldsSameBut [I.PAIR_STPART] s t ∧ t.mem = s.mem
        ∧ t.out = s.out ++ [.frame 0x27 12 (refFrame (3 - prPos s) 2 ((p.take 20).set 7 (p.getD 7 0 ||| 8)))]))

/-- The pair link and health: its loss makes a joining or synchronous standby STALE, and nothing is known of the partner any
more; a joining module asks over it; keepalives, the time with what the TIME LED of the active shows, from both sides, and
health go over it, and the standby takes the offset of the four stamps; a switch-over is requested only by an active whose
partner is in SYNC. -/
def Obligations.PairLinkAndHealth : Prop :=
  (∀ s : State, on s PAIR_STATUS_PLINK = true → evcOn s →
    ∃ t, exec .pairLinkDown s = .next t ∧ on t PAIR_STATUS_PLINK = false ∧ pendBit t 452 = true ∧ MemSame s t
      ∧ (prJOINING ≤ prState s → prState s ≤ prSYNC → prState t = prSTALE ∧ rd t PAIR_STATUS_CAUSE = 1 ∧ pendBit t 454 = true)
      ∧ rd t I.PAIR_PARTNER = 0 ∧ on t I.PAIR_PARTREF = false
      ∧ (prState s < prJOINING ∨ prSYNC < prState s → FieldsSameBut [PAIR_STATUS_PLINK, I.PAIR_PARTNER, I.PAIR_PARTREF] s t))
  ∧ (∀ s : State, inPair s = true →
    (on s PAIR_STATUS_PLINK = false → evcOn s → ∃ t, exec .pairLinkUp s = .next t ∧ on t PAIR_STATUS_PLINK = true
      ∧ pendBit t 453 = true ∧ FieldsSameBut [PAIR_STATUS_PLINK] s t ∧ MemSame s t
      ∧ (prState s = prJOINING → Emit.pair 12 [rd s PAIR_VER, rd s SYS_IDENT_ISSUE, rd s SYS_IDENT_VARIANT, rd s PAIR_CTRL_PAIRID,
          prPos s, rd s I.SFU_RTID] ∈ t.out))
    ∧ (∀ lane : Fin 2, ∃ t, exec (.pairKeepaliveSend lane) s = .next t ∧ t.out = s.out ++ [.pair 1 [lane.val]]
      ∧ t.regs = s.regs ∧ t.mem = s.mem))
  ∧ (∀ (t1 t2 t3 t4 ofs : Int) (lamp : Fin 8) (s : State), on s PAIR_STATUS_PLINK = true →
      ofs = ((t2 - t1) - (t4 - t3)) / 2 →
    (prState s = prACTIVE → ∃ t, exec (.pairTimeMessage ⟨t1, t2, t3, t4, lamp⟩) s = .next t ∧ t.regs = s.regs ∧ t.mem = s.mem
      ∧ t.out = s.out ++ [.pair 2 [rd s TIM_SEC, rd s TIM_NSEC, timeLamp s]])
    ∧ (pairStandby s = true → -2 ^ 31 ≤ ofs → ofs < 2 ^ 31 →
      ∃ t, exec (.pairTimeMessage ⟨t1, t2, t3, t4, lamp⟩) s = .next t
        ∧ Emit.pair 2 [rd s TIM_SEC, rd s TIM_NSEC, timeLamp s] ∈ t.out ∧ rdS t PAIR_TIMEOFS_OFS = ofs ∧ rd t I.TIM_PLAMP = lamp ∧ MemSame s t
        ∧ (timState s ≠ tmPAIR → FieldsSameBut [PAIR_TIMEOFS_OFS, I.TIM_PLAMP] s t)
        ∧ (timState s = tmPAIR → on s I.TIM_PAIRSTEP = false → FieldsSameBut [PAIR_TIMEOFS_OFS, I.TIM_PLAMP, TIM_RATE] s t)
        ∧ (timState s = tmPAIR → on s I.TIM_PAIRSTEP = true → evcOn s → ofs ≤ now s → (now s : Int) - ofs < 2 ^ 64 * nsPerS →
            (now t : Int) = now s - ofs ∧ on t I.TIM_PAIRSTEP = false ∧ pendBit t 261 = true)))
  ∧ (∀ (ok : Bool) (s : State), pairStandby s = true → rd s I.PAIR_SELFT + 10000000000 ≤ upNow s →
    ∃ t, exec (.standbySelfTest ok) s = .next t ∧ rd t I.PAIR_SELFPASS = (rd s I.PAIR_SELFPASS + 1) % 256
      ∧ on t I.PAIR_SELFOK = ok ∧ FieldsSameBut [I.PAIR_SELFPASS, I.PAIR_SELFOK, I.PAIR_SELFT] s t ∧ t.mem = s.mem)
  ∧ (∀ s : State, inPair s = true → rd s I.PAIR_HEALTHT + 10000000 ≤ upNow s →
    ∃ t, exec .healthUpdate s = .next t ∧ rd t PAIR_HEALTH = healthWord s % 2 ^ 32 ∧ FieldsSameBut [PAIR_HEALTH, I.PAIR_HEALTHT] s t ∧ t.mem = s.mem
      ∧ t.out = s.out ++ (if on s PAIR_STATUS_PLINK then [.pair 4 [prState s, rd s PAIR_STATUS_REFOK, healthWord s]] else []))
  ∧ (∀ (st : Fin 10) (ref : Bool) (h : BitVec 32) (s : State), inPair s = true → on s PAIR_STATUS_PLINK = true →
    ∃ t, exec (.partnerHealthReceive st ref h) s = .next t ∧ rd t I.PAIR_PARTNER = st ∧ on t I.PAIR_PARTREF = ref
      ∧ rd t PAIR_PHEALTH_HEALTH = h.toNat ∧ (evcOn s → h.toNat ≠ rd s PAIR_PHEALTH_HEALTH → pendBit t 466 = true)
      ∧ FieldsSameBut [I.PAIR_PARTNER, I.PAIR_PARTREF, PAIR_PHEALTH_HEALTH] s t ∧ MemSame s t)
  ∧ (∀ (w : Writer) (s : State), WriteTaken w PAIR_CTRL_SWITCH 1 s →
    (prState s = prACTIVE → rd s I.PAIR_PARTNER = prSYNC → ∃ t, exec (.plannedSwitchover w) s = .next t
      ∧ on t I.PAIR_RESIGN = true ∧ on t I.PAIR_PLANNED = true ∧ FieldsSameBut [I.PAIR_RESIGN, I.PAIR_PLANNED] s t ∧ t.mem = s.mem)
    ∧ (prState s ≠ prACTIVE ∨ rd s I.PAIR_PARTNER ≠ prSYNC → ∃ t, exec (.plannedSwitchover w) s = .next t
      ∧ on t PAIR_STATUS_SWREF = true ∧ FieldsSameBut [PAIR_STATUS_SWREF] s t ∧ t.mem = s.mem))
  ∧ (∀ (w : Writer) (s : State), WriteTaken w PAIR_CTRL_REJOIN 1 s →
    ∃ t, exec (.rejoin w) s = .next t ∧ on t I.PAIR_NOJOIN = false
      ∧ (prState s = prSTALE → rd s PAIR_REFACT_ACTIVE ≠ 0 → rd s PAIR_REFACT_ACTIVE ≠ prPos s → on s PAIR_STATUS_PLINK = true →
          prState t = prJOINING)
      ∧ (prState s ≠ prSTALE → FieldsSameBut [I.PAIR_NOJOIN] s t ∧ t.mem = s.mem))

/-- Joining and following: the checks of a join request, copied blocks, of which the active sends its committed bytes, delta
headers and deltas, and what a mirroring channel sends. A header before the previous delta is complete breaks the stream; the
first delta after the last block ends the copy with event 456; a third verification that fails in succession makes the standby
STALE. The blocks and deltas are structured values of the model (log entry 87). -/
def Obligations.StandbyFollows : Prop :=
  (∀ (ver : Byte) (issue variant : Nat) (id : BitVec 16) (pos : Fin 3) (same : Bool) (rtid : BitVec 32) (fault : Bool)
      (units : BitVec 32) (e : Nat) (s : State), evcOn s →
    (prState s = prJOINING → e = joinErr s ver.toNat issue variant id.toNat pos same rtid.toNat fault →
      ∃ t, exec (.joinRequest ver issue variant id pos same rtid fault units) s = .next t ∧ MemSame s t
        ∧ (e = 0 → prState t = prCOPYING ∧ rd t PAIR_COPY_REMAIN = units.toNat ∧ pendBit t 455 = true)
        ∧ (e ≠ 0 → prState t = prSTALE ∧ rd t PAIR_STATUS_CAUSE = 4 ∧ rd t PAIR_STATUS_JOINERR = e ∧ pendBit t 461 = true
            ∧ on t I.PAIR_NOJOIN = true))
    ∧ (prState s = prACTIVE → e = joinErr s ver.toNat issue variant id.toNat pos same rtid.toNat (ctlState s == stFAULT) →
      ∃ t, exec (.joinRequest ver issue variant id pos same rtid fault units) s = .next t ∧ MemSame s t
        ∧ FieldsSameBut [] s t ∧ Emit.pair 7 [e] ∈ t.out ∧ (e = 0 → pendBit t 455 = true)))
  ∧ (∀ (a : Nat) (bs : List Byte) (remain : BitVec 32) (s : State), Inv s → copyBlock s a bs.length = true →
    (prState s = prCOPYING → ∃ t, exec (.fullCopyBlock (.memory a bs) remain) s = .next t ∧ memRead t a bs.length = bs
      ∧ MemSameOutside a (a + bs.length) s t ∧ rd t PAIR_COPY_REMAIN = remain.toNat
      ∧ on t I.PAIR_LASTBLK = (on s I.PAIR_LASTBLK || remain.toNat == 0)
      ∧ FieldsSameBut [PAIR_COPY_REMAIN, I.PAIR_LASTBLK] s t)
    ∧ (prState s = prACTIVE → rd s I.PAIR_PARTNER = prCOPYING → on s PAIR_STATUS_PLINK = true →
      ∃ t, exec (.fullCopyBlock (.memory a bs) remain) s = .next t ∧ t.regs = s.regs ∧ t.mem = s.mem
        ∧ t.out = s.out ++ [.pair 9 (a :: (committedRead s a bs.length).map BitVec.toNat)]))
  ∧ (∀ (seq : BitVec 64) (s : State), prState s = prCOPYING ∨ prState s = prSYNC →
    (on s I.PAIR_INCOMPL = false → ∃ t, exec (.deltaHeader seq) s = .next t ∧ rd t PAIR_ANNOUNCED = seq.toNat
      ∧ on t I.PAIR_INCOMPL = true ∧ FieldsSameBut [PAIR_ANNOUNCED, I.PAIR_INCOMPL] s t ∧ t.mem = s.mem)
    ∧ (on s I.PAIR_INCOMPL = true → evcOn s → ∃ t, exec (.deltaHeader seq) s = .next t ∧ rd t PAIR_ANNOUNCED = seq.toNat
      ∧ prState t = prSTALE ∧ rd t PAIR_STATUS_CAUSE = 2 ∧ pendBit t 454 = true ∧ MemSame s t))
  ∧ (∀ (d : Delta) (s : State), on s I.PAIR_INCOMPL = true → d.seq = rd s PAIR_ANNOUNCED → evcOn s →
    (prState s = prCOPYING → ∃ t, exec (.deltaReceive d) s = .next t ∧ rd t PAIR_APPLIED = d.seq % 2 ^ 64
      ∧ rd t CKP_SEQ = d.seq % 2 ^ 64 ∧ t.safe = d.safe ∧ on t I.PAIR_INCOMPL = false
      ∧ (on s I.PAIR_LASTBLK = true → prState t = prSYNC ∧ pendBit t 456 = true)
      ∧ (on s I.PAIR_LASTBLK = false → prState t = prCOPYING))
    ∧ (prState s = prSYNC → ∃ t, exec (.deltaReceive d) s = .next t ∧ rd t PAIR_APPLIED = d.seq % 2 ^ 64
      ∧ rd t CKP_SEQ = d.seq % 2 ^ 64 ∧ t.safe = d.safe
      ∧ (verifySame (verifyRun d s) (deltaApply d s) = true → prState t = prSYNC ∧ on t I.PAIR_VEROK = true
          ∧ rd t I.PAIR_VERMISS = 0)
      ∧ (verifySame (verifyRun d s) (deltaApply d s) = false → pendBit t 462 = true ∧ on t I.PAIR_VEROK = false
          ∧ (rd s I.PAIR_VERMISS < 2 → prState t = prSYNC)
          ∧ (2 ≤ rd s I.PAIR_VERMISS → prState t = prSTALE ∧ rd t PAIR_STATUS_CAUSE = 3))))
  ∧ (∀ (seq : BitVec 64) (s : State), prState s = prACTIVE →
    ∃ t, exec (.deltaAcknowledge seq) s = .next t ∧ rd t PAIR_APPLIED = seq.toNat ∧ FieldsSameBut [PAIR_APPLIED] s t ∧ t.mem = s.mem)
  ∧ (∀ (c : Fin 4) (bs : List Byte) (s : State), on s (I.JLA_MIRROR c) = true → on s PAIR_STATUS_PLINK = true →
    (∃ t, exec (.mirrorFrameReceive c (.frame false bs)) s = .next t ∧ t.out = s.out ++ [.frame (0x10 + c) (ownPath s c) (macFrame bs)]
      ∧ t.regs = s.regs ∧ t.mem = s.mem)
    ∧ (evcOn s → ∃ t, exec (.mirrorFrameReceive c (.frame true bs)) s = .next t ∧ pendBit t 463 = true
      ∧ FieldsSameBut [] s t ∧ MemSame s t))
  ∧ (∀ (c : Fin 4) (t0 : Int) (bytes : List Byte) (slot : Nat) (s : State), inPair s = true → on s PAIR_STATUS_PLINK = true →
      on s (JLA_CTRL_EN c) = true → jState s c = jlNORMAL → (jch s c).live = true →
      (jParse bytes).dst = 0x034A4C520000 + c → (jParse bytes).ether = 0x88B5 → (jParse bytes).hcrcOk = true →
      ((jParse bytes).startup = false ∨ slot ≤ 1) →
      jPlace s c t0 = .static slot → inWindow s c t0 (jAp s c slot) = true →
      jRest s c (typeInSlot s c slot (jParse bytes)) (some slot) (jParse bytes) = none → quenched s c slot = false →
      keptOf s c false slot = none → s.jla.length = 4 →
    ∃ t, exec (.relayedFrameReceive c t0 bytes) s = .next t
      ∧ ∃ k, keptOf t c false slot = some k ∧ k.payload = (jParse bytes).payload.take (jParse bytes).len ∧ k.path = 1 - ownPath s c)

end
end

