-- ==== Sys2Proof/Laws/State.lean ====
section
/-! SUPPORT. What the plain updates of the state leave alone, one lemma for each field and update. -/

namespace Sys2Proof.Laws

open Sys2Proof.Machine

/-! wr changes regs only -/

@[simp] theorem wr_pending (f : Fld) (v : Nat) (s : State) : (wr f v s).pending = s.pending := rfl
@[simp] theorem wr_mem (f : Fld) (v : Nat) (s : State) : (wr f v s).mem = s.mem := rfl
@[simp] theorem wr_freeCtr (f : Fld) (v : Nat) (s : State) : (wr f v s).freeCtr = s.freeCtr := rfl
@[simp] theorem wr_out (f : Fld) (v : Nat) (s : State) : (wr f v s).out = s.out := rfl
@[simp] theorem wr_evFifo (f : Fld) (v : Nat) (s : State) : (wr f v s).evFifo = s.evFifo := rfl
@[simp] theorem wr_evOpen (f : Fld) (v : Nat) (s : State) : (wr f v s).evOpen = s.evOpen := rfl
@[simp] theorem wr_evLatch (f : Fld) (v : Nat) (s : State) : (wr f v s).evLatch = s.evLatch := rfl
@[simp] theorem wr_evHeld (f : Fld) (v : Nat) (s : State) : (wr f v s).evHeld = s.evHeld := rfl
@[simp] theorem wr_extIrq (f : Fld) (v : Nat) (s : State) : (wr f v s).extIrq = s.extIrq := rfl
@[simp] theorem wr_glnCopies (f : Fld) (v : Nat) (s : State) : (wr f v s).glnCopies = s.glnCopies := rfl
@[simp] theorem wr_creds (f : Fld) (v : Nat) (s : State) : (wr f v s).creds = s.creds := rfl
@[simp] theorem wr_prevCreds (f : Fld) (v : Nat) (s : State) : (wr f v s).prevCreds = s.prevCreds := rfl
@[simp] theorem wr_journalBuf (f : Fld) (v : Nat) (s : State) : (wr f v s).journalBuf = s.journalBuf := rfl
@[simp] theorem wr_journal (f : Fld) (v : Nat) (s : State) : (wr f v s).journal = s.journal := rfl
@[simp] theorem wr_bases (f : Fld) (v : Nat) (s : State) : (wr f v s).bases = s.bases := rfl
@[simp] theorem wr_setBanks (f : Fld) (v : Nat) (s : State) : (wr f v s).setBanks = s.setBanks := rfl
@[simp] theorem wr_slots (f : Fld) (v : Nat) (s : State) : (wr f v s).slots = s.slots := rfl
@[simp] theorem wr_staged (f : Fld) (v : Nat) (s : State) : (wr f v s).staged = s.staged := rfl
@[simp] theorem wr_stagedRanges (f : Fld) (v : Nat) (s : State) : (wr f v s).stagedRanges = s.stagedRanges := rfl
@[simp] theorem wr_stagedData (f : Fld) (v : Nat) (s : State) : (wr f v s).stagedData = s.stagedData := rfl
@[simp] theorem wr_ringq (f : Fld) (v : Nat) (s : State) : (wr f v s).ringq = s.ringq := rfl
@[simp] theorem wr_heldAcc (f : Fld) (v : Nat) (s : State) : (wr f v s).heldAcc = s.heldAcc := rfl
@[simp] theorem wr_halves (f : Fld) (v : Nat) (s : State) : (wr f v s).halves = s.halves := rfl
@[simp] theorem wr_outReads (f : Fld) (v : Nat) (s : State) : (wr f v s).outReads = s.outReads := rfl
@[simp] theorem wr_cmds (f : Fld) (v : Nat) (s : State) : (wr f v s).cmds = s.cmds := rfl
@[simp] theorem wr_cpls (f : Fld) (v : Nat) (s : State) : (wr f v s).cpls = s.cpls := rfl
@[simp] theorem wr_waiting (f : Fld) (v : Nat) (s : State) : (wr f v s).waiting = s.waiting := rfl
@[simp] theorem wr_forcePend (f : Fld) (v : Nat) (s : State) : (wr f v s).forcePend = s.forcePend := rfl
@[simp] theorem wr_chg (f : Fld) (v : Nat) (s : State) : (wr f v s).chg = s.chg := rfl
@[simp] theorem wr_claims (f : Fld) (v : Nat) (s : State) : (wr f v s).claims = s.claims := rfl
@[simp] theorem wr_notices (f : Fld) (v : Nat) (s : State) : (wr f v s).notices = s.notices := rfl
@[simp] theorem wr_subs (f : Fld) (v : Nat) (s : State) : (wr f v s).subs = s.subs := rfl
@[simp] theorem wr_sol (f : Fld) (v : Nat) (s : State) : (wr f v s).sol = s.sol := rfl
@[simp] theorem wr_prog (f : Fld) (v : Nat) (s : State) : (wr f v s).prog = s.prog := rfl
@[simp] theorem wr_progPages (f : Fld) (v : Nat) (s : State) : (wr f v s).progPages = s.progPages := rfl
@[simp] theorem wr_master (f : Fld) (v : Nat) (s : State) : (wr f v s).master = s.master := rfl
@[simp] theorem wr_cores (f : Fld) (v : Nat) (s : State) : (wr f v s).cores = s.cores := rfl
@[simp] theorem wr_own (f : Fld) (v : Nat) (s : State) : (wr f v s).own = s.own := rfl
@[simp] theorem wr_caches (f : Fld) (v : Nat) (s : State) : (wr f v s).caches = s.caches := rfl
@[simp] theorem wr_inval (f : Fld) (v : Nat) (s : State) : (wr f v s).inval = s.inval := rfl
@[simp] theorem wr_reload (f : Fld) (v : Nat) (s : State) : (wr f v s).reload = s.reload := rfl
@[simp] theorem wr_recs (f : Fld) (v : Nat) (s : State) : (wr f v s).recs = s.recs := rfl
@[simp] theorem wr_banks (f : Fld) (v : Nat) (s : State) : (wr f v s).banks = s.banks := rfl
@[simp] theorem wr_undo (f : Fld) (v : Nat) (s : State) : (wr f v s).undo = s.undo := rfl
@[simp] theorem wr_undoOld (f : Fld) (v : Nat) (s : State) : (wr f v s).undoOld = s.undoOld := rfl
@[simp] theorem wr_undoFilter (f : Fld) (v : Nat) (s : State) : (wr f v s).undoFilter = s.undoFilter := rfl
@[simp] theorem wr_qDirty (f : Fld) (v : Nat) (s : State) : (wr f v s).qDirty = s.qDirty := rfl
@[simp] theorem wr_joinDirty (f : Fld) (v : Nat) (s : State) : (wr f v s).joinDirty = s.joinDirty := rfl
@[simp] theorem wr_regq (f : Fld) (v : Nat) (s : State) : (wr f v s).regq = s.regq := rfl
@[simp] theorem wr_regErrs (f : Fld) (v : Nat) (s : State) : (wr f v s).regErrs = s.regErrs := rfl
@[simp] theorem wr_stalled (f : Fld) (v : Nat) (s : State) : (wr f v s).stalled = s.stalled := rfl
@[simp] theorem wr_canMap (f : Fld) (v : Nat) (s : State) : (wr f v s).canMap = s.canMap := rfl
@[simp] theorem wr_canQ (f : Fld) (v : Nat) (s : State) : (wr f v s).canQ = s.canQ := rfl
@[simp] theorem wr_safe (f : Fld) (v : Nat) (s : State) : (wr f v s).safe = s.safe := rfl
@[simp] theorem wr_safeC (f : Fld) (v : Nat) (s : State) : (wr f v s).safeC = s.safeC := rfl
@[simp] theorem wr_dgrams (f : Fld) (v : Nat) (s : State) : (wr f v s).dgrams = s.dgrams := rfl
@[simp] theorem wr_jla (f : Fld) (v : Nat) (s : State) : (wr f v s).jla = s.jla := rfl
@[simp] theorem wr_tim (f : Fld) (v : Nat) (s : State) : (wr f v s).tim = s.tim := rfl
@[simp] theorem wr_bbs (f : Fld) (v : Nat) (s : State) : (wr f v s).bbs = s.bbs := rfl
@[simp] theorem wr_dma (f : Fld) (v : Nat) (s : State) : (wr f v s).dma = s.dma := rfl

/-! set1 changes regs only -/

@[simp] theorem set1_pending (f : Fld) (s : State) : (set1 f s).pending = s.pending := rfl
@[simp] theorem set1_mem (f : Fld) (s : State) : (set1 f s).mem = s.mem := rfl
@[simp] theorem set1_freeCtr (f : Fld) (s : State) : (set1 f s).freeCtr = s.freeCtr := rfl
@[simp] theorem set1_out (f : Fld) (s : State) : (set1 f s).out = s.out := rfl
@[simp] theorem set1_evFifo (f : Fld) (s : State) : (set1 f s).evFifo = s.evFifo := rfl
@[simp] theorem set1_evOpen (f : Fld) (s : State) : (set1 f s).evOpen = s.evOpen := rfl
@[simp] theorem set1_evLatch (f : Fld) (s : State) : (set1 f s).evLatch = s.evLatch := rfl
@[simp] theorem set1_evHeld (f : Fld) (s : State) : (set1 f s).evHeld = s.evHeld := rfl
@[simp] theorem set1_extIrq (f : Fld) (s : State) : (set1 f s).extIrq = s.extIrq := rfl
@[simp] theorem set1_glnCopies (f : Fld) (s : State) : (set1 f s).glnCopies = s.glnCopies := rfl
@[simp] theorem set1_creds (f : Fld) (s : State) : (set1 f s).creds = s.creds := rfl
@[simp] theorem set1_prevCreds (f : Fld) (s : State) : (set1 f s).prevCreds = s.prevCreds := rfl
@[simp] theorem set1_journalBuf (f : Fld) (s : State) : (set1 f s).journalBuf = s.journalBuf := rfl
@[simp] theorem set1_journal (f : Fld) (s : State) : (set1 f s).journal = s.journal := rfl
@[simp] theorem set1_bases (f : Fld) (s : State) : (set1 f s).bases = s.bases := rfl
@[simp] theorem set1_setBanks (f : Fld) (s : State) : (set1 f s).setBanks = s.setBanks := rfl
@[simp] theorem set1_slots (f : Fld) (s : State) : (set1 f s).slots = s.slots := rfl
@[simp] theorem set1_staged (f : Fld) (s : State) : (set1 f s).staged = s.staged := rfl
@[simp] theorem set1_stagedRanges (f : Fld) (s : State) : (set1 f s).stagedRanges = s.stagedRanges := rfl
@[simp] theorem set1_stagedData (f : Fld) (s : State) : (set1 f s).stagedData = s.stagedData := rfl
@[simp] theorem set1_ringq (f : Fld) (s : State) : (set1 f s).ringq = s.ringq := rfl
@[simp] theorem set1_heldAcc (f : Fld) (s : State) : (set1 f s).heldAcc = s.heldAcc := rfl
@[simp] theorem set1_halves (f : Fld) (s : State) : (set1 f s).halves = s.halves := rfl
@[simp] theorem set1_outReads (f : Fld) (s : State) : (set1 f s).outReads = s.outReads := rfl
@[simp] theorem set1_cmds (f : Fld) (s : State) : (set1 f s).cmds = s.cmds := rfl
@[simp] theorem set1_cpls (f : Fld) (s : State) : (set1 f s).cpls = s.cpls := rfl
@[simp] theorem set1_waiting (f : Fld) (s : State) : (set1 f s).waiting = s.waiting := rfl
@[simp] theorem set1_forcePend (f : Fld) (s : State) : (set1 f s).forcePend = s.forcePend := rfl
@[simp] theorem set1_chg (f : Fld) (s : State) : (set1 f s).chg = s.chg := rfl
@[simp] theorem set1_claims (f : Fld) (s : State) : (set1 f s).claims = s.claims := rfl
@[simp] theorem set1_notices (f : Fld) (s : State) : (set1 f s).notices = s.notices := rfl
@[simp] theorem set1_subs (f : Fld) (s : State) : (set1 f s).subs = s.subs := rfl
@[simp] theorem set1_sol (f : Fld) (s : State) : (set1 f s).sol = s.sol := rfl
@[simp] theorem set1_prog (f : Fld) (s : State) : (set1 f s).prog = s.prog := rfl
@[simp] theorem set1_progPages (f : Fld) (s : State) : (set1 f s).progPages = s.progPages := rfl
@[simp] theorem set1_master (f : Fld) (s : State) : (set1 f s).master = s.master := rfl
@[simp] theorem set1_cores (f : Fld) (s : State) : (set1 f s).cores = s.cores := rfl
@[simp] theorem set1_own (f : Fld) (s : State) : (set1 f s).own = s.own := rfl
@[simp] theorem set1_caches (f : Fld) (s : State) : (set1 f s).caches = s.caches := rfl
@[simp] theorem set1_inval (f : Fld) (s : State) : (set1 f s).inval = s.inval := rfl
@[simp] theorem set1_reload (f : Fld) (s : State) : (set1 f s).reload = s.reload := rfl
@[simp] theorem set1_recs (f : Fld) (s : State) : (set1 f s).recs = s.recs := rfl
@[simp] theorem set1_banks (f : Fld) (s : State) : (set1 f s).banks = s.banks := rfl
@[simp] theorem set1_undo (f : Fld) (s : State) : (set1 f s).undo = s.undo := rfl
@[simp] theorem set1_undoOld (f : Fld) (s : State) : (set1 f s).undoOld = s.undoOld := rfl
@[simp] theorem set1_undoFilter (f : Fld) (s : State) : (set1 f s).undoFilter = s.undoFilter := rfl
@[simp] theorem set1_qDirty (f : Fld) (s : State) : (set1 f s).qDirty = s.qDirty := rfl
@[simp] theorem set1_joinDirty (f : Fld) (s : State) : (set1 f s).joinDirty = s.joinDirty := rfl
@[simp] theorem set1_regq (f : Fld) (s : State) : (set1 f s).regq = s.regq := rfl
@[simp] theorem set1_regErrs (f : Fld) (s : State) : (set1 f s).regErrs = s.regErrs := rfl
@[simp] theorem set1_stalled (f : Fld) (s : State) : (set1 f s).stalled = s.stalled := rfl
@[simp] theorem set1_canMap (f : Fld) (s : State) : (set1 f s).canMap = s.canMap := rfl
@[simp] theorem set1_canQ (f : Fld) (s : State) : (set1 f s).canQ = s.canQ := rfl
@[simp] theorem set1_safe (f : Fld) (s : State) : (set1 f s).safe = s.safe := rfl
@[simp] theorem set1_safeC (f : Fld) (s : State) : (set1 f s).safeC = s.safeC := rfl
@[simp] theorem set1_dgrams (f : Fld) (s : State) : (set1 f s).dgrams = s.dgrams := rfl
@[simp] theorem set1_jla (f : Fld) (s : State) : (set1 f s).jla = s.jla := rfl
@[simp] theorem set1_tim (f : Fld) (s : State) : (set1 f s).tim = s.tim := rfl
@[simp] theorem set1_bbs (f : Fld) (s : State) : (set1 f s).bbs = s.bbs := rfl
@[simp] theorem set1_dma (f : Fld) (s : State) : (set1 f s).dma = s.dma := rfl

/-! clr changes regs only -/

@[simp] theorem clr_pending (f : Fld) (s : State) : (clr f s).pending = s.pending := rfl
@[simp] theorem clr_mem (f : Fld) (s : State) : (clr f s).mem = s.mem := rfl
@[simp] theorem clr_freeCtr (f : Fld) (s : State) : (clr f s).freeCtr = s.freeCtr := rfl
@[simp] theorem clr_out (f : Fld) (s : State) : (clr f s).out = s.out := rfl
@[simp] theorem clr_evFifo (f : Fld) (s : State) : (clr f s).evFifo = s.evFifo := rfl
@[simp] theorem clr_evOpen (f : Fld) (s : State) : (clr f s).evOpen = s.evOpen := rfl
@[simp] theorem clr_evLatch (f : Fld) (s : State) : (clr f s).evLatch = s.evLatch := rfl
@[simp] theorem clr_evHeld (f : Fld) (s : State) : (clr f s).evHeld = s.evHeld := rfl
@[simp] theorem clr_extIrq (f : Fld) (s : State) : (clr f s).extIrq = s.extIrq := rfl
@[simp] theorem clr_glnCopies (f : Fld) (s : State) : (clr f s).glnCopies = s.glnCopies := rfl
@[simp] theorem clr_creds (f : Fld) (s : State) : (clr f s).creds = s.creds := rfl
@[simp] theorem clr_prevCreds (f : Fld) (s : State) : (clr f s).prevCreds = s.prevCreds := rfl
@[simp] theorem clr_journalBuf (f : Fld) (s : State) : (clr f s).journalBuf = s.journalBuf := rfl
@[simp] theorem clr_journal (f : Fld) (s : State) : (clr f s).journal = s.journal := rfl
@[simp] theorem clr_bases (f : Fld) (s : State) : (clr f s).bases = s.bases := rfl
@[simp] theorem clr_setBanks (f : Fld) (s : State) : (clr f s).setBanks = s.setBanks := rfl
@[simp] theorem clr_slots (f : Fld) (s : State) : (clr f s).slots = s.slots := rfl
@[simp] theorem clr_staged (f : Fld) (s : State) : (clr f s).staged = s.staged := rfl
@[simp] theorem clr_stagedRanges (f : Fld) (s : State) : (clr f s).stagedRanges = s.stagedRanges := rfl
@[simp] theorem clr_stagedData (f : Fld) (s : State) : (clr f s).stagedData = s.stagedData := rfl
@[simp] theorem clr_ringq (f : Fld) (s : State) : (clr f s).ringq = s.ringq := rfl
@[simp] theorem clr_heldAcc (f : Fld) (s : State) : (clr f s).heldAcc = s.heldAcc := rfl
@[simp] theorem clr_halves (f : Fld) (s : State) : (clr f s).halves = s.halves := rfl
@[simp] theorem clr_outReads (f : Fld) (s : State) : (clr f s).outReads = s.outReads := rfl
@[simp] theorem clr_cmds (f : Fld) (s : State) : (clr f s).cmds = s.cmds := rfl
@[simp] theorem clr_cpls (f : Fld) (s : State) : (clr f s).cpls = s.cpls := rfl
@[simp] theorem clr_waiting (f : Fld) (s : State) : (clr f s).waiting = s.waiting := rfl
@[simp] theorem clr_forcePend (f : Fld) (s : State) : (clr f s).forcePend = s.forcePend := rfl
@[simp] theorem clr_chg (f : Fld) (s : State) : (clr f s).chg = s.chg := rfl
@[simp] theorem clr_claims (f : Fld) (s : State) : (clr f s).claims = s.claims := rfl
@[simp] theorem clr_notices (f : Fld) (s : State) : (clr f s).notices = s.notices := rfl
@[simp] theorem clr_subs (f : Fld) (s : State) : (clr f s).subs = s.subs := rfl
@[simp] theorem clr_sol (f : Fld) (s : State) : (clr f s).sol = s.sol := rfl
@[simp] theorem clr_prog (f : Fld) (s : State) : (clr f s).prog = s.prog := rfl
@[simp] theorem clr_progPages (f : Fld) (s : State) : (clr f s).progPages = s.progPages := rfl
@[simp] theorem clr_master (f : Fld) (s : State) : (clr f s).master = s.master := rfl
@[simp] theorem clr_cores (f : Fld) (s : State) : (clr f s).cores = s.cores := rfl
@[simp] theorem clr_own (f : Fld) (s : State) : (clr f s).own = s.own := rfl
@[simp] theorem clr_caches (f : Fld) (s : State) : (clr f s).caches = s.caches := rfl
@[simp] theorem clr_inval (f : Fld) (s : State) : (clr f s).inval = s.inval := rfl
@[simp] theorem clr_reload (f : Fld) (s : State) : (clr f s).reload = s.reload := rfl
@[simp] theorem clr_recs (f : Fld) (s : State) : (clr f s).recs = s.recs := rfl
@[simp] theorem clr_banks (f : Fld) (s : State) : (clr f s).banks = s.banks := rfl
@[simp] theorem clr_undo (f : Fld) (s : State) : (clr f s).undo = s.undo := rfl
@[simp] theorem clr_undoOld (f : Fld) (s : State) : (clr f s).undoOld = s.undoOld := rfl
@[simp] theorem clr_undoFilter (f : Fld) (s : State) : (clr f s).undoFilter = s.undoFilter := rfl
@[simp] theorem clr_qDirty (f : Fld) (s : State) : (clr f s).qDirty = s.qDirty := rfl
@[simp] theorem clr_joinDirty (f : Fld) (s : State) : (clr f s).joinDirty = s.joinDirty := rfl
@[simp] theorem clr_regq (f : Fld) (s : State) : (clr f s).regq = s.regq := rfl
@[simp] theorem clr_regErrs (f : Fld) (s : State) : (clr f s).regErrs = s.regErrs := rfl
@[simp] theorem clr_stalled (f : Fld) (s : State) : (clr f s).stalled = s.stalled := rfl
@[simp] theorem clr_canMap (f : Fld) (s : State) : (clr f s).canMap = s.canMap := rfl
@[simp] theorem clr_canQ (f : Fld) (s : State) : (clr f s).canQ = s.canQ := rfl
@[simp] theorem clr_safe (f : Fld) (s : State) : (clr f s).safe = s.safe := rfl
@[simp] theorem clr_safeC (f : Fld) (s : State) : (clr f s).safeC = s.safeC := rfl
@[simp] theorem clr_dgrams (f : Fld) (s : State) : (clr f s).dgrams = s.dgrams := rfl
@[simp] theorem clr_jla (f : Fld) (s : State) : (clr f s).jla = s.jla := rfl
@[simp] theorem clr_tim (f : Fld) (s : State) : (clr f s).tim = s.tim := rfl
@[simp] theorem clr_bbs (f : Fld) (s : State) : (clr f s).bbs = s.bbs := rfl
@[simp] theorem clr_dma (f : Fld) (s : State) : (clr f s).dma = s.dma := rfl

/-! inc changes regs only -/

@[simp] theorem inc_pending (f : Fld) (s : State) : (inc f s).pending = s.pending := rfl
@[simp] theorem inc_mem (f : Fld) (s : State) : (inc f s).mem = s.mem := rfl
@[simp] theorem inc_freeCtr (f : Fld) (s : State) : (inc f s).freeCtr = s.freeCtr := rfl
@[simp] theorem inc_out (f : Fld) (s : State) : (inc f s).out = s.out := rfl
@[simp] theorem inc_evFifo (f : Fld) (s : State) : (inc f s).evFifo = s.evFifo := rfl
@[simp] theorem inc_evOpen (f : Fld) (s : State) : (inc f s).evOpen = s.evOpen := rfl
@[simp] theorem inc_evLatch (f : Fld) (s : State) : (inc f s).evLatch = s.evLatch := rfl
@[simp] theorem inc_evHeld (f : Fld) (s : State) : (inc f s).evHeld = s.evHeld := rfl
@[simp] theorem inc_extIrq (f : Fld) (s : State) : (inc f s).extIrq = s.extIrq := rfl
@[simp] theorem inc_glnCopies (f : Fld) (s : State) : (inc f s).glnCopies = s.glnCopies := rfl
@[simp] theorem inc_creds (f : Fld) (s : State) : (inc f s).creds = s.creds := rfl
@[simp] theorem inc_prevCreds (f : Fld) (s : State) : (inc f s).prevCreds = s.prevCreds := rfl
@[simp] theorem inc_journalBuf (f : Fld) (s : State) : (inc f s).journalBuf = s.journalBuf := rfl
@[simp] theorem inc_journal (f : Fld) (s : State) : (inc f s).journal = s.journal := rfl
@[simp] theorem inc_bases (f : Fld) (s : State) : (inc f s).bases = s.bases := rfl
@[simp] theorem inc_setBanks (f : Fld) (s : State) : (inc f s).setBanks = s.setBanks := rfl
@[simp] theorem inc_slots (f : Fld) (s : State) : (inc f s).slots = s.slots := rfl
@[simp] theorem inc_staged (f : Fld) (s : State) : (inc f s).staged = s.staged := rfl
@[simp] theorem inc_stagedRanges (f : Fld) (s : State) : (inc f s).stagedRanges = s.stagedRanges := rfl
@[simp] theorem inc_stagedData (f : Fld) (s : State) : (inc f s).stagedData = s.stagedData := rfl
@[simp] theorem inc_ringq (f : Fld) (s : State) : (inc f s).ringq = s.ringq := rfl
@[simp] theorem inc_heldAcc (f : Fld) (s : State) : (inc f s).heldAcc = s.heldAcc := rfl
@[simp] theorem inc_halves (f : Fld) (s : State) : (inc f s).halves = s.halves := rfl
@[simp] theorem inc_outReads (f : Fld) (s : State) : (inc f s).outReads = s.outReads := rfl
@[simp] theorem inc_cmds (f : Fld) (s : State) : (inc f s).cmds = s.cmds := rfl
@[simp] theorem inc_cpls (f : Fld) (s : State) : (inc f s).cpls = s.cpls := rfl
@[simp] theorem inc_waiting (f : Fld) (s : State) : (inc f s).waiting = s.waiting := rfl
@[simp] theorem inc_forcePend (f : Fld) (s : State) : (inc f s).forcePend = s.forcePend := rfl
@[simp] theorem inc_chg (f : Fld) (s : State) : (inc f s).chg = s.chg := rfl
@[simp] theorem inc_claims (f : Fld) (s : State) : (inc f s).claims = s.claims := rfl
@[simp] theorem inc_notices (f : Fld) (s : State) : (inc f s).notices = s.notices := rfl
@[simp] theorem inc_subs (f : Fld) (s : State) : (inc f s).subs = s.subs := rfl
@[simp] theorem inc_sol (f : Fld) (s : State) : (inc f s).sol = s.sol := rfl
@[simp] theorem inc_prog (f : Fld) (s : State) : (inc f s).prog = s.prog := rfl
@[simp] theorem inc_progPages (f : Fld) (s : State) : (inc f s).progPages = s.progPages := rfl
@[simp] theorem inc_master (f : Fld) (s : State) : (inc f s).master = s.master := rfl
@[simp] theorem inc_cores (f : Fld) (s : State) : (inc f s).cores = s.cores := rfl
@[simp] theorem inc_own (f : Fld) (s : State) : (inc f s).own = s.own := rfl
@[simp] theorem inc_caches (f : Fld) (s : State) : (inc f s).caches = s.caches := rfl
@[simp] theorem inc_inval (f : Fld) (s : State) : (inc f s).inval = s.inval := rfl
@[simp] theorem inc_reload (f : Fld) (s : State) : (inc f s).reload = s.reload := rfl
@[simp] theorem inc_recs (f : Fld) (s : State) : (inc f s).recs = s.recs := rfl
@[simp] theorem inc_banks (f : Fld) (s : State) : (inc f s).banks = s.banks := rfl
@[simp] theorem inc_undo (f : Fld) (s : State) : (inc f s).undo = s.undo := rfl
@[simp] theorem inc_undoOld (f : Fld) (s : State) : (inc f s).undoOld = s.undoOld := rfl
@[simp] theorem inc_undoFilter (f : Fld) (s : State) : (inc f s).undoFilter = s.undoFilter := rfl
@[simp] theorem inc_qDirty (f : Fld) (s : State) : (inc f s).qDirty = s.qDirty := rfl
@[simp] theorem inc_joinDirty (f : Fld) (s : State) : (inc f s).joinDirty = s.joinDirty := rfl
@[simp] theorem inc_regq (f : Fld) (s : State) : (inc f s).regq = s.regq := rfl
@[simp] theorem inc_regErrs (f : Fld) (s : State) : (inc f s).regErrs = s.regErrs := rfl
@[simp] theorem inc_stalled (f : Fld) (s : State) : (inc f s).stalled = s.stalled := rfl
@[simp] theorem inc_canMap (f : Fld) (s : State) : (inc f s).canMap = s.canMap := rfl
@[simp] theorem inc_canQ (f : Fld) (s : State) : (inc f s).canQ = s.canQ := rfl
@[simp] theorem inc_safe (f : Fld) (s : State) : (inc f s).safe = s.safe := rfl
@[simp] theorem inc_safeC (f : Fld) (s : State) : (inc f s).safeC = s.safeC := rfl
@[simp] theorem inc_dgrams (f : Fld) (s : State) : (inc f s).dgrams = s.dgrams := rfl
@[simp] theorem inc_jla (f : Fld) (s : State) : (inc f s).jla = s.jla := rfl
@[simp] theorem inc_tim (f : Fld) (s : State) : (inc f s).tim = s.tim := rfl
@[simp] theorem inc_bbs (f : Fld) (s : State) : (inc f s).bbs = s.bbs := rfl
@[simp] theorem inc_dma (f : Fld) (s : State) : (inc f s).dma = s.dma := rfl

/-! incSat changes regs only -/

@[simp] theorem incSat_pending (f : Fld) (k : Nat) (s : State) : (incSat f k s).pending = s.pending := rfl
@[simp] theorem incSat_mem (f : Fld) (k : Nat) (s : State) : (incSat f k s).mem = s.mem := rfl
@[simp] theorem incSat_freeCtr (f : Fld) (k : Nat) (s : State) : (incSat f k s).freeCtr = s.freeCtr := rfl
@[simp] theorem incSat_out (f : Fld) (k : Nat) (s : State) : (incSat f k s).out = s.out := rfl
@[simp] theorem incSat_evFifo (f : Fld) (k : Nat) (s : State) : (incSat f k s).evFifo = s.evFifo := rfl
@[simp] theorem incSat_evOpen (f : Fld) (k : Nat) (s : State) : (incSat f k s).evOpen = s.evOpen := rfl
@[simp] theorem incSat_evLatch (f : Fld) (k : Nat) (s : State) : (incSat f k s).evLatch = s.evLatch := rfl
@[simp] theorem incSat_evHeld (f : Fld) (k : Nat) (s : State) : (incSat f k s).evHeld = s.evHeld := rfl
@[simp] theorem incSat_extIrq (f : Fld) (k : Nat) (s : State) : (incSat f k s).extIrq = s.extIrq := rfl
@[simp] theorem incSat_glnCopies (f : Fld) (k : Nat) (s : State) : (incSat f k s).glnCopies = s.glnCopies := rfl
@[simp] theorem incSat_creds (f : Fld) (k : Nat) (s : State) : (incSat f k s).creds = s.creds := rfl
@[simp] theorem incSat_prevCreds (f : Fld) (k : Nat) (s : State) : (incSat f k s).prevCreds = s.prevCreds := rfl
@[simp] theorem incSat_journalBuf (f : Fld) (k : Nat) (s : State) : (incSat f k s).journalBuf = s.journalBuf := rfl
@[simp] theorem incSat_journal (f : Fld) (k : Nat) (s : State) : (incSat f k s).journal = s.journal := rfl
@[simp] theorem incSat_bases (f : Fld) (k : Nat) (s : State) : (incSat f k s).bases = s.bases := rfl
@[simp] theorem incSat_setBanks (f : Fld) (k : Nat) (s : State) : (incSat f k s).setBanks = s.setBanks := rfl
@[simp] theorem incSat_slots (f : Fld) (k : Nat) (s : State) : (incSat f k s).slots = s.slots := rfl
@[simp] theorem incSat_staged (f : Fld) (k : Nat) (s : State) : (incSat f k s).staged = s.staged := rfl
@[simp] theorem incSat_stagedRanges (f : Fld) (k : Nat) (s : State) : (incSat f k s).stagedRanges = s.stagedRanges := rfl
@[simp] theorem incSat_stagedData (f : Fld) (k : Nat) (s : State) : (incSat f k s).stagedData = s.stagedData := rfl
@[simp] theorem incSat_ringq (f : Fld) (k : Nat) (s : State) : (incSat f k s).ringq = s.ringq := rfl
@[simp] theorem incSat_heldAcc (f : Fld) (k : Nat) (s : State) : (incSat f k s).heldAcc = s.heldAcc := rfl
@[simp] theorem incSat_halves (f : Fld) (k : Nat) (s : State) : (incSat f k s).halves = s.halves := rfl
@[simp] theorem incSat_outReads (f : Fld) (k : Nat) (s : State) : (incSat f k s).outReads = s.outReads := rfl
@[simp] theorem incSat_cmds (f : Fld) (k : Nat) (s : State) : (incSat f k s).cmds = s.cmds := rfl
@[simp] theorem incSat_cpls (f : Fld) (k : Nat) (s : State) : (incSat f k s).cpls = s.cpls := rfl
@[simp] theorem incSat_waiting (f : Fld) (k : Nat) (s : State) : (incSat f k s).waiting = s.waiting := rfl
@[simp] theorem incSat_forcePend (f : Fld) (k : Nat) (s : State) : (incSat f k s).forcePend = s.forcePend := rfl
@[simp] theorem incSat_chg (f : Fld) (k : Nat) (s : State) : (incSat f k s).chg = s.chg := rfl
@[simp] theorem incSat_claims (f : Fld) (k : Nat) (s : State) : (incSat f k s).claims = s.claims := rfl
@[simp] theorem incSat_notices (f : Fld) (k : Nat) (s : State) : (incSat f k s).notices = s.notices := rfl
@[simp] theorem incSat_subs (f : Fld) (k : Nat) (s : State) : (incSat f k s).subs = s.subs := rfl
@[simp] theorem incSat_sol (f : Fld) (k : Nat) (s : State) : (incSat f k s).sol = s.sol := rfl
@[simp] theorem incSat_prog (f : Fld) (k : Nat) (s : State) : (incSat f k s).prog = s.prog := rfl
@[simp] theorem incSat_progPages (f : Fld) (k : Nat) (s : State) : (incSat f k s).progPages = s.progPages := rfl
@[simp] theorem incSat_master (f : Fld) (k : Nat) (s : State) : (incSat f k s).master = s.master := rfl
@[simp] theorem incSat_cores (f : Fld) (k : Nat) (s : State) : (incSat f k s).cores = s.cores := rfl
@[simp] theorem incSat_own (f : Fld) (k : Nat) (s : State) : (incSat f k s).own = s.own := rfl
@[simp] theorem incSat_caches (f : Fld) (k : Nat) (s : State) : (incSat f k s).caches = s.caches := rfl
@[simp] theorem incSat_inval (f : Fld) (k : Nat) (s : State) : (incSat f k s).inval = s.inval := rfl
@[simp] theorem incSat_reload (f : Fld) (k : Nat) (s : State) : (incSat f k s).reload = s.reload := rfl
@[simp] theorem incSat_recs (f : Fld) (k : Nat) (s : State) : (incSat f k s).recs = s.recs := rfl
@[simp] theorem incSat_banks (f : Fld) (k : Nat) (s : State) : (incSat f k s).banks = s.banks := rfl
@[simp] theorem incSat_undo (f : Fld) (k : Nat) (s : State) : (incSat f k s).undo = s.undo := rfl
@[simp] theorem incSat_undoOld (f : Fld) (k : Nat) (s : State) : (incSat f k s).undoOld = s.undoOld := rfl
@[simp] theorem incSat_undoFilter (f : Fld) (k : Nat) (s : State) : (incSat f k s).undoFilter = s.undoFilter := rfl
@[simp] theorem incSat_qDirty (f : Fld) (k : Nat) (s : State) : (incSat f k s).qDirty = s.qDirty := rfl
@[simp] theorem incSat_joinDirty (f : Fld) (k : Nat) (s : State) : (incSat f k s).joinDirty = s.joinDirty := rfl
@[simp] theorem incSat_regq (f : Fld) (k : Nat) (s : State) : (incSat f k s).regq = s.regq := rfl
@[simp] theorem incSat_regErrs (f : Fld) (k : Nat) (s : State) : (incSat f k s).regErrs = s.regErrs := rfl
@[simp] theorem incSat_stalled (f : Fld) (k : Nat) (s : State) : (incSat f k s).stalled = s.stalled := rfl
@[simp] theorem incSat_canMap (f : Fld) (k : Nat) (s : State) : (incSat f k s).canMap = s.canMap := rfl
@[simp] theorem incSat_canQ (f : Fld) (k : Nat) (s : State) : (incSat f k s).canQ = s.canQ := rfl
@[simp] theorem incSat_safe (f : Fld) (k : Nat) (s : State) : (incSat f k s).safe = s.safe := rfl
@[simp] theorem incSat_safeC (f : Fld) (k : Nat) (s : State) : (incSat f k s).safeC = s.safeC := rfl
@[simp] theorem incSat_dgrams (f : Fld) (k : Nat) (s : State) : (incSat f k s).dgrams = s.dgrams := rfl
@[simp] theorem incSat_jla (f : Fld) (k : Nat) (s : State) : (incSat f k s).jla = s.jla := rfl
@[simp] theorem incSat_tim (f : Fld) (k : Nat) (s : State) : (incSat f k s).tim = s.tim := rfl
@[simp] theorem incSat_bbs (f : Fld) (k : Nat) (s : State) : (incSat f k s).bbs = s.bbs := rfl
@[simp] theorem incSat_dma (f : Fld) (k : Nat) (s : State) : (incSat f k s).dma = s.dma := rfl

/-! wrS changes regs only -/

@[simp] theorem wrS_pending (f : Fld) (x : Int) (s : State) : (wrS f x s).pending = s.pending := rfl
@[simp] theorem wrS_mem (f : Fld) (x : Int) (s : State) : (wrS f x s).mem = s.mem := rfl
@[simp] theorem wrS_freeCtr (f : Fld) (x : Int) (s : State) : (wrS f x s).freeCtr = s.freeCtr := rfl
@[simp] theorem wrS_out (f : Fld) (x : Int) (s : State) : (wrS f x s).out = s.out := rfl
@[simp] theorem wrS_evFifo (f : Fld) (x : Int) (s : State) : (wrS f x s).evFifo = s.evFifo := rfl
@[simp] theorem wrS_evOpen (f : Fld) (x : Int) (s : State) : (wrS f x s).evOpen = s.evOpen := rfl
@[simp] theorem wrS_evLatch (f : Fld) (x : Int) (s : State) : (wrS f x s).evLatch = s.evLatch := rfl
@[simp] theorem wrS_evHeld (f : Fld) (x : Int) (s : State) : (wrS f x s).evHeld = s.evHeld := rfl
@[simp] theorem wrS_extIrq (f : Fld) (x : Int) (s : State) : (wrS f x s).extIrq = s.extIrq := rfl
@[simp] theorem wrS_glnCopies (f : Fld) (x : Int) (s : State) : (wrS f x s).glnCopies = s.glnCopies := rfl
@[simp] theorem wrS_creds (f : Fld) (x : Int) (s : State) : (wrS f x s).creds = s.creds := rfl
@[simp] theorem wrS_prevCreds (f : Fld) (x : Int) (s : State) : (wrS f x s).prevCreds = s.prevCreds := rfl
@[simp] theorem wrS_journalBuf (f : Fld) (x : Int) (s : State) : (wrS f x s).journalBuf = s.journalBuf := rfl
@[simp] theorem wrS_journal (f : Fld) (x : Int) (s : State) : (wrS f x s).journal = s.journal := rfl
@[simp] theorem wrS_bases (f : Fld) (x : Int) (s : State) : (wrS f x s).bases = s.bases := rfl
@[simp] theorem wrS_setBanks (f : Fld) (x : Int) (s : State) : (wrS f x s).setBanks = s.setBanks := rfl
@[simp] theorem wrS_slots (f : Fld) (x : Int) (s : State) : (wrS f x s).slots = s.slots := rfl
@[simp] theorem wrS_staged (f : Fld) (x : Int) (s : State) : (wrS f x s).staged = s.staged := rfl
@[simp] theorem wrS_stagedRanges (f : Fld) (x : Int) (s : State) : (wrS f x s).stagedRanges = s.stagedRanges := rfl
@[simp] theorem wrS_stagedData (f : Fld) (x : Int) (s : State) : (wrS f x s).stagedData = s.stagedData := rfl
@[simp] theorem wrS_ringq (f : Fld) (x : Int) (s : State) : (wrS f x s).ringq = s.ringq := rfl
@[simp] theorem wrS_heldAcc (f : Fld) (x : Int) (s : State) : (wrS f x s).heldAcc = s.heldAcc := rfl
@[simp] theorem wrS_halves (f : Fld) (x : Int) (s : State) : (wrS f x s).halves = s.halves := rfl
@[simp] theorem wrS_outReads (f : Fld) (x : Int) (s : State) : (wrS f x s).outReads = s.outReads := rfl
@[simp] theorem wrS_cmds (f : Fld) (x : Int) (s : State) : (wrS f x s).cmds = s.cmds := rfl
@[simp] theorem wrS_cpls (f : Fld) (x : Int) (s : State) : (wrS f x s).cpls = s.cpls := rfl
@[simp] theorem wrS_waiting (f : Fld) (x : Int) (s : State) : (wrS f x s).waiting = s.waiting := rfl
@[simp] theorem wrS_forcePend (f : Fld) (x : Int) (s : State) : (wrS f x s).forcePend = s.forcePend := rfl
@[simp] theorem wrS_chg (f : Fld) (x : Int) (s : State) : (wrS f x s).chg = s.chg := rfl
@[simp] theorem wrS_claims (f : Fld) (x : Int) (s : State) : (wrS f x s).claims = s.claims := rfl
@[simp] theorem wrS_notices (f : Fld) (x : Int) (s : State) : (wrS f x s).notices = s.notices := rfl
@[simp] theorem wrS_subs (f : Fld) (x : Int) (s : State) : (wrS f x s).subs = s.subs := rfl
@[simp] theorem wrS_sol (f : Fld) (x : Int) (s : State) : (wrS f x s).sol = s.sol := rfl
@[simp] theorem wrS_prog (f : Fld) (x : Int) (s : State) : (wrS f x s).prog = s.prog := rfl
@[simp] theorem wrS_progPages (f : Fld) (x : Int) (s : State) : (wrS f x s).progPages = s.progPages := rfl
@[simp] theorem wrS_master (f : Fld) (x : Int) (s : State) : (wrS f x s).master = s.master := rfl
@[simp] theorem wrS_cores (f : Fld) (x : Int) (s : State) : (wrS f x s).cores = s.cores := rfl
@[simp] theorem wrS_own (f : Fld) (x : Int) (s : State) : (wrS f x s).own = s.own := rfl
@[simp] theorem wrS_caches (f : Fld) (x : Int) (s : State) : (wrS f x s).caches = s.caches := rfl
@[simp] theorem wrS_inval (f : Fld) (x : Int) (s : State) : (wrS f x s).inval = s.inval := rfl
@[simp] theorem wrS_reload (f : Fld) (x : Int) (s : State) : (wrS f x s).reload = s.reload := rfl
@[simp] theorem wrS_recs (f : Fld) (x : Int) (s : State) : (wrS f x s).recs = s.recs := rfl
@[simp] theorem wrS_banks (f : Fld) (x : Int) (s : State) : (wrS f x s).banks = s.banks := rfl
@[simp] theorem wrS_undo (f : Fld) (x : Int) (s : State) : (wrS f x s).undo = s.undo := rfl
@[simp] theorem wrS_undoOld (f : Fld) (x : Int) (s : State) : (wrS f x s).undoOld = s.undoOld := rfl
@[simp] theorem wrS_undoFilter (f : Fld) (x : Int) (s : State) : (wrS f x s).undoFilter = s.undoFilter := rfl
@[simp] theorem wrS_qDirty (f : Fld) (x : Int) (s : State) : (wrS f x s).qDirty = s.qDirty := rfl
@[simp] theorem wrS_joinDirty (f : Fld) (x : Int) (s : State) : (wrS f x s).joinDirty = s.joinDirty := rfl
@[simp] theorem wrS_regq (f : Fld) (x : Int) (s : State) : (wrS f x s).regq = s.regq := rfl
@[simp] theorem wrS_regErrs (f : Fld) (x : Int) (s : State) : (wrS f x s).regErrs = s.regErrs := rfl
@[simp] theorem wrS_stalled (f : Fld) (x : Int) (s : State) : (wrS f x s).stalled = s.stalled := rfl
@[simp] theorem wrS_canMap (f : Fld) (x : Int) (s : State) : (wrS f x s).canMap = s.canMap := rfl
@[simp] theorem wrS_canQ (f : Fld) (x : Int) (s : State) : (wrS f x s).canQ = s.canQ := rfl
@[simp] theorem wrS_safe (f : Fld) (x : Int) (s : State) : (wrS f x s).safe = s.safe := rfl
@[simp] theorem wrS_safeC (f : Fld) (x : Int) (s : State) : (wrS f x s).safeC = s.safeC := rfl
@[simp] theorem wrS_dgrams (f : Fld) (x : Int) (s : State) : (wrS f x s).dgrams = s.dgrams := rfl
@[simp] theorem wrS_jla (f : Fld) (x : Int) (s : State) : (wrS f x s).jla = s.jla := rfl
@[simp] theorem wrS_tim (f : Fld) (x : Int) (s : State) : (wrS f x s).tim = s.tim := rfl
@[simp] theorem wrS_bbs (f : Fld) (x : Int) (s : State) : (wrS f x s).bbs = s.bbs := rfl
@[simp] theorem wrS_dma (f : Fld) (x : Int) (s : State) : (wrS f x s).dma = s.dma := rfl

/-! memWrite changes mem only -/

@[simp] theorem memWrite_pending (a : Nat) (bs : List Byte) (s : State) : (memWrite a bs s).pending = s.pending := rfl
@[simp] theorem memWrite_regs (a : Nat) (bs : List Byte) (s : State) : (memWrite a bs s).regs = s.regs := rfl
@[simp] theorem memWrite_freeCtr (a : Nat) (bs : List Byte) (s : State) : (memWrite a bs s).freeCtr = s.freeCtr := rfl
@[simp] theorem memWrite_out (a : Nat) (bs : List Byte) (s : State) : (memWrite a bs s).out = s.out := rfl
@[simp] theorem memWrite_evFifo (a : Nat) (bs : List Byte) (s : State) : (memWrite a bs s).evFifo = s.evFifo := rfl
@[simp] theorem memWrite_evOpen (a : Nat) (bs : List Byte) (s : State) : (memWrite a bs s).evOpen = s.evOpen := rfl
@[simp] theorem memWrite_evLatch (a : Nat) (bs : List Byte) (s : State) : (memWrite a bs s).evLatch = s.evLatch := rfl
@[simp] theorem memWrite_evHeld (a : Nat) (bs : List Byte) (s : State) : (memWrite a bs s).evHeld = s.evHeld := rfl
@[simp] theorem memWrite_extIrq (a : Nat) (bs : List Byte) (s : State) : (memWrite a bs s).extIrq = s.extIrq := rfl
@[simp] theorem memWrite_glnCopies (a : Nat) (bs : List Byte) (s : State) : (memWrite a bs s).glnCopies = s.glnCopies := rfl
@[simp] theorem memWrite_creds (a : Nat) (bs : List Byte) (s : State) : (memWrite a bs s).creds = s.creds := rfl
@[simp] theorem memWrite_prevCreds (a : Nat) (bs : List Byte) (s : State) : (memWrite a bs s).prevCreds = s.prevCreds := rfl
@[simp] theorem memWrite_journalBuf (a : Nat) (bs : List Byte) (s : State) : (memWrite a bs s).journalBuf = s.journalBuf := rfl
@[simp] theorem memWrite_journal (a : Nat) (bs : List Byte) (s : State) : (memWrite a bs s).journal = s.journal := rfl
@[simp] theorem memWrite_bases (a : Nat) (bs : List Byte) (s : State) : (memWrite a bs s).bases = s.bases := rfl
@[simp] theorem memWrite_setBanks (a : Nat) (bs : List Byte) (s : State) : (memWrite a bs s).setBanks = s.setBanks := rfl
@[simp] theorem memWrite_slots (a : Nat) (bs : List Byte) (s : State) : (memWrite a bs s).slots = s.slots := rfl
@[simp] theorem memWrite_staged (a : Nat) (bs : List Byte) (s : State) : (memWrite a bs s).staged = s.staged := rfl
@[simp] theorem memWrite_stagedRanges (a : Nat) (bs : List Byte) (s : State) : (memWrite a bs s).stagedRanges = s.stagedRanges := rfl
@[simp] theorem memWrite_stagedData (a : Nat) (bs : List Byte) (s : State) : (memWrite a bs s).stagedData = s.stagedData := rfl
@[simp] theorem memWrite_ringq (a : Nat) (bs : List Byte) (s : State) : (memWrite a bs s).ringq = s.ringq := rfl
@[simp] theorem memWrite_heldAcc (a : Nat) (bs : List Byte) (s : State) : (memWrite a bs s).heldAcc = s.heldAcc := rfl
@[simp] theorem memWrite_halves (a : Nat) (bs : List Byte) (s : State) : (memWrite a bs s).halves = s.halves := rfl
@[simp] theorem memWrite_outReads (a : Nat) (bs : List Byte) (s : State) : (memWrite a bs s).outReads = s.outReads := rfl
@[simp] theorem memWrite_cmds (a : Nat) (bs : List Byte) (s : State) : (memWrite a bs s).cmds = s.cmds := rfl
@[simp] theorem memWrite_cpls (a : Nat) (bs : List Byte) (s : State) : (memWrite a bs s).cpls = s.cpls := rfl
@[simp] theorem memWrite_waiting (a : Nat) (bs : List Byte) (s : State) : (memWrite a bs s).waiting = s.waiting := rfl
@[simp] theorem memWrite_forcePend (a : Nat) (bs : List Byte) (s : State) : (memWrite a bs s).forcePend = s.forcePend := rfl
@[simp] theorem memWrite_chg (a : Nat) (bs : List Byte) (s : State) : (memWrite a bs s).chg = s.chg := rfl
@[simp] theorem memWrite_claims (a : Nat) (bs : List Byte) (s : State) : (memWrite a bs s).claims = s.claims := rfl
@[simp] theorem memWrite_notices (a : Nat) (bs : List Byte) (s : State) : (memWrite a bs s).notices = s.notices := rfl
@[simp] theorem memWrite_subs (a : Nat) (bs : List Byte) (s : State) : (memWrite a bs s).subs = s.subs := rfl
@[simp] theorem memWrite_sol (a : Nat) (bs : List Byte) (s : State) : (memWrite a bs s).sol = s.sol := rfl
@[simp] theorem memWrite_prog (a : Nat) (bs : List Byte) (s : State) : (memWrite a bs s).prog = s.prog := rfl
@[simp] theorem memWrite_progPages (a : Nat) (bs : List Byte) (s : State) : (memWrite a bs s).progPages = s.progPages := rfl
@[simp] theorem memWrite_master (a : Nat) (bs : List Byte) (s : State) : (memWrite a bs s).master = s.master := rfl
@[simp] theorem memWrite_cores (a : Nat) (bs : List Byte) (s : State) : (memWrite a bs s).cores = s.cores := rfl
@[simp] theorem memWrite_own (a : Nat) (bs : List Byte) (s : State) : (memWrite a bs s).own = s.own := rfl
@[simp] theorem memWrite_caches (a : Nat) (bs : List Byte) (s : State) : (memWrite a bs s).caches = s.caches := rfl
@[simp] theorem memWrite_inval (a : Nat) (bs : List Byte) (s : State) : (memWrite a bs s).inval = s.inval := rfl
@[simp] theorem memWrite_reload (a : Nat) (bs : List Byte) (s : State) : (memWrite a bs s).reload = s.reload := rfl
@[simp] theorem memWrite_recs (a : Nat) (bs : List Byte) (s : State) : (memWrite a bs s).recs = s.recs := rfl
@[simp] theorem memWrite_banks (a : Nat) (bs : List Byte) (s : State) : (memWrite a bs s).banks = s.banks := rfl
@[simp] theorem memWrite_undo (a : Nat) (bs : List Byte) (s : State) : (memWrite a bs s).undo = s.undo := rfl
@[simp] theorem memWrite_undoOld (a : Nat) (bs : List Byte) (s : State) : (memWrite a bs s).undoOld = s.undoOld := rfl
@[simp] theorem memWrite_undoFilter (a : Nat) (bs : List Byte) (s : State) : (memWrite a bs s).undoFilter = s.undoFilter := rfl
@[simp] theorem memWrite_qDirty (a : Nat) (bs : List Byte) (s : State) : (memWrite a bs s).qDirty = s.qDirty := rfl
@[simp] theorem memWrite_joinDirty (a : Nat) (bs : List Byte) (s : State) : (memWrite a bs s).joinDirty = s.joinDirty := rfl
@[simp] theorem memWrite_regq (a : Nat) (bs : List Byte) (s : State) : (memWrite a bs s).regq = s.regq := rfl
@[simp] theorem memWrite_regErrs (a : Nat) (bs : List Byte) (s : State) : (memWrite a bs s).regErrs = s.regErrs := rfl
@[simp] theorem memWrite_stalled (a : Nat) (bs : List Byte) (s : State) : (memWrite a bs s).stalled = s.stalled := rfl
@[simp] theorem memWrite_canMap (a : Nat) (bs : List Byte) (s : State) : (memWrite a bs s).canMap = s.canMap := rfl
@[simp] theorem memWrite_canQ (a : Nat) (bs : List Byte) (s : State) : (memWrite a bs s).canQ = s.canQ := rfl
@[simp] theorem memWrite_safe (a : Nat) (bs : List Byte) (s : State) : (memWrite a bs s).safe = s.safe := rfl
@[simp] theorem memWrite_safeC (a : Nat) (bs : List Byte) (s : State) : (memWrite a bs s).safeC = s.safeC := rfl
@[simp] theorem memWrite_dgrams (a : Nat) (bs : List Byte) (s : State) : (memWrite a bs s).dgrams = s.dgrams := rfl
@[simp] theorem memWrite_jla (a : Nat) (bs : List Byte) (s : State) : (memWrite a bs s).jla = s.jla := rfl
@[simp] theorem memWrite_tim (a : Nat) (bs : List Byte) (s : State) : (memWrite a bs s).tim = s.tim := rfl
@[simp] theorem memWrite_bbs (a : Nat) (bs : List Byte) (s : State) : (memWrite a bs s).bbs = s.bbs := rfl
@[simp] theorem memWrite_dma (a : Nat) (bs : List Byte) (s : State) : (memWrite a bs s).dma = s.dma := rfl

/-! memPut changes mem only -/

@[simp] theorem memPut_pending (a n v : Nat) (s : State) : (memPut a n v s).pending = s.pending := rfl
@[simp] theorem memPut_regs (a n v : Nat) (s : State) : (memPut a n v s).regs = s.regs := rfl
@[simp] theorem memPut_freeCtr (a n v : Nat) (s : State) : (memPut a n v s).freeCtr = s.freeCtr := rfl
@[simp] theorem memPut_out (a n v : Nat) (s : State) : (memPut a n v s).out = s.out := rfl
@[simp] theorem memPut_evFifo (a n v : Nat) (s : State) : (memPut a n v s).evFifo = s.evFifo := rfl
@[simp] theorem memPut_evOpen (a n v : Nat) (s : State) : (memPut a n v s).evOpen = s.evOpen := rfl
@[simp] theorem memPut_evLatch (a n v : Nat) (s : State) : (memPut a n v s).evLatch = s.evLatch := rfl
@[simp] theorem memPut_evHeld (a n v : Nat) (s : State) : (memPut a n v s).evHeld = s.evHeld := rfl
@[simp] theorem memPut_extIrq (a n v : Nat) (s : State) : (memPut a n v s).extIrq = s.extIrq := rfl
@[simp] theorem memPut_glnCopies (a n v : Nat) (s : State) : (memPut a n v s).glnCopies = s.glnCopies := rfl
@[simp] theorem memPut_creds (a n v : Nat) (s : State) : (memPut a n v s).creds = s.creds := rfl
@[simp] theorem memPut_prevCreds (a n v : Nat) (s : State) : (memPut a n v s).prevCreds = s.prevCreds := rfl
@[simp] theorem memPut_journalBuf (a n v : Nat) (s : State) : (memPut a n v s).journalBuf = s.journalBuf := rfl
@[simp] theorem memPut_journal (a n v : Nat) (s : State) : (memPut a n v s).journal = s.journal := rfl
@[simp] theorem memPut_bases (a n v : Nat) (s : State) : (memPut a n v s).bases = s.bases := rfl
@[simp] theorem memPut_setBanks (a n v : Nat) (s : State) : (memPut a n v s).setBanks = s.setBanks := rfl
@[simp] theorem memPut_slots (a n v : Nat) (s : State) : (memPut a n v s).slots = s.slots := rfl
@[simp] theorem memPut_staged (a n v : Nat) (s : State) : (memPut a n v s).staged = s.staged := rfl
@[simp] theorem memPut_stagedRanges (a n v : Nat) (s : State) : (memPut a n v s).stagedRanges = s.stagedRanges := rfl
@[simp] theorem memPut_stagedData (a n v : Nat) (s : State) : (memPut a n v s).stagedData = s.stagedData := rfl
@[simp] theorem memPut_ringq (a n v : Nat) (s : State) : (memPut a n v s).ringq = s.ringq := rfl
@[simp] theorem memPut_heldAcc (a n v : Nat) (s : State) : (memPut a n v s).heldAcc = s.heldAcc := rfl
@[simp] theorem memPut_halves (a n v : Nat) (s : State) : (memPut a n v s).halves = s.halves := rfl
@[simp] theorem memPut_outReads (a n v : Nat) (s : State) : (memPut a n v s).outReads = s.outReads := rfl
@[simp] theorem memPut_cmds (a n v : Nat) (s : State) : (memPut a n v s).cmds = s.cmds := rfl
@[simp] theorem memPut_cpls (a n v : Nat) (s : State) : (memPut a n v s).cpls = s.cpls := rfl
@[simp] theorem memPut_waiting (a n v : Nat) (s : State) : (memPut a n v s).waiting = s.waiting := rfl
@[simp] theorem memPut_forcePend (a n v : Nat) (s : State) : (memPut a n v s).forcePend = s.forcePend := rfl
@[simp] theorem memPut_chg (a n v : Nat) (s : State) : (memPut a n v s).chg = s.chg := rfl
@[simp] theorem memPut_claims (a n v : Nat) (s : State) : (memPut a n v s).claims = s.claims := rfl
@[simp] theorem memPut_notices (a n v : Nat) (s : State) : (memPut a n v s).notices = s.notices := rfl
@[simp] theorem memPut_subs (a n v : Nat) (s : State) : (memPut a n v s).subs = s.subs := rfl
@[simp] theorem memPut_sol (a n v : Nat) (s : State) : (memPut a n v s).sol = s.sol := rfl
@[simp] theorem memPut_prog (a n v : Nat) (s : State) : (memPut a n v s).prog = s.prog := rfl
@[simp] theorem memPut_progPages (a n v : Nat) (s : State) : (memPut a n v s).progPages = s.progPages := rfl
@[simp] theorem memPut_master (a n v : Nat) (s : State) : (memPut a n v s).master = s.master := rfl
@[simp] theorem memPut_cores (a n v : Nat) (s : State) : (memPut a n v s).cores = s.cores := rfl
@[simp] theorem memPut_own (a n v : Nat) (s : State) : (memPut a n v s).own = s.own := rfl
@[simp] theorem memPut_caches (a n v : Nat) (s : State) : (memPut a n v s).caches = s.caches := rfl
@[simp] theorem memPut_inval (a n v : Nat) (s : State) : (memPut a n v s).inval = s.inval := rfl
@[simp] theorem memPut_reload (a n v : Nat) (s : State) : (memPut a n v s).reload = s.reload := rfl
@[simp] theorem memPut_recs (a n v : Nat) (s : State) : (memPut a n v s).recs = s.recs := rfl
@[simp] theorem memPut_banks (a n v : Nat) (s : State) : (memPut a n v s).banks = s.banks := rfl
@[simp] theorem memPut_undo (a n v : Nat) (s : State) : (memPut a n v s).undo = s.undo := rfl
@[simp] theorem memPut_undoOld (a n v : Nat) (s : State) : (memPut a n v s).undoOld = s.undoOld := rfl
@[simp] theorem memPut_undoFilter (a n v : Nat) (s : State) : (memPut a n v s).undoFilter = s.undoFilter := rfl
@[simp] theorem memPut_qDirty (a n v : Nat) (s : State) : (memPut a n v s).qDirty = s.qDirty := rfl
@[simp] theorem memPut_joinDirty (a n v : Nat) (s : State) : (memPut a n v s).joinDirty = s.joinDirty := rfl
@[simp] theorem memPut_regq (a n v : Nat) (s : State) : (memPut a n v s).regq = s.regq := rfl
@[simp] theorem memPut_regErrs (a n v : Nat) (s : State) : (memPut a n v s).regErrs = s.regErrs := rfl
@[simp] theorem memPut_stalled (a n v : Nat) (s : State) : (memPut a n v s).stalled = s.stalled := rfl
@[simp] theorem memPut_canMap (a n v : Nat) (s : State) : (memPut a n v s).canMap = s.canMap := rfl
@[simp] theorem memPut_canQ (a n v : Nat) (s : State) : (memPut a n v s).canQ = s.canQ := rfl
@[simp] theorem memPut_safe (a n v : Nat) (s : State) : (memPut a n v s).safe = s.safe := rfl
@[simp] theorem memPut_safeC (a n v : Nat) (s : State) : (memPut a n v s).safeC = s.safeC := rfl
@[simp] theorem memPut_dgrams (a n v : Nat) (s : State) : (memPut a n v s).dgrams = s.dgrams := rfl
@[simp] theorem memPut_jla (a n v : Nat) (s : State) : (memPut a n v s).jla = s.jla := rfl
@[simp] theorem memPut_tim (a n v : Nat) (s : State) : (memPut a n v s).tim = s.tim := rfl
@[simp] theorem memPut_bbs (a n v : Nat) (s : State) : (memPut a n v s).bbs = s.bbs := rfl
@[simp] theorem memPut_dma (a n v : Nat) (s : State) : (memPut a n v s).dma = s.dma := rfl

/-! memClear changes mem only -/

@[simp] theorem memClear_pending (lo hi : Nat) (s : State) : (memClear lo hi s).pending = s.pending := rfl
@[simp] theorem memClear_regs (lo hi : Nat) (s : State) : (memClear lo hi s).regs = s.regs := rfl
@[simp] theorem memClear_freeCtr (lo hi : Nat) (s : State) : (memClear lo hi s).freeCtr = s.freeCtr := rfl
@[simp] theorem memClear_out (lo hi : Nat) (s : State) : (memClear lo hi s).out = s.out := rfl
@[simp] theorem memClear_evFifo (lo hi : Nat) (s : State) : (memClear lo hi s).evFifo = s.evFifo := rfl
@[simp] theorem memClear_evOpen (lo hi : Nat) (s : State) : (memClear lo hi s).evOpen = s.evOpen := rfl
@[simp] theorem memClear_evLatch (lo hi : Nat) (s : State) : (memClear lo hi s).evLatch = s.evLatch := rfl
@[simp] theorem memClear_evHeld (lo hi : Nat) (s : State) : (memClear lo hi s).evHeld = s.evHeld := rfl
@[simp] theorem memClear_extIrq (lo hi : Nat) (s : State) : (memClear lo hi s).extIrq = s.extIrq := rfl
@[simp] theorem memClear_glnCopies (lo hi : Nat) (s : State) : (memClear lo hi s).glnCopies = s.glnCopies := rfl
@[simp] theorem memClear_creds (lo hi : Nat) (s : State) : (memClear lo hi s).creds = s.creds := rfl
@[simp] theorem memClear_prevCreds (lo hi : Nat) (s : State) : (memClear lo hi s).prevCreds = s.prevCreds := rfl
@[simp] theorem memClear_journalBuf (lo hi : Nat) (s : State) : (memClear lo hi s).journalBuf = s.journalBuf := rfl
@[simp] theorem memClear_journal (lo hi : Nat) (s : State) : (memClear lo hi s).journal = s.journal := rfl
@[simp] theorem memClear_bases (lo hi : Nat) (s : State) : (memClear lo hi s).bases = s.bases := rfl
@[simp] theorem memClear_setBanks (lo hi : Nat) (s : State) : (memClear lo hi s).setBanks = s.setBanks := rfl
@[simp] theorem memClear_slots (lo hi : Nat) (s : State) : (memClear lo hi s).slots = s.slots := rfl
@[simp] theorem memClear_staged (lo hi : Nat) (s : State) : (memClear lo hi s).staged = s.staged := rfl
@[simp] theorem memClear_stagedRanges (lo hi : Nat) (s : State) : (memClear lo hi s).stagedRanges = s.stagedRanges := rfl
@[simp] theorem memClear_stagedData (lo hi : Nat) (s : State) : (memClear lo hi s).stagedData = s.stagedData := rfl
@[simp] theorem memClear_ringq (lo hi : Nat) (s : State) : (memClear lo hi s).ringq = s.ringq := rfl
@[simp] theorem memClear_heldAcc (lo hi : Nat) (s : State) : (memClear lo hi s).heldAcc = s.heldAcc := rfl
@[simp] theorem memClear_halves (lo hi : Nat) (s : State) : (memClear lo hi s).halves = s.halves := rfl
@[simp] theorem memClear_outReads (lo hi : Nat) (s : State) : (memClear lo hi s).outReads = s.outReads := rfl
@[simp] theorem memClear_cmds (lo hi : Nat) (s : State) : (memClear lo hi s).cmds = s.cmds := rfl
@[simp] theorem memClear_cpls (lo hi : Nat) (s : State) : (memClear lo hi s).cpls = s.cpls := rfl
@[simp] theorem memClear_waiting (lo hi : Nat) (s : State) : (memClear lo hi s).waiting = s.waiting := rfl
@[simp] theorem memClear_forcePend (lo hi : Nat) (s : State) : (memClear lo hi s).forcePend = s.forcePend := rfl
@[simp] theorem memClear_chg (lo hi : Nat) (s : State) : (memClear lo hi s).chg = s.chg := rfl
@[simp] theorem memClear_claims (lo hi : Nat) (s : State) : (memClear lo hi s).claims = s.claims := rfl
@[simp] theorem memClear_notices (lo hi : Nat) (s : State) : (memClear lo hi s).notices = s.notices := rfl
@[simp] theorem memClear_subs (lo hi : Nat) (s : State) : (memClear lo hi s).subs = s.subs := rfl
@[simp] theorem memClear_sol (lo hi : Nat) (s : State) : (memClear lo hi s).sol = s.sol := rfl
@[simp] theorem memClear_prog (lo hi : Nat) (s : State) : (memClear lo hi s).prog = s.prog := rfl
@[simp] theorem memClear_progPages (lo hi : Nat) (s : State) : (memClear lo hi s).progPages = s.progPages := rfl
@[simp] theorem memClear_master (lo hi : Nat) (s : State) : (memClear lo hi s).master = s.master := rfl
@[simp] theorem memClear_cores (lo hi : Nat) (s : State) : (memClear lo hi s).cores = s.cores := rfl
@[simp] theorem memClear_own (lo hi : Nat) (s : State) : (memClear lo hi s).own = s.own := rfl
@[simp] theorem memClear_caches (lo hi : Nat) (s : State) : (memClear lo hi s).caches = s.caches := rfl
@[simp] theorem memClear_inval (lo hi : Nat) (s : State) : (memClear lo hi s).inval = s.inval := rfl
@[simp] theorem memClear_reload (lo hi : Nat) (s : State) : (memClear lo hi s).reload = s.reload := rfl
@[simp] theorem memClear_recs (lo hi : Nat) (s : State) : (memClear lo hi s).recs = s.recs := rfl
@[simp] theorem memClear_banks (lo hi : Nat) (s : State) : (memClear lo hi s).banks = s.banks := rfl
@[simp] theorem memClear_undo (lo hi : Nat) (s : State) : (memClear lo hi s).undo = s.undo := rfl
@[simp] theorem memClear_undoOld (lo hi : Nat) (s : State) : (memClear lo hi s).undoOld = s.undoOld := rfl
@[simp] theorem memClear_undoFilter (lo hi : Nat) (s : State) : (memClear lo hi s).undoFilter = s.undoFilter := rfl
@[simp] theorem memClear_qDirty (lo hi : Nat) (s : State) : (memClear lo hi s).qDirty = s.qDirty := rfl
@[simp] theorem memClear_joinDirty (lo hi : Nat) (s : State) : (memClear lo hi s).joinDirty = s.joinDirty := rfl
@[simp] theorem memClear_regq (lo hi : Nat) (s : State) : (memClear lo hi s).regq = s.regq := rfl
@[simp] theorem memClear_regErrs (lo hi : Nat) (s : State) : (memClear lo hi s).regErrs = s.regErrs := rfl
@[simp] theorem memClear_stalled (lo hi : Nat) (s : State) : (memClear lo hi s).stalled = s.stalled := rfl
@[simp] theorem memClear_canMap (lo hi : Nat) (s : State) : (memClear lo hi s).canMap = s.canMap := rfl
@[simp] theorem memClear_canQ (lo hi : Nat) (s : State) : (memClear lo hi s).canQ = s.canQ := rfl
@[simp] theorem memClear_safe (lo hi : Nat) (s : State) : (memClear lo hi s).safe = s.safe := rfl
@[simp] theorem memClear_safeC (lo hi : Nat) (s : State) : (memClear lo hi s).safeC = s.safeC := rfl
@[simp] theorem memClear_dgrams (lo hi : Nat) (s : State) : (memClear lo hi s).dgrams = s.dgrams := rfl
@[simp] theorem memClear_jla (lo hi : Nat) (s : State) : (memClear lo hi s).jla = s.jla := rfl
@[simp] theorem memClear_tim (lo hi : Nat) (s : State) : (memClear lo hi s).tim = s.tim := rfl
@[simp] theorem memClear_bbs (lo hi : Nat) (s : State) : (memClear lo hi s).bbs = s.bbs := rfl
@[simp] theorem memClear_dma (lo hi : Nat) (s : State) : (memClear lo hi s).dma = s.dma := rfl

/-! emit changes out only -/

@[simp] theorem emit_pending (e : Emit) (s : State) : (emit e s).pending = s.pending := rfl
@[simp] theorem emit_regs (e : Emit) (s : State) : (emit e s).regs = s.regs := rfl
@[simp] theorem emit_mem (e : Emit) (s : State) : (emit e s).mem = s.mem := rfl
@[simp] theorem emit_freeCtr (e : Emit) (s : State) : (emit e s).freeCtr = s.freeCtr := rfl
@[simp] theorem emit_evFifo (e : Emit) (s : State) : (emit e s).evFifo = s.evFifo := rfl
@[simp] theorem emit_evOpen (e : Emit) (s : State) : (emit e s).evOpen = s.evOpen := rfl
@[simp] theorem emit_evLatch (e : Emit) (s : State) : (emit e s).evLatch = s.evLatch := rfl
@[simp] theorem emit_evHeld (e : Emit) (s : State) : (emit e s).evHeld = s.evHeld := rfl
@[simp] theorem emit_extIrq (e : Emit) (s : State) : (emit e s).extIrq = s.extIrq := rfl
@[simp] theorem emit_glnCopies (e : Emit) (s : State) : (emit e s).glnCopies = s.glnCopies := rfl
@[simp] theorem emit_creds (e : Emit) (s : State) : (emit e s).creds = s.creds := rfl
@[simp] theorem emit_prevCreds (e : Emit) (s : State) : (emit e s).prevCreds = s.prevCreds := rfl
@[simp] theorem emit_journalBuf (e : Emit) (s : State) : (emit e s).journalBuf = s.journalBuf := rfl
@[simp] theorem emit_journal (e : Emit) (s : State) : (emit e s).journal = s.journal := rfl
@[simp] theorem emit_bases (e : Emit) (s : State) : (emit e s).bases = s.bases := rfl
@[simp] theorem emit_setBanks (e : Emit) (s : State) : (emit e s).setBanks = s.setBanks := rfl
@[simp] theorem emit_slots (e : Emit) (s : State) : (emit e s).slots = s.slots := rfl
@[simp] theorem emit_staged (e : Emit) (s : State) : (emit e s).staged = s.staged := rfl
@[simp] theorem emit_stagedRanges (e : Emit) (s : State) : (emit e s).stagedRanges = s.stagedRanges := rfl
@[simp] theorem emit_stagedData (e : Emit) (s : State) : (emit e s).stagedData = s.stagedData := rfl
@[simp] theorem emit_ringq (e : Emit) (s : State) : (emit e s).ringq = s.ringq := rfl
@[simp] theorem emit_heldAcc (e : Emit) (s : State) : (emit e s).heldAcc = s.heldAcc := rfl
@[simp] theorem emit_halves (e : Emit) (s : State) : (emit e s).halves = s.halves := rfl
@[simp] theorem emit_outReads (e : Emit) (s : State) : (emit e s).outReads = s.outReads := rfl
@[simp] theorem emit_cmds (e : Emit) (s : State) : (emit e s).cmds = s.cmds := rfl
@[simp] theorem emit_cpls (e : Emit) (s : State) : (emit e s).cpls = s.cpls := rfl
@[simp] theorem emit_waiting (e : Emit) (s : State) : (emit e s).waiting = s.waiting := rfl
@[simp] theorem emit_forcePend (e : Emit) (s : State) : (emit e s).forcePend = s.forcePend := rfl
@[simp] theorem emit_chg (e : Emit) (s : State) : (emit e s).chg = s.chg := rfl
@[simp] theorem emit_claims (e : Emit) (s : State) : (emit e s).claims = s.claims := rfl
@[simp] theorem emit_notices (e : Emit) (s : State) : (emit e s).notices = s.notices := rfl
@[simp] theorem emit_subs (e : Emit) (s : State) : (emit e s).subs = s.subs := rfl
@[simp] theorem emit_sol (e : Emit) (s : State) : (emit e s).sol = s.sol := rfl
@[simp] theorem emit_prog (e : Emit) (s : State) : (emit e s).prog = s.prog := rfl
@[simp] theorem emit_progPages (e : Emit) (s : State) : (emit e s).progPages = s.progPages := rfl
@[simp] theorem emit_master (e : Emit) (s : State) : (emit e s).master = s.master := rfl
@[simp] theorem emit_cores (e : Emit) (s : State) : (emit e s).cores = s.cores := rfl
@[simp] theorem emit_own (e : Emit) (s : State) : (emit e s).own = s.own := rfl
@[simp] theorem emit_caches (e : Emit) (s : State) : (emit e s).caches = s.caches := rfl
@[simp] theorem emit_inval (e : Emit) (s : State) : (emit e s).inval = s.inval := rfl
@[simp] theorem emit_reload (e : Emit) (s : State) : (emit e s).reload = s.reload := rfl
@[simp] theorem emit_recs (e : Emit) (s : State) : (emit e s).recs = s.recs := rfl
@[simp] theorem emit_banks (e : Emit) (s : State) : (emit e s).banks = s.banks := rfl
@[simp] theorem emit_undo (e : Emit) (s : State) : (emit e s).undo = s.undo := rfl
@[simp] theorem emit_undoOld (e : Emit) (s : State) : (emit e s).undoOld = s.undoOld := rfl
@[simp] theorem emit_undoFilter (e : Emit) (s : State) : (emit e s).undoFilter = s.undoFilter := rfl
@[simp] theorem emit_qDirty (e : Emit) (s : State) : (emit e s).qDirty = s.qDirty := rfl
@[simp] theorem emit_joinDirty (e : Emit) (s : State) : (emit e s).joinDirty = s.joinDirty := rfl
@[simp] theorem emit_regq (e : Emit) (s : State) : (emit e s).regq = s.regq := rfl
@[simp] theorem emit_regErrs (e : Emit) (s : State) : (emit e s).regErrs = s.regErrs := rfl
@[simp] theorem emit_stalled (e : Emit) (s : State) : (emit e s).stalled = s.stalled := rfl
@[simp] theorem emit_canMap (e : Emit) (s : State) : (emit e s).canMap = s.canMap := rfl
@[simp] theorem emit_canQ (e : Emit) (s : State) : (emit e s).canQ = s.canQ := rfl
@[simp] theorem emit_safe (e : Emit) (s : State) : (emit e s).safe = s.safe := rfl
@[simp] theorem emit_safeC (e : Emit) (s : State) : (emit e s).safeC = s.safeC := rfl
@[simp] theorem emit_dgrams (e : Emit) (s : State) : (emit e s).dgrams = s.dgrams := rfl
@[simp] theorem emit_jla (e : Emit) (s : State) : (emit e s).jla = s.jla := rfl
@[simp] theorem emit_tim (e : Emit) (s : State) : (emit e s).tim = s.tim := rfl
@[simp] theorem emit_bbs (e : Emit) (s : State) : (emit e s).bbs = s.bbs := rfl
@[simp] theorem emit_dma (e : Emit) (s : State) : (emit e s).dma = s.dma := rfl

/-! useFree changes freeCtr only -/

@[simp] theorem useFree_pending (s : State) : (useFree s).pending = s.pending := rfl
@[simp] theorem useFree_regs (s : State) : (useFree s).regs = s.regs := rfl
@[simp] theorem useFree_mem (s : State) : (useFree s).mem = s.mem := rfl
@[simp] theorem useFree_out (s : State) : (useFree s).out = s.out := rfl
@[simp] theorem useFree_evFifo (s : State) : (useFree s).evFifo = s.evFifo := rfl
@[simp] theorem useFree_evOpen (s : State) : (useFree s).evOpen = s.evOpen := rfl
@[simp] theorem useFree_evLatch (s : State) : (useFree s).evLatch = s.evLatch := rfl
@[simp] theorem useFree_evHeld (s : State) : (useFree s).evHeld = s.evHeld := rfl
@[simp] theorem useFree_extIrq (s : State) : (useFree s).extIrq = s.extIrq := rfl
@[simp] theorem useFree_glnCopies (s : State) : (useFree s).glnCopies = s.glnCopies := rfl
@[simp] theorem useFree_creds (s : State) : (useFree s).creds = s.creds := rfl
@[simp] theorem useFree_prevCreds (s : State) : (useFree s).prevCreds = s.prevCreds := rfl
@[simp] theorem useFree_journalBuf (s : State) : (useFree s).journalBuf = s.journalBuf := rfl
@[simp] theorem useFree_journal (s : State) : (useFree s).journal = s.journal := rfl
@[simp] theorem useFree_bases (s : State) : (useFree s).bases = s.bases := rfl
@[simp] theorem useFree_setBanks (s : State) : (useFree s).setBanks = s.setBanks := rfl
@[simp] theorem useFree_slots (s : State) : (useFree s).slots = s.slots := rfl
@[simp] theorem useFree_staged (s : State) : (useFree s).staged = s.staged := rfl
@[simp] theorem useFree_stagedRanges (s : State) : (useFree s).stagedRanges = s.stagedRanges := rfl
@[simp] theorem useFree_stagedData (s : State) : (useFree s).stagedData = s.stagedData := rfl
@[simp] theorem useFree_ringq (s : State) : (useFree s).ringq = s.ringq := rfl
@[simp] theorem useFree_heldAcc (s : State) : (useFree s).heldAcc = s.heldAcc := rfl
@[simp] theorem useFree_halves (s : State) : (useFree s).halves = s.halves := rfl
@[simp] theorem useFree_outReads (s : State) : (useFree s).outReads = s.outReads := rfl
@[simp] theorem useFree_cmds (s : State) : (useFree s).cmds = s.cmds := rfl
@[simp] theorem useFree_cpls (s : State) : (useFree s).cpls = s.cpls := rfl
@[simp] theorem useFree_waiting (s : State) : (useFree s).waiting = s.waiting := rfl
@[simp] theorem useFree_forcePend (s : State) : (useFree s).forcePend = s.forcePend := rfl
@[simp] theorem useFree_chg (s : State) : (useFree s).chg = s.chg := rfl
@[simp] theorem useFree_claims (s : State) : (useFree s).claims = s.claims := rfl
@[simp] theorem useFree_notices (s : State) : (useFree s).notices = s.notices := rfl
@[simp] theorem useFree_subs (s : State) : (useFree s).subs = s.subs := rfl
@[simp] theorem useFree_sol (s : State) : (useFree s).sol = s.sol := rfl
@[simp] theorem useFree_prog (s : State) : (useFree s).prog = s.prog := rfl
@[simp] theorem useFree_progPages (s : State) : (useFree s).progPages = s.progPages := rfl
@[simp] theorem useFree_master (s : State) : (useFree s).master = s.master := rfl
@[simp] theorem useFree_cores (s : State) : (useFree s).cores = s.cores := rfl
@[simp] theorem useFree_own (s : State) : (useFree s).own = s.own := rfl
@[simp] theorem useFree_caches (s : State) : (useFree s).caches = s.caches := rfl
@[simp] theorem useFree_inval (s : State) : (useFree s).inval = s.inval := rfl
@[simp] theorem useFree_reload (s : State) : (useFree s).reload = s.reload := rfl
@[simp] theorem useFree_recs (s : State) : (useFree s).recs = s.recs := rfl
@[simp] theorem useFree_banks (s : State) : (useFree s).banks = s.banks := rfl
@[simp] theorem useFree_undo (s : State) : (useFree s).undo = s.undo := rfl
@[simp] theorem useFree_undoOld (s : State) : (useFree s).undoOld = s.undoOld := rfl
@[simp] theorem useFree_undoFilter (s : State) : (useFree s).undoFilter = s.undoFilter := rfl
@[simp] theorem useFree_qDirty (s : State) : (useFree s).qDirty = s.qDirty := rfl
@[simp] theorem useFree_joinDirty (s : State) : (useFree s).joinDirty = s.joinDirty := rfl
@[simp] theorem useFree_regq (s : State) : (useFree s).regq = s.regq := rfl
@[simp] theorem useFree_regErrs (s : State) : (useFree s).regErrs = s.regErrs := rfl
@[simp] theorem useFree_stalled (s : State) : (useFree s).stalled = s.stalled := rfl
@[simp] theorem useFree_canMap (s : State) : (useFree s).canMap = s.canMap := rfl
@[simp] theorem useFree_canQ (s : State) : (useFree s).canQ = s.canQ := rfl
@[simp] theorem useFree_safe (s : State) : (useFree s).safe = s.safe := rfl
@[simp] theorem useFree_safeC (s : State) : (useFree s).safeC = s.safeC := rfl
@[simp] theorem useFree_dgrams (s : State) : (useFree s).dgrams = s.dgrams := rfl
@[simp] theorem useFree_jla (s : State) : (useFree s).jla = s.jla := rfl
@[simp] theorem useFree_tim (s : State) : (useFree s).tim = s.tim := rfl
@[simp] theorem useFree_bbs (s : State) : (useFree s).bbs = s.bbs := rfl
@[simp] theorem useFree_dma (s : State) : (useFree s).dma = s.dma := rfl

end Sys2Proof.Laws
end

