-- ==== Sys2Proof/Laws/Store.lean ====
section
/-! SUPPORT. Laws of sparse storage: what a read answers after a write, and that the operations keep rising keys and the
canonical form of memory. -/

namespace Sys2Proof.Laws

open Sys2Proof.Machine

theorem sorted_iff {β : Type} (l : List (Nat × β)) : Assoc.sorted l = true ↔ l.Pairwise (fun a b => a.1 < b.1) := by
  induction l with
  | nil => simp [Assoc.sorted]
  | cons p l ih =>
    cases l with
    | nil => simp [Assoc.sorted]
    | cons q l =>
      simp only [Assoc.sorted, Bool.and_eq_true, decide_eq_true_eq, ih, List.pairwise_cons]
      constructor
      · rintro ⟨h, h1, h2⟩
        refine ⟨fun a ha => ?_, h1, h2⟩
        rcases List.mem_cons.1 ha with rfl | ha
        · exact h
        · exact h.trans (h1 a ha)
      · rintro ⟨h, h1, h2⟩
        exact ⟨h q (by simp), h1, h2⟩

theorem mem_put {β : Type} (k : Nat) (v : β) (l : List (Nat × β)) (p : Nat × β) (h : p ∈ Assoc.put k v l) :
    p = (k, v) ∨ p ∈ l := by
  induction l with
  | nil => simpa [Assoc.put] using h
  | cons q l ih =>
    simp only [Assoc.put] at h
    split at h
    · simpa using h
    · split at h
      · simp at h ⊢; tauto
      · simp at h ⊢
        rcases h with h | h
        · exact .inr (.inl h)
        · rcases ih h with h | h <;> simp [h]

theorem put_sorted {β : Type} (k : Nat) (v : β) (l : List (Nat × β)) (h : Assoc.sorted l = true) :
    Assoc.sorted (Assoc.put k v l) = true := by
  rw [sorted_iff] at h ⊢
  induction l with
  | nil => simp [Assoc.put]
  | cons q l ih =>
    rw [List.pairwise_cons] at h
    simp only [Assoc.put]
    split
    · refine List.pairwise_cons.2 ⟨fun a ha => ?_, List.pairwise_cons.2 h⟩
      rcases List.mem_cons.1 ha with rfl | ha
      · assumption
      · exact lt_trans ‹_› (h.1 a ha)
    · split
      · refine List.pairwise_cons.2 ⟨fun a ha => ?_, h.2⟩
        have := h.1 a ha
        simp only [] at *; omega
      · refine List.pairwise_cons.2 ⟨fun a ha => ?_, ih h.2⟩
        rcases mem_put _ _ _ _ ha with rfl | ha
        · simp only [] at *; omega
        · exact h.1 a ha

theorem drop_sublist {β : Type} (k : Nat) (l : List (Nat × β)) : (Assoc.drop k l).Sublist l := by
  induction l with
  | nil => simp [Assoc.drop]
  | cons q l ih =>
    simp only [Assoc.drop]
    split
    · exact List.sublist_cons_self _ _
    · exact ih.cons_cons _

theorem sublist_sorted {β : Type} {l m : List (Nat × β)} (h : l.Sublist m) (hm : Assoc.sorted m = true) :
    Assoc.sorted l = true := by
  rw [sorted_iff] at hm ⊢
  exact hm.sublist h

theorem drop_sorted {β : Type} (k : Nat) (l : List (Nat × β)) (h : Assoc.sorted l = true) :
    Assoc.sorted (Assoc.drop k l) = true := sublist_sorted (drop_sublist k l) h

theorem filter_sorted {β : Type} (p : Nat × β → Bool) (l : List (Nat × β)) (h : Assoc.sorted l = true) :
    Assoc.sorted (l.filter p) = true := sublist_sorted List.filter_sublist h

@[simp] theorem find_put {β : Type} (k k' : Nat) (v : β) (l : List (Nat × β)) :
    Assoc.find k' (Assoc.put k v l) = if k' = k then some v else Assoc.find k' l := by
  induction l with
  | nil => simp [Assoc.put, Assoc.find]
  | cons q l ih =>
    simp only [Assoc.put]
    split
    · simp [Assoc.find]
    · split
      · subst_vars; simp only [Assoc.find]; split <;> simp_all
      · simp only [Assoc.find, ih]; split <;> split <;> simp_all

theorem find_none {β : Type} (k : Nat) (l : List (Nat × β)) (h : ∀ p ∈ l, p.1 ≠ k) : Assoc.find k l = none := by
  induction l with
  | nil => rfl
  | cons q l ih =>
    simp only [Assoc.find]
    rw [if_neg (fun e => h q (by simp) e.symm)]
    exact ih (fun p hp => h p (by simp [hp]))

theorem find_drop {β : Type} (k k' : Nat) (l : List (Nat × β)) (h : Assoc.sorted l = true) :
    Assoc.find k' (Assoc.drop k l) = if k' = k then none else Assoc.find k' l := by
  induction l with
  | nil => simp [Assoc.drop, Assoc.find]
  | cons q l ih =>
    have hs := (sorted_iff _).1 h
    rw [List.pairwise_cons] at hs
    have hl : Assoc.sorted l = true := (sorted_iff _).2 hs.2
    simp only [Assoc.drop]
    split
    · rename_i hk
      by_cases hk' : k' = k
      · rw [if_pos hk']
        exact find_none _ _ (fun p hp => by have := hs.1 p hp; omega)
      · rw [if_neg hk']
        simp only [Assoc.find]
        rw [if_neg (by omega)]
    · simp only [Assoc.find, ih hl]
      split
      · rw [if_neg (by omega)]
      · rfl

theorem sublist_wf {l m : List Host.Cell} (h : l.Sublist m) (hm : Memory.wf m = true) : Memory.wf l = true := by
  simp only [Memory.wf, Memory.noDefaults, Bool.and_eq_true, List.all_eq_true] at hm ⊢
  exact ⟨sublist_sorted h hm.1, fun c hc => hm.2 c (h.subset hc)⟩

/-- Every write keeps the canonical form. -/
theorem write_wf (m : List Host.Cell) (a : Nat) (b : Byte) (h : Memory.wf m = true) :
    Memory.wf (Memory.write m a b) = true := by
  unfold Memory.write
  split
  · exact sublist_wf (drop_sublist _ _) h
  · simp only [Memory.wf, Memory.noDefaults, Bool.and_eq_true, List.all_eq_true] at h ⊢
    refine ⟨put_sorted _ _ _ h.1, fun c hc => ?_⟩
    rcases mem_put _ _ _ _ hc with rfl | hc
    · simpa using ‹_›
    · exact h.2 c hc

theorem writeN_wf (m : List Host.Cell) (a : Nat) (bs : List Byte) (h : Memory.wf m = true) :
    Memory.wf (Memory.writeN m a bs) = true := by
  induction bs generalizing m a with
  | nil => exact h
  | cons b bs ih => exact ih _ _ (write_wf m a b h)

theorem filter_wf (m : List Host.Cell) (p : Host.Cell → Bool) (h : Memory.wf m = true) : Memory.wf (m.filter p) = true :=
  sublist_wf List.filter_sublist h

theorem clear_wf (m : List Host.Cell) (lo hi : Nat) (h : Memory.wf m = true) : Memory.wf (Memory.clear m lo hi) = true :=
  filter_wf _ _ h

/-- A read after a write to the same address gives the byte written; every other address reads as before. -/
theorem read_write (m : List Host.Cell) (a b : Nat) (v : Byte) (h : Memory.wf m = true) :
    Memory.read (Memory.write m a v) b = if b = a then v else Memory.read m b := by
  have hs : Assoc.sorted m = true := by
    simp only [Memory.wf, Bool.and_eq_true] at h; exact h.1
  unfold Memory.read Memory.write
  split
  · rw [find_drop _ _ _ hs]
    split <;> simp_all
  · rw [find_put]
    split <;> simp

/-- A write of bytes: the addresses written read the bytes, every other address reads as before. -/
theorem read_writeN (m : List Host.Cell) (a b : Nat) (bs : List Byte) (h : Memory.wf m = true) :
    Memory.read (Memory.writeN m a bs) b = if a ≤ b then (bs[b - a]?).getD (Memory.read m b) else Memory.read m b := by
  induction bs generalizing m a with
  | nil => simp [Memory.writeN]
  | cons v bs ih =>
    rw [Memory.writeN, ih _ _ (write_wf m a v h), read_write m a b v h]
    rcases Nat.lt_trichotomy b a with hb | rfl | hb
    · rw [if_neg (by omega), if_neg (by omega), if_neg (by omega)]
    · rw [if_neg (by omega), if_pos rfl, if_pos (by omega)]
      simp
    · rw [if_pos (by omega), if_neg (by omega), if_pos (by omega)]
      obtain ⟨d, rfl⟩ : ∃ d, b = a + 1 + d := ⟨b - (a + 1), by omega⟩
      have e : a + 1 + d - a = d + 1 := by omega
      simp [e]

/-- Outside the bytes written, memory reads as before. -/
theorem read_writeN_of_outside (m : List Host.Cell) (a b : Nat) (bs : List Byte) (h : Memory.wf m = true)
    (hb : b < a ∨ a + bs.length ≤ b) : Memory.read (Memory.writeN m a bs) b = Memory.read m b := by
  rw [read_writeN m a b bs h]
  split
  · rw [List.getElem?_eq_none (by omega)]; rfl
  · rfl

end Sys2Proof.Laws
end

