-- ==== Sys2Proof/Laws/Ops.lean ====
section
/-! SUPPORT. What the shared operations do: reading a field after an update, raising an event, the audit log, completions,
and the gate of a register write. -/

namespace Sys2Proof.Laws

open Sys2Proof.Machine R

/-! Reading a field -/

@[simp] theorem rd_wr (s : State) (f g : Fld) (v : Nat) :
    rd (wr f v s) g = if g.key = f.key then v % 2 ^ f.width else rd s g := by
  simp only [rd, wr, find_put]
  split <;> rfl

theorem rd_wr_ne (s : State) (f g : Fld) (v : Nat) (h : g.key ≠ f.key) : rd (wr f v s) g = rd s g := by simp [h]

@[simp] theorem on_wr (s : State) (f g : Fld) (v : Nat) :
    on (wr f v s) g = if g.key = f.key then v % 2 ^ f.width != 0 else on s g := by
  simp only [on, rd_wr]; split <;> rfl

theorem set1_eq (f : Fld) (s : State) : set1 f s = wr f 1 s := rfl
theorem clr_eq (f : Fld) (s : State) : clr f s = wr f 0 s := rfl
theorem inc_eq (f : Fld) (s : State) : inc f s = wr f (rd s f + 1) s := rfl
theorem incSat_eq (f : Fld) (k : Nat) (s : State) : incSat f k s = wr f (satAdd f.width (rd s f) k) s := rfl

@[simp] theorem rd_memWrite (s : State) (a : Nat) (bs : List Byte) (g : Fld) : rd (memWrite a bs s) g = rd s g := rfl
@[simp] theorem rd_memPut (s : State) (a n v : Nat) (g : Fld) : rd (memPut a n v s) g = rd s g := rfl
@[simp] theorem rd_memClear (s : State) (lo hi : Nat) (g : Fld) : rd (memClear lo hi s) g = rd s g := rfl
@[simp] theorem rd_emit (s : State) (e : Emit) (g : Fld) : rd (emit e s) g = rd s g := rfl
@[simp] theorem rd_useFree (s : State) (g : Fld) : rd (useFree s) g = rd s g := rfl
@[simp] theorem when_true (g : State → State) (s : State) : when true g s = g s := rfl
@[simp] theorem when_false (g : State → State) (s : State) : when false g s = s := rfl

/-! What an operation may touch among the register fields -/

/-- Fields with a key outside `P` read in `t` as in `s`. -/
def Untouched (P : Nat → Prop) (s t : State) : Prop := ∀ f : Fld, ¬ P f.key → rd t f = rd s f

theorem Untouched.refl (P : Nat → Prop) (s : State) : Untouched P s s := fun _ _ => rfl

theorem Untouched.trans {P : Nat → Prop} {s t u : State} (h : Untouched P s t) (k : Untouched P t u) : Untouched P s u :=
  fun f hf => (k f hf).trans (h f hf)

theorem Untouched.mono {P Q : Nat → Prop} {s t : State} (hPQ : ∀ k, P k → Q k) (h : Untouched P s t) : Untouched Q s t :=
  fun f hf => h f (fun hp => hf (hPQ _ hp))

theorem Untouched.wr {P : Nat → Prop} {s t : State} (f : Fld) (v : Nat) (hf : P f.key) (h : Untouched P s t) :
    Untouched P s (wr f v t) := fun g hg => by
  rw [rd_wr_ne t f g v (fun e => hg (by rw [e]; exact hf))]; exact h g hg

theorem Untouched.regs {P : Nat → Prop} {s t u : State} (e : u.regs = t.regs) (h : Untouched P s t) : Untouched P s u :=
  fun g hg => by rw [← h g hg]; simp only [rd, e]

theorem Untouched.when {P : Nat → Prop} {s t : State} {c : Bool} {g : State → State}
    (hg : ∀ u, Untouched P s u → Untouched P s (g u)) (h : Untouched P s t) : Untouched P s (when c g t) := by
  cases c
  · exact h
  · exact hg _ h

theorem Untouched.foldl {α : Type} {P : Nat → Prop} {s t : State} {f : State → α → State} {l : List α}
    (hf : ∀ u, ∀ x ∈ l, Untouched P s u → Untouched P s (f u x)) (h : Untouched P s t) : Untouched P s (l.foldl f t) := by
  induction l generalizing t with
  | nil => exact h
  | cons x l ih => exact ih (fun u y hy => hf u y (by simp [hy])) (hf _ x (by simp) h)

/-! Raising an event -/

theorem evtKey_cnt (i : Nat) (h : i < 256) : evtKey (GLN_CNT_COUNT i).key := by
  simp only [evtKey, GLN_CNT_COUNT, Fld.key]; omega

theorem evtKey_pend (i : Nat) (h : i < 16) : evtKey (EVC_PEND i).key := by
  simp only [evtKey, EVC_PEND, Fld.key]; omega

theorem glnAdd_untouched (i k : Nat) (s t : State) (hi : i < 256) (h : Untouched evtKey s t) :
    Untouched evtKey s (glnAdd i k t) := Untouched.wr _ _ (evtKey_cnt i hi) h

theorem glnOfSource_lt (src i : Nat) (h : glnOfSource src = some i) : i < 256 := by
  unfold glnOfSource at h
  split at h <;> first | (cases h; decide) | cases h

theorem glnRaise_untouched (src : Nat) (s t : State) (h : Untouched evtKey s t) : Untouched evtKey s (glnRaise src t) := by
  unfold glnRaise glnUser
  refine Untouched.foldl (fun u n hn hu => Untouched.when (fun v hv => glnAdd_untouched _ _ _ _ ?_ hv) hu) ?_
  · have := List.mem_range.1 hn; omega
  · split
    · exact glnAdd_untouched _ _ _ _ (glnOfSource_lt _ _ ‹_›) h
    · exact h

theorem eventPend_untouched (src : Nat) (s t : State) (hs : src < 512) (h : Untouched evtKey s t) :
    Untouched evtKey s (eventPend src t) := by
  unfold eventPend
  refine Untouched.when (fun u hu => ?_) (Untouched.wr _ _ (evtKey_pend _ (by omega)) h)
  dsimp only
  split <;> exact Untouched.regs rfl hu

theorem evtKey_msix (v : Nat) (h : v < 64) : evtKey (I.HBR_MSIXPEND v).key := by
  simp only [evtKey, I.HBR_MSIXPEND, I.EVC_LATCHLOST, ifld, Fld.key]; omega

theorem captureOr_untouched (f : State → State) (r : Report) (s t : State)
    (hf : ∀ u, Untouched evtKey s u → Untouched evtKey s (f u)) (h : Untouched evtKey s t) : Untouched evtKey s (captureOr f r t) := by
  unfold captureOr
  split
  · exact Untouched.regs rfl h
  · exact hf _ (glnAdd_untouched _ _ _ _ (by decide) (Untouched.wr _ _ (.inr (.inl (by decide))) h))

theorem recordBy_untouched (put : Report → State → State) (r : Report) (s t : State)
    (hp : ∀ q, Untouched evtKey s (put q t)) (h : Untouched evtKey s t) : Untouched evtKey s (recordBy put r t) := by
  unfold recordBy
  dsimp only
  split
  · exact hp _
  · exact h

theorem msixLost_untouched (v : Nat) (s t : State) (h : Untouched evtKey s t) : Untouched evtKey s (msixLost v t) := by
  have hp := eventPend_untouched 332 s _ (by decide) (glnRaise_untouched 332 s _
    (((h.wr HBR_OBERR_STATUS 5 (by simp only [evtKey, HBR_OBERR_STATUS, Fld.key]; omega)).wr HBR_OBERR_INIT 17
      (by simp only [evtKey, HBR_OBERR_INIT, Fld.key]; omega)).wr HBR_OBERR_ADDR (rd t (I.HBR_MSIXADDR v))
      (by simp only [evtKey, HBR_OBERR_ADDR, Fld.key]; omega)))
  unfold msixLost obError
  exact recordBy_untouched _ _ _ _ (fun q => captureOr_untouched id q _ _ (fun _ hu => hu) hp) hp

theorem msixRaise_untouched (v : Nat) (s t : State) (h : Untouched evtKey s t) : Untouched evtKey s (msixRaise v t) := by
  unfold msixRaise
  dsimp only
  split
  · exact h.wr _ _ (evtKey_msix _ (Nat.mod_lt _ (by decide)))
  · split
    · exact Untouched.regs rfl h
    · exact msixLost_untouched _ _ _ h

theorem eventDeliver_untouched (src : Nat) (s t : State) (hs : src < 512) (h : Untouched evtKey s t) :
    Untouched evtKey s (eventDeliver src t) :=
  Untouched.when (fun u hu => msixRaise_untouched _ _ u hu) (eventPend_untouched _ _ _ hs h)

theorem raiseQuiet_untouched (src : Nat) (s t : State) (hs : src < 512) (h : Untouched evtKey s t) :
    Untouched evtKey s (raiseQuiet src t) := by
  unfold raiseQuiet
  dsimp only
  split
  · exact eventDeliver_untouched _ _ _ hs (glnRaise_untouched _ _ _ h)
  · exact glnRaise_untouched _ _ _ h

theorem capture_untouched (r : Report) (s t : State) (h : Untouched evtKey s t) : Untouched evtKey s (capture r t) := by
  exact captureOr_untouched _ _ _ _ (fun _ hu => raiseQuiet_untouched _ _ _ (by decide) hu) h

theorem evcTake_untouched (r : Report) (s t : State) (hr : r.source < 512) (h : Untouched evtKey s t) :
    Untouched evtKey s (evcTake r t) := by
  have h1 := eventDeliver_untouched _ _ _ hr h
  exact recordBy_untouched _ _ _ _ (fun q => capture_untouched q _ _ h1) h1

/-- A raise writes no field beside those of `evtKey`. -/
theorem raiseWith_untouched (src d : Nat) (c : Bool) (s t : State) (hs : src < 512) (h : Untouched evtKey s t) :
    Untouched evtKey s (raiseWith src d c t) := by
  unfold raiseWith
  dsimp only
  split
  · exact evcTake_untouched _ _ _ hs (glnRaise_untouched _ _ _ h)
  · split
    · exact Untouched.regs rfl (glnRaise_untouched _ _ _ h)
    · exact Untouched.wr _ _ (.inr (.inr (.inr (.inl rfl)))) (glnRaise_untouched _ _ _ h)

theorem rd_raiseWith (src d : Nat) (c : Bool) (s : State) (g : Fld) (hs : src < 512) (hg : ¬ evtKey g.key) :
    rd (raiseWith src d c s) g = rd s g := raiseWith_untouched src d c s s hs (Untouched.refl _ _) g hg

theorem rd_raise (src : Nat) (s : State) (g : Fld) (hs : src < 512) (hg : ¬ evtKey g.key) : rd (raise src s) g = rd s g :=
  rd_raiseWith _ _ _ _ _ hs hg

theorem on_raise (src : Nat) (s : State) (g : Fld) (hs : src < 512) (hg : ¬ evtKey g.key) : on (raise src s) g = on s g := by
  simp only [on, rd_raise src s g hs hg]

theorem div_low (a m j d : Nat) : (a + m * 2 ^ (j + 1 + d)) / 2 ^ j % 2 = a / 2 ^ j % 2 := by
  have e : a + m * 2 ^ (j + 1 + d) = a + (m * 2 ^ d * 2) * 2 ^ j := by ring
  rw [e, Nat.add_mul_div_right _ _ (by positivity)]; omega

theorem bit_setBits (v k j x : Nat) (hx : x < 2) : bit (setBits v k 1 x) j = if j = k then x == 1 else bit v j := by
  simp only [bit, bits, setBits, pow_one, Nat.mod_eq_of_lt hx]
  rcases Nat.lt_trichotomy j k with h | h | h
  · obtain ⟨d, rfl⟩ : ∃ d, k = j + 1 + d := ⟨k - (j + 1), by omega⟩
    rw [if_neg (by omega)]
    have e : v % 2 ^ (j + 1 + d) + x * 2 ^ (j + 1 + d) + v / 2 ^ (j + 1 + d + 1) * 2 ^ (j + 1 + d + 1)
        = v % 2 ^ (j + 1 + d) + (x + v / 2 ^ (j + 1 + d + 1) * 2) * 2 ^ (j + 1 + d) := by ring
    have e2 := div_low (v % 2 ^ (j + 1 + d)) (v / 2 ^ (j + 1 + d)) j d
    rw [Nat.mul_comm, Nat.mod_add_div] at e2
    rw [e, div_low, e2]
  · subst h
    rw [if_pos rfl]
    have e : v % 2 ^ j + x * 2 ^ j + v / 2 ^ (j + 1) * 2 ^ (j + 1) = v % 2 ^ j + (x + v / 2 ^ (j + 1) * 2) * 2 ^ j := by ring
    rw [e, Nat.add_mul_div_right _ _ (by positivity), Nat.div_eq_of_lt (Nat.mod_lt _ (by positivity))]
    have : (0 + (x + v / 2 ^ (j + 1) * 2)) % 2 = x := by omega
    rw [this]
  · obtain ⟨d, rfl⟩ : ∃ d, j = k + 1 + d := ⟨j - (k + 1), by omega⟩
    rw [if_neg (by omega)]
    have hlt : v % 2 ^ k + x * 2 ^ k < 2 ^ (k + 1) := by
      have h1 := Nat.mod_lt v (show 0 < 2 ^ k by positivity)
      have h2 : x * 2 ^ k ≤ 1 * 2 ^ k := Nat.mul_le_mul_right _ (by omega)
      rw [pow_succ]; omega
    rw [pow_add 2 (k + 1) d, ← Nat.div_div_eq_div_mul, ← Nat.div_div_eq_div_mul,
      Nat.add_mul_div_right _ _ (by positivity), Nat.div_eq_of_lt hlt, Nat.zero_add]

/-- A raise sets the pending bit of its source and clears none. -/
theorem pend_eventPend (src n : Nat) (s : State) (hs : src < 512) :
    pendBit (eventPend src s) n = (n == src || pendBit s n) := by
  have e : (eventPend src s).regs
      = (wr (EVC_PEND (src / 32)) (setBits (rd s (EVC_PEND (src / 32))) (src % 32) 1 1) s).regs := by
    unfold eventPend Machine.when
    dsimp only
    split
    · split <;> rfl
    · rfl
  have e2 : rd (eventPend src s) (EVC_PEND (n / 32))
      = rd (wr (EVC_PEND (src / 32)) (setBits (rd s (EVC_PEND (src / 32))) (src % 32) 1 1) s) (EVC_PEND (n / 32)) := by
    simp only [rd, e]
  unfold pendBit
  rw [e2, rd_wr]
  have hk : (EVC_PEND (n / 32)).key = (EVC_PEND (src / 32)).key ↔ n / 32 = src / 32 := by
    simp only [EVC_PEND, Fld.key]; omega
  by_cases h : n / 32 = src / 32
  · rw [if_pos (hk.2 h), h]
    have hw : ∀ v, bit (v % 2 ^ (EVC_PEND (src / 32)).width) (n % 32) = bit v (n % 32) := by
      intro v
      have : n % 32 < 32 := Nat.mod_lt _ (by decide)
      show bit (v % 2 ^ 32) (n % 32) = _
      simp only [bit, bits, pow_one]
      obtain ⟨d, hd⟩ : ∃ d, 32 = n % 32 + 1 + d := ⟨32 - (n % 32 + 1), by omega⟩
      have e3 := div_low (v % 2 ^ 32) (v / 2 ^ 32) (n % 32) d
      rw [← hd, Nat.mul_comm, Nat.mod_add_div] at e3
      rw [e3]
    rw [hw, bit_setBits _ _ _ _ (by decide)]
    by_cases h3 : n % 32 = src % 32
    · have : n = src := by omega
      simp [this]
    · have : ¬ n = src := by omega
      rw [if_neg h3]; simp [this]
  · rw [if_neg (fun e => h (hk.1 e))]
    have : ¬ n = src := by omega
    simp [this]

theorem pend_glnRaise (src n : Nat) (s : State) (hn : n < 512) : pendBit (glnRaise src s) n = pendBit s n := by
  have : Untouched (fun k => 0x1080291000 * 64 ≤ k ∧ k < 0x1080291800 * 64) s (glnRaise src s) := by
    have hc : ∀ i, i < 256 → (0x1080291000 * 64 ≤ (GLN_CNT_COUNT i).key ∧ (GLN_CNT_COUNT i).key < 0x1080291800 * 64) := by
      intro i hi; simp only [GLN_CNT_COUNT, Fld.key]; omega
    unfold glnRaise glnUser
    refine Untouched.foldl (fun u m hm hu => Untouched.when (fun v hv => Untouched.wr _ _ (hc _ ?_) hv) hu) ?_
    · have := List.mem_range.1 hm; omega
    · split
      · exact Untouched.wr _ _ (hc _ (glnOfSource_lt _ _ ‹_›)) (Untouched.refl _ _)
      · exact Untouched.refl _ _
  unfold pendBit
  rw [this]
  simp only [EVC_PEND, Fld.key]; omega

theorem pend_wr (f : Fld) (v n : Nat) (s : State) (hf : ∀ i, i < 16 → (EVC_PEND i).key ≠ f.key) (hn : n < 512) :
    pendBit (wr f v s) n = pendBit s n := by
  unfold pendBit
  rw [rd_wr_ne _ _ _ _ (hf _ (by omega))]

/-- A report clears no pending bit. -/
theorem pend_captureOr (f : State → State) (r : Report) (n : Nat) (s : State) (hn : n < 512)
    (hf : ∀ u, pendBit u n = true → pendBit (f u) n = true) (h : pendBit s n = true) : pendBit (captureOr f r s) n = true := by
  unfold captureOr
  split
  · exact h
  · refine hf _ ?_
    unfold glnAdd incSat
    rw [pend_wr _ _ _ _ _ hn, pend_wr _ _ _ _ _ hn, h]
    all_goals intro i hi; simp only [EVC_PEND, GLN_CNT_COUNT, EVC_LOGCNT_DROP, Fld.key]; omega

theorem pend_recordBy (put : Report → State → State) (r : Report) (n : Nat) (s : State)
    (hp : ∀ q, pendBit (put q s) n = true) (h : pendBit s n = true) : pendBit (recordBy put r s) n = true := by
  unfold recordBy
  dsimp only
  split
  · exact hp _
  · exact h

/-- An interrupt to the host clears no pending bit. -/
theorem pend_msixRaise (v n : Nat) (s : State) (hn : n < 512) (h : pendBit s n = true) : pendBit (msixRaise v s) n = true := by
  unfold msixRaise
  dsimp only
  split
  · unfold set1
    rw [pend_wr _ _ _ _ _ hn, h]
    intro i hi; simp only [EVC_PEND, I.HBR_MSIXPEND, ifld, Fld.key]; omega
  · split
    · exact h
    · have hp : pendBit (s |> obError 5 17 (rd s (I.HBR_MSIXADDR (v % 64))) |> glnRaise 332 |> eventPend 332) n = true := by
        rw [pend_eventPend _ _ _ (by decide), pend_glnRaise _ _ _ hn]
        unfold obError
        rw [pend_wr _ _ _ _ _ hn, pend_wr _ _ _ _ _ hn, pend_wr _ _ _ _ _ hn, h, Bool.or_true]
        all_goals intro i hi; simp only [EVC_PEND, HBR_OBERR_ADDR, HBR_OBERR_INIT, HBR_OBERR_STATUS, Fld.key]; omega
      exact pend_recordBy _ _ _ _ (fun q => pend_captureOr id q _ _ hn (fun _ hu => hu) hp) hp

/-- A delivery leaves the pending bit of its source set. -/
theorem pend_deliver (src : Nat) (s : State) (hs : src < 512) : pendBit (eventDeliver src s) src = true := by
  have h : pendBit (eventPend src s) src = true := by rw [pend_eventPend _ _ _ hs]; simp
  unfold eventDeliver Machine.when
  split
  · exact pend_msixRaise _ _ _ hs h
  · exact h

/-- A delivery clears no pending bit. -/
theorem pend_deliver_mono (src n : Nat) (s : State) (hs : src < 512) (hn : n < 512) (h : pendBit s n = true) :
    pendBit (eventDeliver src s) n = true := by
  have h : pendBit (eventPend src s) n = true := by rw [pend_eventPend _ _ _ hs, h, Bool.or_true]
  unfold eventDeliver Machine.when
  split
  · exact pend_msixRaise _ _ _ hn h
  · exact h

theorem pend_raiseQuiet (src n : Nat) (s : State) (hs : src < 512) (hn : n < 512) (h : pendBit s n = true) :
    pendBit (raiseQuiet src s) n = true := by
  unfold raiseQuiet
  dsimp only
  split
  · exact pend_deliver_mono _ _ _ hs hn (by rw [pend_glnRaise _ _ _ hn, h])
  · rw [pend_glnRaise _ _ _ hn, h]

theorem pend_capture (r : Report) (n : Nat) (s : State) (hn : n < 512) (h : pendBit s n = true) :
    pendBit (capture r s) n = true := by
  exact pend_captureOr _ _ _ _ hn (fun _ hu => pend_raiseQuiet _ _ _ (by decide) hn hu) h

/-- While island 8 is powered, a raise leaves its source pending (R454). -/
theorem pend_raiseWith (src d : Nat) (c : Bool) (s : State) (hs : src < 512) (hp : islandPowered s 8 = true) :
    pendBit (raiseWith src d c s) src = true := by
  have h0 : pendBit (eventDeliver src (glnRaise src s)) src = true := pend_deliver _ _ hs
  unfold raiseWith evcTake
  dsimp only
  rw [if_pos hp]
  exact pend_recordBy _ _ _ _ (fun q => pend_capture q _ _ hs h0) h0

/-- A raise clears no pending bit. -/
theorem pend_raiseWith_mono (src d n : Nat) (c : Bool) (s : State) (hs : src < 512) (hn : n < 512) (h : pendBit s n = true) :
    pendBit (raiseWith src d c s) n = true := by
  have h1 : pendBit (glnRaise src s) n = true := by rw [pend_glnRaise _ _ _ hn, h]
  unfold raiseWith evcTake
  dsimp only
  split
  · have h0 : pendBit (eventDeliver src (glnRaise src s)) n = true := pend_deliver_mono _ _ _ hs hn h1
    exact pend_recordBy _ _ _ _ (fun q => pend_capture q _ _ hn h0) h0
  · split
    · exact h1
    · unfold incSat
      rw [pend_wr _ _ _ _ _ hn, h1]
      intro i hi; simp only [EVC_PEND, I.EVC_LATCHLOST, ifld, Fld.key]; omega

/-- `t` differs from `s` at most in register fields, outputs and the queues of events. -/
def OnlyEvents (s t : State) : Prop :=
  t = { s with regs := t.regs, out := t.out, evFifo := t.evFifo, evLatch := t.evLatch, evHeld := t.evHeld, extIrq := t.extIrq }

theorem OnlyEvents.refl (s : State) : OnlyEvents s s := rfl

theorem OnlyEvents.of {s t u : State} (h : OnlyEvents s t)
    (e : u = { t with regs := u.regs, out := u.out, evFifo := u.evFifo, evLatch := u.evLatch, evHeld := u.evHeld, extIrq := u.extIrq }) :
    OnlyEvents s u := by
  unfold OnlyEvents at *
  rw [h] at e
  exact e

theorem OnlyEvents.when {s t : State} {c : Bool} {g : State → State} (hg : ∀ u, OnlyEvents s u → OnlyEvents s (g u))
    (h : OnlyEvents s t) : OnlyEvents s (when c g t) := by
  cases c
  · exact h
  · exact hg _ h

theorem OnlyEvents.wr {s t : State} (f : Fld) (v : Nat) (h : OnlyEvents s t) : OnlyEvents s (wr f v t) := h.of rfl

theorem glnRaise_only (src : Nat) (s t : State) (h : OnlyEvents s t) : OnlyEvents s (glnRaise src t) := by
  unfold glnRaise glnUser
  have hl' : ∀ (q : State) (l : List Nat) (u : State), OnlyEvents s u → OnlyEvents s (l.foldl (fun t n =>
      Machine.when (on q (GLN_UCFG_EN n) && rd q (GLN_UCFG_SOURCE n) == src) (glnAdd (128 + n) 1) t) u) := by
    intro q l
    induction l with
    | nil => intro u hu; exact hu
    | cons x l ih => intro u hu; exact ih _ (OnlyEvents.when (fun v hv => hv.wr _ _) hu)
  refine hl' _ _ _ ?_
  split
  · exact h.wr _ _
  · exact h

theorem eventPend_only (src : Nat) (s t : State) (h : OnlyEvents s t) : OnlyEvents s (eventPend src t) := by
  unfold eventPend
  refine OnlyEvents.when (fun u hu => ?_) (h.wr _ _)
  dsimp only
  split <;> exact hu.of rfl

theorem captureOr_only (f : State → State) (r : Report) (s t : State) (hf : ∀ u, OnlyEvents s u → OnlyEvents s (f u))
    (h : OnlyEvents s t) : OnlyEvents s (captureOr f r t) := by
  unfold captureOr
  split
  · exact h.of rfl
  · exact hf _ ((h.wr _ _).wr _ _)

theorem recordBy_only (put : Report → State → State) (r : Report) (s t : State) (hp : ∀ q, OnlyEvents s (put q t))
    (h : OnlyEvents s t) : OnlyEvents s (recordBy put r t) := by
  unfold recordBy
  dsimp only
  split
  · exact hp _
  · exact h

theorem msixRaise_only (v : Nat) (s t : State) (h : OnlyEvents s t) : OnlyEvents s (msixRaise v t) := by
  unfold msixRaise
  dsimp only
  split
  · exact h.wr _ _
  · split
    · exact h.of rfl
    · have hp := eventPend_only 332 s _ (glnRaise_only 332 s _ (((h.wr HBR_OBERR_STATUS 5).wr HBR_OBERR_INIT 17).wr HBR_OBERR_ADDR
        (rd t (I.HBR_MSIXADDR (v % 64)))))
      unfold msixLost obError
      exact recordBy_only _ _ _ _ (fun q => captureOr_only id q _ _ (fun _ hu => hu) hp) hp

theorem eventDeliver_only (src : Nat) (s t : State) (h : OnlyEvents s t) : OnlyEvents s (eventDeliver src t) :=
  OnlyEvents.when (fun u hu => msixRaise_only _ _ u hu) (eventPend_only _ _ _ h)

theorem capture_only (r : Report) (s t : State) (h : OnlyEvents s t) : OnlyEvents s (capture r t) := by
  refine captureOr_only _ _ _ _ (fun u hu => ?_) h
  unfold raiseQuiet
  dsimp only
  split
  · exact eventDeliver_only _ _ _ (glnRaise_only _ _ _ hu)
  · exact glnRaise_only _ _ _ hu

theorem raiseWith_only (src d : Nat) (c : Bool) (s t : State) (h : OnlyEvents s t) : OnlyEvents s (raiseWith src d c t) := by
  have h1 := glnRaise_only src s t h
  unfold raiseWith evcTake
  dsimp only
  split
  · have h2 := eventDeliver_only src _ _ h1
    exact recordBy_only _ _ _ _ (fun q => capture_only q _ _ h2) h2
  · split
    · exact h1.of rfl
    · exact h1.wr _ _

/-- A raise changes register fields, outputs and the queues of events, and nothing else of the state. -/
theorem raise_only (src : Nat) (s : State) : OnlyEvents s (raise src s) := raiseWith_only _ _ _ _ _ (OnlyEvents.refl s)

@[simp] theorem raiseWith_pending (src d : Nat) (c : Bool) (s : State) : (raiseWith src d c s).pending = s.pending := by
  rw [show raiseWith src d c s = _ from raiseWith_only src d c s s (OnlyEvents.refl s)]
@[simp] theorem raiseWith_mem (src d : Nat) (c : Bool) (s : State) : (raiseWith src d c s).mem = s.mem := by
  rw [show raiseWith src d c s = _ from raiseWith_only src d c s s (OnlyEvents.refl s)]
@[simp] theorem raiseWith_freeCtr (src d : Nat) (c : Bool) (s : State) : (raiseWith src d c s).freeCtr = s.freeCtr := by
  rw [show raiseWith src d c s = _ from raiseWith_only src d c s s (OnlyEvents.refl s)]
@[simp] theorem raiseWith_evOpen (src d : Nat) (c : Bool) (s : State) : (raiseWith src d c s).evOpen = s.evOpen := by
  rw [show raiseWith src d c s = _ from raiseWith_only src d c s s (OnlyEvents.refl s)]
@[simp] theorem raiseWith_glnCopies (src d : Nat) (c : Bool) (s : State) : (raiseWith src d c s).glnCopies = s.glnCopies := by
  rw [show raiseWith src d c s = _ from raiseWith_only src d c s s (OnlyEvents.refl s)]
@[simp] theorem raiseWith_creds (src d : Nat) (c : Bool) (s : State) : (raiseWith src d c s).creds = s.creds := by
  rw [show raiseWith src d c s = _ from raiseWith_only src d c s s (OnlyEvents.refl s)]
@[simp] theorem raiseWith_staged (src d : Nat) (c : Bool) (s : State) : (raiseWith src d c s).staged = s.staged := by
  rw [show raiseWith src d c s = _ from raiseWith_only src d c s s (OnlyEvents.refl s)]
@[simp] theorem raiseWith_slots (src d : Nat) (c : Bool) (s : State) : (raiseWith src d c s).slots = s.slots := by
  rw [show raiseWith src d c s = _ from raiseWith_only src d c s s (OnlyEvents.refl s)]
@[simp] theorem raiseWith_setBanks (src d : Nat) (c : Bool) (s : State) : (raiseWith src d c s).setBanks = s.setBanks := by
  rw [show raiseWith src d c s = _ from raiseWith_only src d c s s (OnlyEvents.refl s)]
@[simp] theorem raiseWith_journal (src d : Nat) (c : Bool) (s : State) : (raiseWith src d c s).journal = s.journal := by
  rw [show raiseWith src d c s = _ from raiseWith_only src d c s s (OnlyEvents.refl s)]
@[simp] theorem raiseWith_cmds (src d : Nat) (c : Bool) (s : State) : (raiseWith src d c s).cmds = s.cmds := by
  rw [show raiseWith src d c s = _ from raiseWith_only src d c s s (OnlyEvents.refl s)]
@[simp] theorem raiseWith_cpls (src d : Nat) (c : Bool) (s : State) : (raiseWith src d c s).cpls = s.cpls := by
  rw [show raiseWith src d c s = _ from raiseWith_only src d c s s (OnlyEvents.refl s)]
@[simp] theorem raiseWith_waiting (src d : Nat) (c : Bool) (s : State) : (raiseWith src d c s).waiting = s.waiting := by
  rw [show raiseWith src d c s = _ from raiseWith_only src d c s s (OnlyEvents.refl s)]
@[simp] theorem raiseWith_halves (src d : Nat) (c : Bool) (s : State) : (raiseWith src d c s).halves = s.halves := by
  rw [show raiseWith src d c s = _ from raiseWith_only src d c s s (OnlyEvents.refl s)]
@[simp] theorem raiseWith_heldAcc (src d : Nat) (c : Bool) (s : State) : (raiseWith src d c s).heldAcc = s.heldAcc := by
  rw [show raiseWith src d c s = _ from raiseWith_only src d c s s (OnlyEvents.refl s)]
@[simp] theorem raiseWith_outReads (src d : Nat) (c : Bool) (s : State) : (raiseWith src d c s).outReads = s.outReads := by
  rw [show raiseWith src d c s = _ from raiseWith_only src d c s s (OnlyEvents.refl s)]
@[simp] theorem raiseWith_ringq (src d : Nat) (c : Bool) (s : State) : (raiseWith src d c s).ringq = s.ringq := by
  rw [show raiseWith src d c s = _ from raiseWith_only src d c s s (OnlyEvents.refl s)]
@[simp] theorem raiseWith_forcePend (src d : Nat) (c : Bool) (s : State) : (raiseWith src d c s).forcePend = s.forcePend := by
  rw [show raiseWith src d c s = _ from raiseWith_only src d c s s (OnlyEvents.refl s)]
@[simp] theorem raiseWith_chg (src d : Nat) (c : Bool) (s : State) : (raiseWith src d c s).chg = s.chg := by
  rw [show raiseWith src d c s = _ from raiseWith_only src d c s s (OnlyEvents.refl s)]
@[simp] theorem raiseWith_claims (src d : Nat) (c : Bool) (s : State) : (raiseWith src d c s).claims = s.claims := by
  rw [show raiseWith src d c s = _ from raiseWith_only src d c s s (OnlyEvents.refl s)]
@[simp] theorem raiseWith_subs (src d : Nat) (c : Bool) (s : State) : (raiseWith src d c s).subs = s.subs := by
  rw [show raiseWith src d c s = _ from raiseWith_only src d c s s (OnlyEvents.refl s)]
@[simp] theorem raiseWith_sol (src d : Nat) (c : Bool) (s : State) : (raiseWith src d c s).sol = s.sol := by
  rw [show raiseWith src d c s = _ from raiseWith_only src d c s s (OnlyEvents.refl s)]
@[simp] theorem raiseWith_prog (src d : Nat) (c : Bool) (s : State) : (raiseWith src d c s).prog = s.prog := by
  rw [show raiseWith src d c s = _ from raiseWith_only src d c s s (OnlyEvents.refl s)]
@[simp] theorem raiseWith_cores (src d : Nat) (c : Bool) (s : State) : (raiseWith src d c s).cores = s.cores := by
  rw [show raiseWith src d c s = _ from raiseWith_only src d c s s (OnlyEvents.refl s)]
@[simp] theorem raiseWith_banks (src d : Nat) (c : Bool) (s : State) : (raiseWith src d c s).banks = s.banks := by
  rw [show raiseWith src d c s = _ from raiseWith_only src d c s s (OnlyEvents.refl s)]
@[simp] theorem raiseWith_undo (src d : Nat) (c : Bool) (s : State) : (raiseWith src d c s).undo = s.undo := by
  rw [show raiseWith src d c s = _ from raiseWith_only src d c s s (OnlyEvents.refl s)]
@[simp] theorem raiseWith_regq (src d : Nat) (c : Bool) (s : State) : (raiseWith src d c s).regq = s.regq := by
  rw [show raiseWith src d c s = _ from raiseWith_only src d c s s (OnlyEvents.refl s)]
@[simp] theorem raiseWith_stalled (src d : Nat) (c : Bool) (s : State) : (raiseWith src d c s).stalled = s.stalled := by
  rw [show raiseWith src d c s = _ from raiseWith_only src d c s s (OnlyEvents.refl s)]
@[simp] theorem raiseWith_canMap (src d : Nat) (c : Bool) (s : State) : (raiseWith src d c s).canMap = s.canMap := by
  rw [show raiseWith src d c s = _ from raiseWith_only src d c s s (OnlyEvents.refl s)]
@[simp] theorem raiseWith_canQ (src d : Nat) (c : Bool) (s : State) : (raiseWith src d c s).canQ = s.canQ := by
  rw [show raiseWith src d c s = _ from raiseWith_only src d c s s (OnlyEvents.refl s)]
@[simp] theorem raiseWith_safe (src d : Nat) (c : Bool) (s : State) : (raiseWith src d c s).safe = s.safe := by
  rw [show raiseWith src d c s = _ from raiseWith_only src d c s s (OnlyEvents.refl s)]
@[simp] theorem raiseWith_dgrams (src d : Nat) (c : Bool) (s : State) : (raiseWith src d c s).dgrams = s.dgrams := by
  rw [show raiseWith src d c s = _ from raiseWith_only src d c s s (OnlyEvents.refl s)]
@[simp] theorem raiseWith_jla (src d : Nat) (c : Bool) (s : State) : (raiseWith src d c s).jla = s.jla := by
  rw [show raiseWith src d c s = _ from raiseWith_only src d c s s (OnlyEvents.refl s)]
@[simp] theorem raiseWith_tim (src d : Nat) (c : Bool) (s : State) : (raiseWith src d c s).tim = s.tim := by
  rw [show raiseWith src d c s = _ from raiseWith_only src d c s s (OnlyEvents.refl s)]
@[simp] theorem raiseWith_bbs (src d : Nat) (c : Bool) (s : State) : (raiseWith src d c s).bbs = s.bbs := by
  rw [show raiseWith src d c s = _ from raiseWith_only src d c s s (OnlyEvents.refl s)]
@[simp] theorem raiseWith_dma (src d : Nat) (c : Bool) (s : State) : (raiseWith src d c s).dma = s.dma := by
  rw [show raiseWith src d c s = _ from raiseWith_only src d c s s (OnlyEvents.refl s)]
@[simp] theorem raiseWith_prevCreds (src d : Nat) (c : Bool) (s : State) : (raiseWith src d c s).prevCreds = s.prevCreds := by
  rw [show raiseWith src d c s = _ from raiseWith_only src d c s s (OnlyEvents.refl s)]
@[simp] theorem raiseWith_journalBuf (src d : Nat) (c : Bool) (s : State) : (raiseWith src d c s).journalBuf = s.journalBuf := by
  rw [show raiseWith src d c s = _ from raiseWith_only src d c s s (OnlyEvents.refl s)]
@[simp] theorem raiseWith_bases (src d : Nat) (c : Bool) (s : State) : (raiseWith src d c s).bases = s.bases := by
  rw [show raiseWith src d c s = _ from raiseWith_only src d c s s (OnlyEvents.refl s)]
@[simp] theorem raiseWith_stagedRanges (src d : Nat) (c : Bool) (s : State) : (raiseWith src d c s).stagedRanges = s.stagedRanges := by
  rw [show raiseWith src d c s = _ from raiseWith_only src d c s s (OnlyEvents.refl s)]
@[simp] theorem raiseWith_stagedData (src d : Nat) (c : Bool) (s : State) : (raiseWith src d c s).stagedData = s.stagedData := by
  rw [show raiseWith src d c s = _ from raiseWith_only src d c s s (OnlyEvents.refl s)]
@[simp] theorem raiseWith_progPages (src d : Nat) (c : Bool) (s : State) : (raiseWith src d c s).progPages = s.progPages := by
  rw [show raiseWith src d c s = _ from raiseWith_only src d c s s (OnlyEvents.refl s)]
@[simp] theorem raiseWith_master (src d : Nat) (c : Bool) (s : State) : (raiseWith src d c s).master = s.master := by
  rw [show raiseWith src d c s = _ from raiseWith_only src d c s s (OnlyEvents.refl s)]
@[simp] theorem raiseWith_own (src d : Nat) (c : Bool) (s : State) : (raiseWith src d c s).own = s.own := by
  rw [show raiseWith src d c s = _ from raiseWith_only src d c s s (OnlyEvents.refl s)]
@[simp] theorem raiseWith_caches (src d : Nat) (c : Bool) (s : State) : (raiseWith src d c s).caches = s.caches := by
  rw [show raiseWith src d c s = _ from raiseWith_only src d c s s (OnlyEvents.refl s)]
@[simp] theorem raiseWith_inval (src d : Nat) (c : Bool) (s : State) : (raiseWith src d c s).inval = s.inval := by
  rw [show raiseWith src d c s = _ from raiseWith_only src d c s s (OnlyEvents.refl s)]
@[simp] theorem raiseWith_reload (src d : Nat) (c : Bool) (s : State) : (raiseWith src d c s).reload = s.reload := by
  rw [show raiseWith src d c s = _ from raiseWith_only src d c s s (OnlyEvents.refl s)]
@[simp] theorem raiseWith_recs (src d : Nat) (c : Bool) (s : State) : (raiseWith src d c s).recs = s.recs := by
  rw [show raiseWith src d c s = _ from raiseWith_only src d c s s (OnlyEvents.refl s)]
@[simp] theorem raiseWith_undoOld (src d : Nat) (c : Bool) (s : State) : (raiseWith src d c s).undoOld = s.undoOld := by
  rw [show raiseWith src d c s = _ from raiseWith_only src d c s s (OnlyEvents.refl s)]
@[simp] theorem raiseWith_undoFilter (src d : Nat) (c : Bool) (s : State) : (raiseWith src d c s).undoFilter = s.undoFilter := by
  rw [show raiseWith src d c s = _ from raiseWith_only src d c s s (OnlyEvents.refl s)]
@[simp] theorem raiseWith_qDirty (src d : Nat) (c : Bool) (s : State) : (raiseWith src d c s).qDirty = s.qDirty := by
  rw [show raiseWith src d c s = _ from raiseWith_only src d c s s (OnlyEvents.refl s)]
@[simp] theorem raiseWith_joinDirty (src d : Nat) (c : Bool) (s : State) : (raiseWith src d c s).joinDirty = s.joinDirty := by
  rw [show raiseWith src d c s = _ from raiseWith_only src d c s s (OnlyEvents.refl s)]
@[simp] theorem raiseWith_regErrs (src d : Nat) (c : Bool) (s : State) : (raiseWith src d c s).regErrs = s.regErrs := by
  rw [show raiseWith src d c s = _ from raiseWith_only src d c s s (OnlyEvents.refl s)]
@[simp] theorem raiseWith_safeC (src d : Nat) (c : Bool) (s : State) : (raiseWith src d c s).safeC = s.safeC := by
  rw [show raiseWith src d c s = _ from raiseWith_only src d c s s (OnlyEvents.refl s)]

end Sys2Proof.Laws
end

