-- ==== Sys2Proof/Laws/Commands.lean ====
section
/-! SUPPORT. The gates in front of a command: a register write that is taken and a command that is permitted have their own effect and
nothing else; what completing a command, an audit entry and one Sheaf instruction do. -/

namespace Sys2Proof.Laws

open Sys2Proof.Machine R

/-! Register writes -/

/-- Without a half access nothing is dropped. -/
theorem hostHalfDrop_none (s : State) (h : s.halves = []) : hostHalfDrop s = s := by simp [hostHalfDrop, h]

/-- A write of one field that is taken does its action, and nothing else. -/
theorem gateWrite_taken (w : Writer) (f : Fld) (v : Nat) (act : State → State) (s : State) (h : WriteTaken w f v s) :
    gateWrite w f v act s = act s := by
  obtain ⟨hl, hh, ha, hf⟩ := h
  have hd : when (w == .host) hostHalfDrop s = s := by
    unfold when
    split
    · exact hostHalfDrop_none s hh
    · rfl
  have hw : ¬ (w ≠ .host ∧ blockLocked s (blockOf f.addr) = true) := by
    rintro ⟨h1, h2⟩
    rcases hl with h | h
    · exact h1 h
    · simp [h] at h2
  simp [gateWrite, gateWrites, hw, hd, gateFields, ha, hf, codeJoin, fOK, fLOCK, fROLE]

/-- A write that the lock of the host holds off waits. -/
theorem gateWrite_held (w : Writer) (f : Fld) (v : Nat) (act : State → State) (s : State) (hw : w ≠ .host)
    (hl : blockLocked s (blockOf f.addr) = true) : gateWrite w f v act s = holdWrite w [(f, v)] f.addr s := by
  simp [gateWrite, gateWrites, hw, hl]

/-- A write that cannot reach the register is reported, and has no effect. -/
theorem gateWrite_unreached (w : Writer) (f : Fld) (v : Nat) (act : State → State) (s : State)
    (hl : w = .host ∨ blockLocked s (blockOf f.addr) = false) (hh : s.halves = []) (ha : accessCode s f.addr 4 ≠ fOK) :
    gateWrite w f v act s = reportWrite w f.addr (accessCode s f.addr 4) s := by
  have hd : when (w == .host) hostHalfDrop s = s := by
    unfold when
    split
    · exact hostHalfDrop_none s hh
    · rfl
  have hw : ¬ (w ≠ .host ∧ blockLocked s (blockOf f.addr) = true) := by
    rintro ⟨h1, h2⟩
    rcases hl with h | h
    · exact h1 h
    · simp [h] at h2
  simp [gateWrite, gateWrites, hw, hd, gateFields, ha]

/-! Commands of a session -/

/-- A command that is permitted is passed on and acts. -/
theorem cmdGate_permitted (ref : CmdRef) (op : Nat) (refused act : State → State) (s : State) (h : Permitted ref op s) :
    cmdGate ref op refused act s = act (markPassed ref s) := by
  obtain ⟨⟨hr, hrom⟩, hrole, hst⟩ := h
  have h1 : ∀ f : Fld, rd (markPassed ref s) f = rd s f := fun _ => rfl
  have hro : roleOk (markPassed ref s) ref.session op = roleOk s ref.session op := rfl
  have hps : pairStandby (markPassed ref s) = pairStandby s := rfl
  have hrom' : (on s I.ROM && !romOp op) = false := by
    rcases hrom with h | h <;> simp [h]
  simp [cmdGate, cmdRun, hr, hrom', hro, hrole, hps, hst]

/-- A command that may not start yet changes nothing. -/
theorem cmdGate_waits (ref : CmdRef) (op : Nat) (refused act : State → State) (s : State) (h : cmdReady s ref = false) :
    cmdGate ref op refused act s = s := by simp [cmdGate, cmdRun, h]

/-- A command without the right is refused with ROLE. -/
theorem cmdGate_role (ref : CmdRef) (op : Nat) (refused act : State → State) (s : State) (h : MayStart ref op s)
    (hr : roleOk s ref.session op = false) :
    cmdGate ref op refused act s = complete ref op cROLE (refused (markPassed ref s)) := by
  obtain ⟨hc, hrom⟩ := h
  have hro : roleOk (markPassed ref s) ref.session op = roleOk s ref.session op := rfl
  have hrom' : (on s I.ROM && !romOp op) = false := by
    rcases hrom with h | h <;> simp [h]
  simp [cmdGate, cmdRun, hc, hrom', hro, hr]

/-- Passing a command on leaves everything but the list of commands. -/
@[simp] theorem markPassed_regs (ref : CmdRef) (s : State) : (markPassed ref s).regs = s.regs := rfl
@[simp] theorem markPassed_mem (ref : CmdRef) (s : State) : (markPassed ref s).mem = s.mem := rfl
@[simp] theorem markPassed_pending (ref : CmdRef) (s : State) : (markPassed ref s).pending = s.pending := rfl
@[simp] theorem markPassed_cpls (ref : CmdRef) (s : State) : (markPassed ref s).cpls = s.cpls := rfl
@[simp] theorem rd_markPassed (ref : CmdRef) (s : State) (f : Fld) : rd (markPassed ref s) f = rd s f := rfl

/-- Completing a command queues its completion; a refusal with ROLE raises event 326 besides. -/
theorem complete_completed (ref : CmdRef) (op st : Nat) (s : State) : Completed (complete ref op st s) ref op st := by
  unfold Completed complete completeWith completeData when
  split <;> simp [raise]
@[simp] theorem complete_mem (ref : CmdRef) (op st : Nat) (s : State) : (complete ref op st s).mem = s.mem := by
  unfold complete completeWith completeData when
  split <;> simp [raise]
@[simp] theorem complete_pending (ref : CmdRef) (op st : Nat) (s : State) : (complete ref op st s).pending = s.pending := by
  unfold complete completeWith completeData when
  split <;> simp [raise]
theorem rd_complete (ref : CmdRef) (op st : Nat) (s : State) (f : Fld) (h : st ≠ cROLE ∨ ¬ evtKey f.key) :
    rd (complete ref op st s) f = rd s f := by
  unfold complete completeWith completeData when
  split
  · rename_i hc
    rcases h with h | h
    · simp [h] at hc
    · rw [rd_raise 326 _ f (by decide) h]; rfl
  · rfl

/-! The solver -/

/-- One Sheaf instruction that runs and meets none of the conditions of a fault: its effect, then clocks, count and pc. -/
theorem sheafStep_runs (op : Nat) (o : Opnd) (c : Checks) (clk next : Nat) (eff : State → State) (s : State)
    (hs : SolverAt op o s) (hc : c.first = none) :
    sheafStep op o c clk next eff s
      = (eff s |> wr I.LSV_CLKNOW (rd (eff s) I.LSV_CLKNOW + clk) |> inc I.LSV_INSTRNOW |> wr LSV_STATUS_PC next
        |> wr I.LSV_PCOUT (b2n (decide (2 ^ 20 ≤ next)))) := by
  obtain ⟨hr, hst, hp, hw⟩ := hs
  simp [sheafStep, solverGoes, hr, hst, hp, hw, hc]

/-- One that meets a condition faults. -/
theorem sheafStep_faults (op : Nat) (o : Opnd) (c : Checks) (clk next code : Nat) (eff : State → State) (s : State)
    (hs : SolverAt op o s) (hc : c.first = some code) :
    sheafStep op o c clk next eff s = progFault code (rd s LSV_STATUS_PC) (insWord op o) op s := by
  obtain ⟨hr, hst, hp, hw⟩ := hs
  simp [sheafStep, solverGoes, hr, hst, hp, hw, hc]

/-- A fetch from a page that is not active faults, whatever the program store holds (R176). -/
theorem sheafStep_fetchFault (op : Nat) (o : Opnd) (c : Checks) (clk next : Nat) (eff : State → State) (s : State)
    (hr : on s LSV_STATUS_RUNNING = true) (hst : s.stalled = []) (hf : fetchOk s = false) :
    sheafStep op o c clk next eff s = progFault 3 (rd s LSV_STATUS_PC) 0 0 s := by
  simp [sheafStep, solverGoes, hr, hst, hf]

/-- While no solver runs an instruction does nothing. -/
theorem sheafStep_stopped (op : Nat) (o : Opnd) (c : Checks) (clk next : Nat) (eff : State → State) (s : State)
    (h : on s LSV_STATUS_RUNNING = false) : sheafStep op o c clk next eff s = s := by simp [sheafStep, solverGoes, h]

/-! Memory operations keep the canonical form -/

/-- A write, a store of a number and a clear keep the canonical form of memory. -/
theorem memWrite_wf (a : Nat) (bs : List Byte) (s : State) (h : Memory.wf s.mem = true) : Memory.wf (memWrite a bs s).mem = true :=
  writeN_wf s.mem a bs h
theorem memPut_wf (a n v : Nat) (s : State) (h : Memory.wf s.mem = true) : Memory.wf (memPut a n v s).mem = true :=
  writeN_wf s.mem a _ h
theorem memClear_wf (lo hi : Nat) (s : State) (h : Memory.wf s.mem = true) : Memory.wf (memClear lo hi s).mem = true :=
  clear_wf s.mem lo hi h

/-- The memory after reset has the form. -/
theorem reset_wf : Memory.wf State.reset.mem = true := by decide

/-- A write of a field keeps the register file in rising order. -/
theorem wr_sorted (f : Fld) (v : Nat) (s : State) (h : Assoc.sorted s.regs = true) : Assoc.sorted (wr f v s).regs = true :=
  put_sorted _ _ _ h

/-- Outside the bytes of a store every byte reads as before. -/
theorem memWrite_outside (a b : Nat) (bs : List Byte) (s : State) (h : Memory.wf s.mem = true)
    (hb : b < a ∨ a + bs.length ≤ b) : Memory.read (memWrite a bs s).mem b = Memory.read s.mem b :=
  read_writeN_of_outside s.mem a b bs h hb

end Sys2Proof.Laws
end

