-- ==== Sys2Proof/WellFormed.lean ====
section
/-! DEFINITION. When a command is well formed: every number that the spec gives a width fits it, and every list has a length the
spec allows. Operands of the types BitVec and Fin carry their widths themselves. A step does not look at this check: the
meanings are total, and cut what is too wide where they store it. -/

namespace Sys2Proof.WellFormed

/-- SPACE has 3 bits, INDEX 21 (Table 7.1). -/
def opnd (o : Opnd) : Bool := decide (o.space < 8) && decide (o.index < 2 ^ 21)

/-- There are 16 ring pairs; TAG has 16 bits (R306, Table 13.2). -/
def cmdRef (r : CmdRef) : Bool := decide (r.ring < 16) && decide (r.tag < 2 ^ 16)

/-- A command descriptor has 8 words (Table 13.2). -/
def desc (l : List Word) : Bool := decide (l.length = 8)

/-- A doorbell announces at most one ring of 4,096 descriptors (R306). -/
def descs (l : List (Option (List Word))) : Bool :=
  decide (l.length ≤ 4096) && l.all (fun d => match d with | some x => desc x | none => true)

/-- Data of one command, frame or datagram: at most 65,536 bytes (Table 13.2). -/
def byteList (l : List Byte) : Bool := decide (l.length ≤ 65536)

/-- What a TLS handshake names by numbers has 16 bits. -/
def tlsHello (h : TlsHello) : Bool := (h.versions ++ h.suites ++ h.groups).all (fun n => decide (n < 2 ^ 16))

/-- Data, where they can be read. -/
def optByteList (l : Option (List Byte)) : Bool := match l with | some x => byteList x | none => true

/-- A change set: 4 KiB pages of 1,024 instruction words below 4 MiB, task table entries of two 64-bit words, 64-byte
template descriptors, 128-bit binding entries (R136, R150, R176, R177, R196). -/
def changeSet (c : ChangeSet) : Bool :=
  c.pages.all (fun p => decide (p.1 < 1024) && decide (p.2.length ≤ 1024) && p.2.all (fun w => decide (w < 2 ^ 32)))
    && c.active.all (fun p => decide (p < 1024)) && c.templates.all (fun t => decide (t.1 < 512) && decide (t.2.length = 64))
    && c.tasks.all (fun t => decide (t.1 < 2 ^ 64) && decide (t.2 < 2 ^ 64)) && c.code.all (fun p => byteList p.2)
    && c.bindings.all (fun b => decide (b < 2 ^ 128))

/-- A change set, where there is one. -/
def optChangeSet (c : Option ChangeSet) : Bool := match c with | some x => changeSet x | none => true

/-- What the Winnower sees has the activity of three slices. -/
def windowObs (o : WindowObs) : Bool := decide (o.acts.length = 3)

/-- Addresses have 48 bits; PCP 3, VID 12, a sequence number 16 (R293, R299). -/
def bbFrame (f : BbFrame) : Bool :=
  decide (f.dst < 2 ^ 48) && decide (f.src < 2 ^ 48)
    && (match f.tag with | some (p, v) => decide (p < 8) && decide (v < 4096) | none => true)
    && (match f.rtag with | some n => decide (n < 2 ^ 16) | none => true) && byteList f.rest

/-- An entry of a credential set (Table 20.2). -/
def credential (c : Credential) : Bool :=
  decide (c.ident < 2 ^ 16) && decide (c.role < 4) && decide (c.kind < 2) && decide (c.salt.length = 16)
    && c.salt.all (fun b => decide (b < 256)) && decide (c.digest < 2 ^ 256)

/-- A staged object: up to 64 entries and 4 anchors of at most 2 KiB (R475); up to 16 serial numbers (Table 20.6). -/
def stagedObj (o : StagedObj) : Bool :=
  match o with
  | .image i => decide (i.units.length ≤ 16) && decide (i.imgver < 2 ^ 64)
  | .creds _ c => decide (c.entries.length ≤ 64) && c.entries.all credential && decide (c.anchors.length ≤ 4)
      && c.anchors.all (fun a => decide (a.length ≤ 2048))
  | .settings b => decide (b.format < 2 ^ 32)

/-- A block of the full copy: memory within the 40-bit address space, or a program (R437). -/
def copyBlock (b : CopyBlock) : Bool :=
  match b with
  | .memory a l => decide (a + l.length ≤ 2 ^ 40)
  | .program c => changeSet c
  | .small _ _ forces _ record _ _ _ => decide (forces.length ≤ 256) && byteList record

/-- A delta: CKP_SEQ has 64 bits, the nanoseconds are below a second, a line has 64 bytes (R127, R438). -/
def delta (d : Delta) : Bool :=
  decide (d.seq < 2 ^ 64) && decide (d.t0ns < 10 ^ 9) && d.lines.all (fun l => decide (l.2.length = 64))
    && d.qlines.all (fun l => decide (l.2.length = 64)) && optChangeSet d.load

/-- A message for a mirroring channel (R442). -/
def mirrorMsg (m : MirrorMsg) : Bool :=
  match m with
  | .frame _ l => byteList l
  | .output _ _ _ d l => byteList d && byteList l
  | .round _ _ _ cl tr q _ mb => byteList cl && decide (tr.length ≤ 512) && decide (q.length ≤ 8) && byteList mb

/-- Whether a command is well formed. -/
def instr (i : Instr) : Bool :=
  match i with
  | .registerWrite _ _ _ _ => true
  | .registerHalfAccess _ _ _ => true
  | .powerOnReset _ => true
  | .extReset => true
  | .hostLinkReset => true
  | .buttonPressAccepted _ => true
  | .buttonStuck => true
  | .buttonRearm => true
  | .bootWatchdogExpiry => true
  | .moduleWithdrawn => true
  | .feedLost _ => true
  | .feedRestored _ => true
  | .holdupReady _ => true
  | .powerFailWarning => true
  | .rideThroughEnd => true
  | .powerFailCleared => true
  | .railBelow16v => true
  | .plateWarning => true
  | .plateStop => true
  | .supplyRegisterRefresh _ _ _ => true
  | .sfpModulePlugged _ _ _ => true
  | .clockSelect _ _ => true
  | .ocxoValid => true
  | .ocxoStartTimeout => true
  | .ocxoLost => true
  | .pllLockLost _ => true
  | .resetRelease => true
  | .pcieLinkTraining _ _ => true
  | .retainedRestore _ _ => true
  | .bootComplete _ prog => optChangeSet prog
  | .autostart => true
  | .power ref _ => cmdRef ref
  | .transitionComplete => true
  | .wakeSource _ _ => true
  | .wakeTimer => true
  | .wakeFrame _ _ payload _ => byteList payload
  | .islandEnable _ _ _ => true
  | .shutdownComplete _ => true
  | .fabricRead _ _ _ _ _ _ => true
  | .sliceStore _ _ _ _ _ _ _ => true
  | .stalledStoreRelease => true
  | .signatureWindowEnd o => windowObs o
  | .eccCorrected _ => true
  | .eccUncorrectable _ => true
  | .mode ref _ => cmdRef ref
  | .copyGuardReached => true
  | .joinCopyComplete _ => true
  | .joinTimeout => true
  | .sliceFailedClear _ _ => true
  | .winnowerSelfTest _ _ => true
  | .staggerParityError _ => true
  | .scrubBlock _ _ _ => true
  | .winnowerInject _ _ => true
  | .verdict o => windowObs o
  | .restoreComplete => true
  | .commitPoint => true
  | .deltaSent => true
  | .ckpWorstClear _ => true
  | .cycleStart => true
  | .cycleTriggerFailed => true
  | .periodWrite _ _ => true
  | .phaseWrite _ _ => true
  | .inChainTrigger _ => true
  | .logWindowOpen => true
  | .stageEnd => true
  | .taskEnd _ _ => true
  | .deadline => true
  | .overrunWatchdog => true
  | .start ref => cmdRef ref
  | .stop ref => cmdRef ref
  | .halt ref => cmdRef ref
  | .step ref => cmdRef ref
  | .resume ref => cmdRef ref
  | .ack ref => cmdRef ref
  | .force ref _ _ _ => cmdRef ref
  | .unforce ref _ _ => cmdRef ref
  | .load ref c => cmdRef ref && optChangeSet c
  | .loadComplete _ => true
  | .arm ref _ => cmdRef ref
  | .ld o => opnd o
  | .ldn o => opnd o
  | .and o => opnd o
  | .andn o => opnd o
  | .or o => opnd o
  | .orn o => opnd o
  | .xor o => opnd o
  | .xorn o => opnd o
  | .not o => opnd o
  | .ldim o => opnd o
  | .shu o => opnd o
  | .shd o => opnd o
  | .any o => opnd o
  | .all o => opnd o
  | .open_ o => opnd o
  | .orb o => opnd o
  | .andb o => opnd o
  | .xorb o => opnd o
  | .dup o => opnd o
  | .pop o => opnd o
  | .peek o => opnd o
  | .drop o => opnd o
  | .st o => opnd o
  | .stn o => opnd o
  | .set o => opnd o
  | .rst o => opnd o
  | .tgl o => opnd o
  | .edr o => opnd o
  | .edf o => opnd o
  | .ton o => opnd o
  | .tof o => opnd o
  | .tp o => opnd o
  | .ctu o => opnd o
  | .ctd o => opnd o
  | .ctud o => opnd o
  | .wld o => opnd o
  | .wst o => opnd o
  | .wadd o => opnd o
  | .wsub o => opnd o
  | .wmul o => opnd o
  | .wdiv o => opnd o
  | .wand o => opnd o
  | .wor o => opnd o
  | .weq o => opnd o
  | .wne o => opnd o
  | .wlt o => opnd o
  | .wle o => opnd o
  | .wgt o => opnd o
  | .wge o => opnd o
  | .wlim o => opnd o
  | .wsel o => opnd o
  | .tsel o => opnd o
  | .trun o => opnd o
  | .jmpc o => opnd o
  | .jmp o => opnd o
  | .call o => opnd o
  | .ret o => opnd o
  | .mark o => opnd o
  | .end_ o => opnd o
  | .imageWrite _ _ bs => byteList bs
  | .roundStart _ => true
  | .mgmtSend _ => true
  | .beaconSend _ => true
  | .outputSend _ _ => true
  | .frameReceive _ _ _ _ bytes => byteList bytes
  | .nodeSlotEnd _ _ => true
  | .txrdy _ _ _ => true
  | .mailboxGo _ _ _ => true
  | .jlaQuenchWrite _ _ _ _ _ _ => true
  | .jlaCounterClear _ _ => true
  | .podlEnableWrite _ _ _ _ => true
  | .podlDetect _ _ _ => true
  | .podlClassify _ _ _ _ => true
  | .podlOverload _ _ => true
  | .podlFaultRetry _ _ => true
  | .podlUndervoltRecover _ _ => true
  | .jlaEnable _ _ => true
  | .jlaDisable _ _ => true
  | .jaloraLinkChange _ _ _ => true
  | .claimRevoke _ _ _ => true
  | .staticSegmentEnd _ => true
  | .restartComplete _ => true
  | .delayTrimUpdate _ => true
  | .listenTimeout _ => true
  | .coldstartComplete _ => true
  | .backoffEnd _ => true
  | .grantIdleExpiry _ _ => true
  | .slotRelease _ _ => true
  | .ocxoWarm => true
  | .ppsEdge _ => true
  | .ppsSecondMissing => true
  | .holdover1h => true
  | .ppsEnableWrite _ _ => true
  | .timeset ref _ _ => cmdRef ref
  | .timeSetGo _ _ => true
  | .ptpSyncSend _ => true
  | .ptpAnnounceSend _ => true
  | .ptpPdelaySend _ => true
  | .ptpMessageReceive _ _ _ _ _ => true
  | .ptpConfigApply _ => true
  | .teArm _ _ _ _ _ _ _ => true
  | .teEvent _ => true
  | .ppsOutput => true
  | .launchTimeTransmit _ _ => true
  | .backboneFrameIngress _ f => bbFrame f
  | .backboneFrameTransmit _ _ => true
  | .gateEntryChange _ => true
  | .gclGo _ _ _ => true
  | .gclSwitch _ => true
  | .bbsQuenchWrite _ _ _ _ => true
  | .txTailWrite _ _ _ => true
  | .recoveryReset _ => true
  | .streamSilent _ => true
  | .tableRead _ _ _ => true
  | .tableWrite _ _ _ => true
  | .tableFind _ => true
  | .tableDelete _ _ _ => true
  | .fdbAgeing _ => true
  | .backboneLinkChange _ _ => true
  | .busMasterEnableChange _ => true
  | .ringEnable _ _ => true
  | .ringDisable _ _ _ => true
  | .doorbellWrite _ _ filled _ => descs filled
  | .completionWrite _ _ _ _ => true
  | .interruptModerationExpiry _ => true
  | .nop ref => cmdRef ref
  | .login ref buf => cmdRef ref && optByteList buf
  | .logout ref => cmdRef ref
  | .claim ref _ => cmdRef ref
  | .release ref => cmdRef ref
  | .handover ref _ => cmdRef ref
  | .accept ref => cmdRef ref
  | .takeover ref => cmdRef ref
  | .fence ref => cmdRef ref
  | .close ref => cmdRef ref
  | .rdreg ref _ _ => cmdRef ref
  | .rdmem ref _ _ _ => cmdRef ref
  | .subscribe ref mask => cmdRef ref && optByteList mask
  | .rdlog ref _ _ _ => cmdRef ref
  | .reset ref => cmdRef ref
  | .quench ref _ _ => cmdRef ref
  | .wrreg ref _ _ _ => cmdRef ref
  | .wrmem ref _ bs => cmdRef ref && optByteList bs
  | .loginLockoutEnd => true
  | .tlsConnect hello anchor fp => tlsHello hello && anchor.all (fun b => decide (b < 256)) && decide (fp < 2 ^ 256)
  | .tlsConnectionClosed _ => true
  | .unitCommand _ _ _ u => desc u.words && decide (u.data.length = u.dlen.toNat)
  | .unitKeepalive _ => true
  | .unitRings _ _ => true
  | .keepaliveSend _ => true
  | .sessionIdleTimeout _ => true
  | .offerTimeout => true
  | .takeoverNotice => true
  | .orphanHoldExpiry => true
  | .inboundRead _ _ => true
  | .crossingDeadlockBreak _ _ _ => true
  | .readReissue _ => true
  | .outboundReadTimeout _ _ => true
  | .outboundReadError _ _ _ => true
  | .halfLockTimeout => true
  | .hostLockGo _ _ _ => true
  | .hostUnlock _ => true
  | .hostLockTimeout => true
  | .canChannelEnable _ _ _ => true
  | .dmaGo _ _ => true
  | .dmaTailWrite _ _ _ => true
  | .dmaAbort _ _ => true
  | .dmaAbortComplete _ _ _ => true
  | .dmaClearHalt _ _ => true
  | .dmaChannelEnable _ _ _ => true
  | .outChainTrigger => true
  | .copy _ => true
  | .fill _ => true
  | .transpose _ => true
  | .untranspose _ => true
  | .deinterleave _ => true
  | .interleave _ => true
  | .descriptorComplete _ _ => true
  | .dmaBusTimeout _ _ => true
  | .fioInputChange _ _ => true
  | .outputWatchdogExpiry => true
  | .outputOverload _ => true
  | .overloadTurnOff _ => true
  | .overloadRetry _ => true
  | .outputLatchClear _ _ => true
  | .openWireDetect _ _ => true
  | .externalVoltageDetect _ _ => true
  | .driverOvertemp _ _ => true
  | .fieldSupplyChange _ _ => true
  | .fcEdge _ => true
  | .fcLineFault _ _ => true
  | .fcCountSet _ _ _ => true
  | .pairTestPulse _ _ => true
  | .pairFaultDetect _ _ => true
  | .pairDemandTimeout _ => true
  | .pairLatchClear _ _ => true
  | .fioEnable _ _ => true
  | .safeguardDatagramReceive _ udp bs => decide (udp < 2 ^ 16) && byteList bs
  | .sfuPublish => true
  | .safeguardWatchdogExpiry _ => true
  | .ss1Timeout _ => true
  | .ss2Standstill _ => true
  | .jx5PathWatchdog _ _ => true
  | .safetyLoad _ => true
  | .commission _ => true
  | .decommission _ => true
  | .pollReceive _ _ _ => true
  | .statusSend partner => optByteList partner
  | .heartbeatMissed => true
  | .relayedPollReceive _ _ _ => true
  | .pairLinkDown => true
  | .pairLinkUp => true
  | .pairKeepaliveSend _ => true
  | .pairTimeMessage _ => true
  | .joinRequest _ issue variant _ _ _ _ _ _ => decide (issue < 16) && decide (variant < 16)
  | .fullCopyBlock b _ => copyBlock b
  | .deltaHeader _ => true
  | .deltaReceive d => delta d
  | .standbySelfTest _ => true
  | .healthUpdate => true
  | .partnerHealthReceive _ _ _ => true
  | .mirrorFrameReceive _ m => mirrorMsg m
  | .relayedFrameReceive _ _ bytes => byteList bytes
  | .plannedSwitchover _ => true
  | .rejoin _ => true
  | .sliceInterruptDelivery => true
  | .eventLatchReplay => true
  | .logEntryWrite => true
  | .logEntryClose => true
  | .criticalAck _ => true
  | .criticalClear _ => true
  | .firmwareLog _ _ _ => true
  | .gleanerSecond => true
  | .gleanerPersist => true
  | .gleanerPersistGo _ => true
  | .gleanerSample _ _ => true
  | .gleanerUserClear _ => true
  | .histogramAdd _ _ _ => true
  | .commissioningLockSet _ => true
  | .commissioningLockRelease _ => true
  | .journalDrain => true
  | .baseRewriteComplete => true
  | .stageBegin ref _ _ => cmdRef ref
  | .stageData ref _ n b => cmdRef ref && decide (n ≤ 65536) && b.all (fun l => l.length == n)
  | .activate ref _ _ _ => cmdRef ref
  | .confirm ref => cmdRef ref
  | .stagingLockTimeout => true
  | .updateStageEnd ref obj => cmdRef ref && stagedObj obj
  | .reservedOpcode op o => decide (op < 64) && opnd o
  | .fetchOutsideProgram => true
  | .pcieLinkDown => true
  | .cycleTriggerRestored => true
  | .pllRelock _ => true
  | .deltaAcknowledge _ => true
  | .completionSlotReturn _ => true

end Sys2Proof.WellFormed
end

