-- ==== Sys2Proof/Tests/Slice0.lean ====
section
/-! SUPPORT. Tests: terms that the well-formedness check refuses, the spec's worked examples on small states, and for every
obligation with hypotheses a witness that meets them clause by clause. Expected values are those of the spec's text. -/

set_option Elab.async false

namespace Sys2Proof.Tests

open Sys2Proof Sys2Proof.Machine R

/-! States that the witnesses and tests start from -/

/-- The state after reset with the listed fields set. -/
def ws (l : List (Fld × Nat)) : State := l.foldl (fun s p => wr p.1 p.2 s) State.reset
/-- All islands on. -/
def isl : Fld × Nat := (PWR_ISLSTAT, 0x1FFFFF)
/-- Islands on and out of reset, and session 0, the host's own, owns the module with maker role. -/
def own : List (Fld × Nat) :=
  [isl, (HBR_SESS_OPEN 0, 1), (HBR_SESS_ROLE 0, 3), (HBR_OWNER_VALID, 1), (HBR_OWNER_SESSION, 0)]
/-- A command of session 0. -/
def ref0 : CmdRef := ⟨0, 0, 1, false⟩
/-- The solver runs at the end of page 0, with four planes of every space. -/
def run0 : List (Fld × Nat) :=
  [isl, (LSV_STATUS_RUNNING, 1), (LSV_STATUS_CTX, 0), (LSV_STATUS_PC, 1023), (IMG_SIZE0_IPL, 4), (IMG_SIZE0_QPL, 4), (IMG_SIZE1_MPL, 4),
   (IMG_SIZE1_EPL, 4), (IMG_SIZE2_WPL, 4), (IMG_SIZE2_TPL, 4), (IMG_SIZE2_CPL, 4)]
/-- The same in template context. -/
def runT : List (Fld × Nat) := run0 ++ [(LSV_STATUS_CTX, 1)]
/-- A solver in scalar context, and one in a template with lanes 1 and 63. -/
def sol0 : Solver := ⟨0x5, 7, [.b 3], none⟩
def solT : Solver :=
  ⟨0x8000000000000005, 3, [.r 4 true], some ⟨0, 0x8000000000000002, [(0, 2), (1, 2), (0, 2), (0, 2), (0, 2), (0, 2), (1, 2), (0, 0)]⟩⟩
/-- A NOP descriptor, and completions of it in sessions 0 and 7. -/
def desc0 : Desc := ⟨true, false, false, 1, 0, 0, 0, 0, 0, 0, 0⟩
def cpl0 : Completion := ⟨ref0, 1, 0, 0, false, 0, 0, 0, 0, []⟩
def cpl7 : Completion := ⟨⟨7, 0, 1, true⟩, 1, 0, 0, false, 0, 0, 0, 0, []⟩

def hello : TlsHello := ⟨[0x304], [0x1301], [23], true, true, true, true, false⟩
def hit0 : Hit := ⟨regsSYS.getD 0 ⟨0,false,[],[]⟩, [], 0, false⟩
def mem0 : List Host.Cell := (List.range 64).map (fun i => (0x1000 + i, BitVec.ofNat 8 (7 * i + 1)))
def dma1 (n : Nat) (w : List Nat) (s : State) : State := { wr (DMA_CH_CTRL_STATE n) 2 s with mem := mem0, dma := s.dma.set n { DmaCh.idle with words := some w } }
def retr : OutRead := ⟨16, none, 0, 0xC00000000, 4, 0, false, 0⟩
def retr3 : OutRead := ⟨3, none, 0, 0xC00000040, 4, 2, false, 0⟩
def retrR : OutRead := ⟨3, none, 0, 0xC00000040, 4, 2, true, 0⟩
def cr1 (x : Option Nat) : Core := { Core.reset with resv := x, pc := 0x5000, csr := [(0x305, 0x41)] }
def rp : Report := ⟨100, 7, false, 5, 100, 3⟩
def rpc : Report := ⟨100, 7, true, 5, 100, 3⟩
def oe : OpenEntry := ⟨⟨100, 7, false, 5, 90, 3⟩, false, 9, 12, 3, 0⟩
def img1 : ImageInfo := ⟨true, 0x0A07, 0xFFFF, 0xFFFF, [], 5, 0, 9, 1, 1, 2⟩
def upd0 : List (Fld × Nat) := own ++ [(HBR_SESS_READONLY 0, 0), (I.ROM, 0), (UPD_STATUS_LOCKED, 1), (UPD_STATUS_LOCKSESS, 0)]
def jr (n : Nat) : JRec := ⟨n, [(0x1020010000, List.replicate 64 1)]⟩
def ow : List (Fld × Nat) := own ++ [(HBR_SESS_READONLY 0, 0), (PAIR_STATUS_STATE, 0), (I.ROM, 0), (PWR_STATE, 0), (PWR_STATE_TRANS, 0), (PWR_SUPPLY_HOLDUP_RDY, 1), (HBR_LINK_BME, 1)]
def okSt : List (Fld × Nat) := ow ++ [(CYC_STATE, 0), (CYC_STATE_RSTBLOCK, 0), (I.PWR_OCXOFAIL, 0), (CYC_CHGID, 7), (I.BOOTED, 1)]
def chs : ChangeSet := ⟨true, 7, 9, 0, [], [], [], 0, [], [], [1, 1, 1, 1, 1, 1, 1], [], 0, [], []⟩
def stg : List (Fld × Nat) := okSt ++ [(CYC_STATE, 1), (I.HELD, 0), (CYC_CHG_BANK, 0), (CYC_STAGE_VALID 0 4, 1), (CYC_STAGE_SOLVER 0 4, 1)]
def aA : SliceAct := ⟨[⟨1, false, 5, 9, 7⟩], [⟨0, 0xFF, 0x1000, 3⟩], [.csr 0 0x300 5], [], none⟩
def aB : SliceAct := ⟨[⟨1, false, 5, 9, 7⟩], [⟨0, 0xFF, 0x1000, 2⟩], [.csr 0 0x300 5], [], none⟩
def aC : SliceAct := ⟨[], [], [.branch 2 true 0x40], [], none⟩
def jc : List (Fld × Nat) := own ++ [(HBR_SESS_READONLY 0, 0), (PAIR_STATUS_STATE, 0), (PAIR_STATUS_POS, 3), (PAIR_STATUS_PLINK, 0), (CYC_STATE, 0), (I.ROM, 0), (I.BOOTED, 1), (JLA_SLOTCFG_NSTATIC 2, 8), (JLA_SLOTCFG_SLOTLEN 2, 20), (JLA_DYNCFG_NMINI 2, 2), (JLA_OUTSLOT_COUNT 2, 1), (JLA_NODETAB_BASE 2, 0x1000), (JLA_NODETAB_ENTRIES 2, 2), (JLA_CTRL_EN 2, 0), (JLA_CTRL_BUSY_OFF 2, 0), (JLA_DELAYTAB_BASE 2, 0x2000), (JLA_RXBUF_BASE 2 0, 0x3000), (JLA_RXBUF_BASE 2 1, 0x4000), (JLA_CNTBASE_BASE 2, 0x5000), (JLA_TXBUF_BASE 2 0, 0x6000), (JLA_CLAIMTAB_BASE 2, 0x7000), (JLA_CLAIMCFG_ENTRIES 2, 4), (JLA_CLAIMCFG_CLAIM_EN 2, 1), (JLA_ROUNDCFG_ROUNDLEN 2, 10000), (JLA_PHASE 2, 0), (JLA_DYNCFG_MINISLOT 2, 10), (JLA_TIMING_PREC 2, 300), (JLA_TIMING_APO 2, 3), (JLA_OUTSLOT_FIRST 2, 3), (JLA_RECSZ 2, 80)]
def jl1 : List (Fld × Nat) := jc ++ [(JLA_CTRL_EN 2, 1), (JLA_CTRL_PATHA_EN 2, 1), (JLA_CTRL_PATHB_EN 2, 1), (JLA_SYNCSTAT_STATE 2, 4), (JLA_CTRL_DISPEND 2, 0), (I.JLA_MIRROR 2, 0), (I.JLA_HOLD 2, 0), (JLA_STATUS_ROUND 2, 6), (I.JLA_EMPTY 2, 0), (JLA_STATUS_RXBUF 2, 0)]
def nodes : List Host.Cell := [(0x40000, 0x04), (0x40001, 0x80), (0x40003, 0xE0), (0x40007, 3), (0x40010, 0x05), (0x40011, 0x80), (0x40013, 0xB0), (0x40017, 3)]
def jlv (s : State) : State := { s with mem := nodes, jla := s.jla.set 2 { JlaCh.off with live := true, rounds := 5, nt := 6000000 } }
def jk : JKept := ⟨false, 4, 1, true, false, false, false, 6, 0, 4, 0x020000000001, 0, [1, 2, 3, 4], true, false, false, 30, 6330⟩
def fr4 : List Byte := [0x03, 0x4A, 0x4C, 0x52, 0x00, 0x02, 2, 0, 0, 0, 0, 1, 0x88, 0xB5] ++ jHeader 1 { sync := true } 0 2 4 6 4 0 ++ [1, 2, 3, 4]
def claims1 (s : State) : State := { s with mem := [(0x1C0012, 0x06), (0x1C0013, 0x80), (0x1C0018, 0xFF)] }
def tt : List (Fld × Nat) := own ++ [(HBR_SESS_READONLY 0, 0), (PAIR_STATUS_STATE, 0), (PAIR_STATUS_POS, 3), (CYC_STATE, 0), (I.ROM, 0), (TIM_CTRL_STEP_EN, 1), (TIM_SEC, 100), (TIM_NSEC, 20), (TIM_PPSCFG_INDELAY, 0), (CYC_STATE_SAFEOUT, 0)]
def bb : List (Fld × Nat) := tt ++ [(BBS_CTRL_EN, 1), (BBS_PORT_EN 0, 1), (BBS_PORT_EN 1, 1), (BBS_PORT_EN 2, 1), (BBS_PORT_EN 3, 1), (BBS_STATUS_LINK, 15), (BBS_PORT_LEARN 3, 1), (BBS_PORT_LEARN 2, 1), (BBS_QUENCH_INDROP 3, 0), (BBS_QUENCH_INDROP 2, 0), (BBS_QUENCH_CLASSES 3, 0), (BBS_GCL_CTRL_GATEEN 3, 0), (BBS_QUENCH_CLASSES 1, 0), (BBS_GCL_CTRL_GATEEN 1, 0), (BBS_STATUS_SFPREF, 0)]
def te4 (f : TePin → TePin) (s : State) : State := teSet 3 f s
def pt (f : PtpPort → PtpPort) (s : State) : State := ptpSet 3 (fun p => f { p with en := true, domain := 7 }) s
def fr : BbFrame := ⟨0x020000000009, 0x020000000005, some (6, 5), none, .other, List.replicate 50 1⟩
def frBig : BbFrame := ⟨0x020000000009, 0x020000000005, some (6, 5), none, .other, List.replicate 1981 1⟩
def vl (s : State) : State := { s with bbs := { s.bbs with vlan := [(5, ⟨true, 2, 0x1F⟩)], fdb := [(0, ⟨0x020000000009, 5, false, 2, 0⟩)] } }
def bq : BbQueued := ⟨3, 5, fr, none, none, none⟩
def bql (l : Nat) : BbQueued := ⟨3, 5, fr, some l, none, none⟩
def qd (q : BbQueued) (s : State) : State := { s with bbs := { s.bbs with queue := [⟨3, 4, fr, none, none, none⟩, q, q] } }
def gl : GateList := ⟨5, 20000, 2, 5⟩
def stE : StreamEntry := ⟨true, false, true, false, 5, 9, 8, 100, 0, 0, 0, some 4, [true], 0, some 1, 0, false⟩
def fdbE : FdbEntry := ⟨0x020000000009, 5, false, 2, 0⟩
def cg : List (Fld × Nat) := tt ++ [(CGW_CH_CFG_CHEN 1, 0), (CGW_CH_CFG_JCH 1, 2), (CGW_CH_CFG_NODE 1, 0), (JLA_CTRL_EN 2, 1), (JLA_NODETAB_BASE 2, 0x1000), (JLA_NODETAB_ENTRIES 2, 1), (CGW_MAPBASE_ENTRIES, 2), (CGW_MAPBASE_BASE, 0x5000), (CGW_CH_NBT_TSEG1M1 1, 5), (CGW_CH_NBT_TSEG2M1 1, 3), (CGW_CH_NBT_SJWM1 1, 0), (CGW_CH_NBT_BRPM1 1, 0), (CGW_CH_DBT_TSEG1M1 1, 3), (CGW_CH_DBT_TSEG2M1 1, 1), (CGW_CH_DBT_SJWM1 1, 0), (CGW_CH_DBT_BRPM1 1, 0), (IMG_SIZE2_WPL, 1), (IMG_SIZE0_IPL, 1)]
def cgm : List Host.Cell := [(0x40000, 0x04), (0x40002, 0x02), (0x40003, 0x80), (0x40006, 0x80), (0x50000, 0x08), (0x50003, 0xA0), (0x50004, 0x23), (0x50010, 0x08), (0x50013, 0x80)]
def st0 : State := pt (fun p => p) (ws bb)
def st1 : State := pt (fun p => { p with proto := 3, peer := some 6553600 }) (ws bb)
def st2 : State := pt (fun p => { p with proto := 2, seqPdly := 8, t1 := some 65536 }) (ws bb)
def msgS : PtpMsg := ⟨0, 0x011B19000000, 0, 7, 9, [], true⟩
def msgT : PtpMsg := { msgS with oneStep := false }
def bqm (m : PtpMsg) : BbQueued := ⟨3, 7, fr, none, none, some m⟩
def stQ1 : State := qd (bqm msgS) (pt (fun p => p) (ws bb))
def stQ2 : State := qd (bqm msgT) (pt (fun p => p) (ws bb))
def stp (l : List (Fld × Nat)) (p : TePin) : State := te4 (fun _ => p) (ws (bb ++ l))
def ff : List (Fld × Nat) := own ++ [(HBR_SESS_READONLY 0, 0), (PAIR_STATUS_STATE, 0), (PAIR_STATUS_POS, 3), (CYC_STATE, 0), (I.ROM, 0), (TIM_SEC, 100), (TIM_NSEC, 20), (FIO_CTRL_EN, 1), (FIO_CTRL_BUSY_OFF, 0), (FIO_STATUS_L1OK, 1), (FIO_STATUS_L2OK, 1), (FIO_STATUS_WDEXP, 0), (FIO_STATUS_MAPERR, 0), (CYC_STATE_SAFEOUT, 0), (I.FIO_PFSAFE, 0), (I.FIO_ROW3, 0), (FIO_OUT, 0), (FIO_FCERR_LINE, 0), (FIO_FCCFG_INV, 0), (SYS_IDENT_VARIANT, 1), (IMG_SIZE0_IPL, 4), (IMG_SIZE0_QPL, 4), (IMG_SIZE2_WPL, 4)]
def pp : List (Fld × Nat) := ff ++ [(FIO_PAIRCFG_PEN, 15), (FIO_CHCFG_MODE 18, 3), (FIO_CHCFG_MODE 19, 3), (FIO_PAIRSTAT_DEMAND 1, 1), (FIO_PAIRSTAT_ON 1, 1), (FIO_PAIRSTAT_LATCHED 1, 0), (FIO_CHSTAT_OVL 18, 0), (FIO_CHSTAT_LATCH 18, 0), (FIO_CHSTAT_OTEMP 18, 0), (FIO_CHSTAT_OVL 19, 0), (FIO_CHSTAT_LATCH 19, 0), (FIO_CHSTAT_OTEMP 19, 0), (FIO_OUT, 0x0C0000)]
def sf : List (Fld × Nat) := ff ++ [(SFU_CTRL_EN, 1), (SFU_STATUS_STATE, 4), (SFU_BBCFG_PORT, 5000), (SFU_BBCFG_JX5PORT, 5001), (CKP_SEQ, 9)]
def cells (a : Nat) (n v : Nat) : List Host.Cell := ((List.range n).map (fun i => (⟨a + i, BitVec.ofNat 8 (v / 256 ^ i)⟩ : Host.Cell))).filter (fun c => c.2 ≠ 0)
def rec0 (b : Nat) : List Host.Cell := cells b 8 0x0000000200000001 ++ cells (b + 8) 4 0 ++ cells (b + 0x40) 4 0x90100007 ++ cells (b + 0x58) 4 0x01200000 ++ cells (b + 0x70) 4 0xA0100008 ++ cells (b + 0x88) 4 0x04800000
def sm (l : List (Fld × Nat)) : State := { ws l with mem := rec0 sfArea ++ cells sfStamp 8 9 }
def kn (st : Nat) (l : List (Fld × Nat)) : State := let s := sm l; { s with safe := { s.safe with conns := [(1, { Conn.off with state := st, count := 3 })], axes := [(5, { Axis.idle with resp := 1, pos := -7 })] } }
def pr : List (Fld × Nat) := own ++ [(HBR_SESS_READONLY 0, 0), (PAIR_STATUS_STATE, 6), (PAIR_STATUS_POS, 2), (PAIR_STATUS_PLINK, 1), (PAIR_CTRL_PAIRID, 5), (PAIR_STATUS_REFOK, 1), (PAIR_STATUS_MISSED, 0), (PAIR_EPOCH, 10), (PAIR_REFACT_ACTIVE, 2), (CYC_STATE, 0), (I.ROM, 0), (TIM_SEC, 100), (TIM_NSEC, 20), (I.PAIR_POLLT, 0), (I.PAIR_RESIGN, 0), (I.PAIR_RESIGNSENT, 0), (I.PAIR_PARTREF, 0), (PAIR_VER, 1), (SYS_IDENT_ISSUE, 3), (SYS_IDENT_VARIANT, 1), (I.SFU_RTID, 77), (I.PAIR_NOJOIN, 0), (I.PAIR_INCOMPL, 0), (I.PAIR_VERMISS, 0), (I.PAIR_LASTBLK, 0), (I.PAIR_TC, 0), (PAIR_ANNOUNCED, 88), (CKP_SEQ, 87), (TIM_STATUS_STATE, 5)]
def ckp0 : Checkpoint := Checkpoint.empty
def dl : Delta := ⟨88, 100, 0, [(0, 0, [1, 2])], 0, [], false, none, [(sfStamp, [88])], [(1, [5, 6])], ckp0, State.reset.safe⟩
/-- A credential whose digest is that of its salt with a passphrase, and a state that holds it alone. -/
def cred5 : Credential := ⟨5, 2, false, 0, [9], Config.sha256 ([9] ++ [1, 2, 3, 4, 5, 6, 7, 8])⟩
def credState : State := let s := ws (own ++ [(I.HBR_LOCKOUT, 0), (HBR_LINK_BME, 1)]); { s with creds := { s.creds with entries := [cred5] } }

/-! Well-formedness: a term that each check refuses -/

section
open WellFormed

/-- A descriptor of `n` zero words, and an empty change set. -/
def zeroWords (n : Nat) : List Word := List.replicate n 0
def chg0 : ChangeSet := ⟨true, 0, 0, 0, [], [], [], 0, [], [], [], [], 0, [], []⟩

theorem test_wf_accepts : instr (.ld ⟨7, true, true, 0x1FFFFF⟩) = true ∧ instr (.stop ref0) = true
    ∧ instr (.safeguardDatagramReceive 0 65535 []) = true := by decide +kernel
theorem test_wf_operand : instr (.ld ⟨8, false, false, 0⟩) = false ∧ instr (.end_ ⟨0, false, false, 0x200000⟩) = false := by
  decide +kernel
theorem test_wf_command_ref : instr (.nop ⟨0, 16, 0, false⟩) = false ∧ instr (.nop ⟨0, 0, 65536, false⟩) = false := by decide +kernel
theorem test_wf_descriptor : desc (zeroWords 8) = true ∧ desc (zeroWords 7) = false ∧ desc (zeroWords 9) = false := by decide +kernel
theorem test_wf_doorbell : instr (.doorbellWrite 0 0 (List.replicate 4097 none) false) = false
    ∧ instr (.doorbellWrite 0 0 [some (zeroWords 9)] false) = false := by decide +kernel
theorem test_wf_unit_command : instr (.unitCommand 0 0 0 ⟨1, zeroWords 8, [0]⟩) = true
    ∧ instr (.unitCommand 0 0 0 ⟨0, zeroWords 7, []⟩) = false ∧ instr (.unitCommand 0 0 0 ⟨1, zeroWords 8, []⟩) = false := by decide +kernel
theorem test_wf_bytes : instr (.login ref0 (some (List.replicate 65537 0))) = false
    ∧ instr (.wrmem ref0 0 (some (List.replicate 65537 0))) = false := by decide +kernel
theorem test_wf_change_set : [{ chg0 with pages := [(1024, [])] }, { chg0 with pages := [(0, List.replicate 1025 0)] },
    { chg0 with pages := [(0, [2 ^ 32])] }, { chg0 with active := [1024] }, { chg0 with templates := [(512, List.replicate 64 0)] },
    { chg0 with templates := [(0, [])] }, { chg0 with bindings := [2 ^ 128] }, { chg0 with tasks := [(2 ^ 64, 0)] },
    { chg0 with code := [(0, List.replicate 65537 0)] }].all
    (fun c => !instr (.load ref0 (some c)) && !instr (.fullCopyBlock (.program c) 0)) = true := by decide +kernel
theorem test_wf_frame : [{ fr with dst := 2 ^ 48 }, { fr with src := 2 ^ 48 }, { fr with tag := some (8, 0) },
    { fr with tag := some (0, 4096) }, { fr with rtag := some 65536 }, { fr with rest := List.replicate 65537 0 }].all
    (fun f => !instr (.backboneFrameIngress 0 f)) = true := by decide +kernel
theorem test_wf_credential : [(⟨65536, 1, false, 0, List.replicate 16 0, 0⟩ : Credential), ⟨0, 4, false, 0, List.replicate 16 0, 0⟩,
    ⟨0, 1, false, 2, List.replicate 16 0, 0⟩, ⟨0, 1, false, 0, [], 0⟩, ⟨0, 1, false, 0, List.replicate 16 256, 0⟩,
    ⟨0, 1, false, 0, List.replicate 16 0, 2 ^ 256⟩].all (fun c => !credential c) = true := by decide +kernel
theorem test_wf_datagram : instr (.safeguardDatagramReceive 0 65536 []) = false := by decide +kernel
theorem test_wf_join : instr (.joinRequest 1 16 0 0 0 true 0 false 0) = false ∧ instr (.joinRequest 1 0 16 0 0 true 0 false 0) = false := by
  decide +kernel
theorem test_wf_copy_block : instr (.fullCopyBlock (.memory (2 ^ 40) [0]) 0) = false
    ∧ instr (.fullCopyBlock (.small Checkpoint.empty State.reset.safe (List.replicate 257 (0, 0, 0)) 0 [] [] 0 0) 0) = false := by decide +kernel
theorem test_wf_delta : [{ dl with seq := 2 ^ 64 }, { dl with t0ns := 10 ^ 9 }, { dl with lines := [(0, [])], qlines := [] },
    { dl with lines := [], qlines := [(0, [])] },
    { dl with lines := [], qlines := [], load := some { chg0 with active := [1024] } }].all (fun d => !delta d) = true := by decide +kernel
theorem test_wf_mirror : [MirrorMsg.frame false (List.replicate 65537 0), .output false 0 0 (List.replicate 65537 0) [],
    .round 0 0 false (List.replicate 65537 0) [] [] false [], .round 0 0 false [] (List.replicate 513 (0, 0)) [] false [],
    .round 0 0 false [] [] (List.replicate 9 (0, 0, 0)) false []].all (fun m => !mirrorMsg m) = true := by decide +kernel
theorem test_wf_stage : instr (.stageData ref0 0 65537 none) = false ∧ instr (.stageData ref0 0 2 (some [0])) = false := by decide +kernel
def img0 : ImageInfo := ⟨true, 0, 0, 0, [], 0, 0, 0, 0, 0, 0⟩
theorem test_wf_staged : [StagedObj.image { img0 with units := List.replicate 17 0 }, .image { img0 with imgver := 2 ^ 64 },
    .creds true ⟨List.replicate 65 ⟨0, 1, false, 0, List.replicate 16 0, 0⟩, [], 0⟩,
    .creds true ⟨[⟨0, 1, false, 0, [], 0⟩], [], 0⟩,
    .creds true ⟨[], [[], [], [], [], []], 0⟩,
    .creds true ⟨[], [List.replicate 2049 0], 0⟩, .settings ⟨true, 2 ^ 32, 0, [], []⟩].all
    (fun o => !instr (.updateStageEnd ref0 o)) = true := by decide +kernel
theorem test_wf_partner : instr (.tlsConnect hello [256] 0) = false ∧ instr (.tlsConnect hello [] (2 ^ 256)) = false
    ∧ instr (.tlsConnect { hello with suites := [65536] } [] 0) = false
    ∧ instr (.statusSend (some (List.replicate 65537 0))) = false := by decide +kernel
theorem test_wf_reserved : instr (.reservedOpcode 64 ⟨0, false, false, 0⟩) = false := by decide +kernel

end

/-! The spec's worked examples and stated corners, one small check each -/

/-- What a register field reads in the answer. -/
def rdOf (f : Fld) : Out → Nat
  | .next t => rd t f
  | .fault _ => 0
  | .refused _ => 0

/-- WDIV (R174): a divisor of zero, and the quotient of −2,147,483,648 by −1. -/
theorem test_wdiv_corners : wdiv 5 0 = 0x7FFFFFFF ∧ wdiv 0xFFFFFFFB 0 = 0x80000000 ∧ wdiv 0 0 = 0
    ∧ wdiv 0x80000000 0xFFFFFFFF = 0x7FFFFFFF ∧ wdiv 0xFFFFFFF9 2 = 0xFFFFFFFD := by decide

/-- Instruction words of the first example of chapter 7. -/
theorem test_instruction_words : insWord 0x00 ⟨spI, false, false, 10⟩ = 0x0000000A ∧ insWord 0x03 ⟨spM, false, false, 5⟩ = 0x0D000005
    ∧ insWord 0x05 ⟨spM, true, false, 0⟩ = 0x15400000 ∧ insWord 0x18 ⟨spQ, false, false, 40⟩ = 0x60800028 := by decide

/-- The same words decode to their instructions; an opcode between two groups decodes to the reserved one (Tables 7.1, 7.3 to 7.8). -/
theorem test_decode_words : decodeTableWord 32 0x0000000A = some (.ld ⟨spI, false, false, 10⟩)
    ∧ decodeTableWord 32 0x0D000005 = some (.andn ⟨spM, false, false, 5⟩) ∧ decodeTableWord 32 0x60800028 = some (.st ⟨spQ, false, false, 40⟩)
    ∧ decodeTableWord 32 0x15400000 = some (.orn ⟨spM, true, false, 0⟩) ∧ decodeTableWord 32 0xFC000000 = some (.end_ ⟨0, false, false, 0⟩)
    ∧ decodeTableWord 32 0x38000000 = some (.reservedOpcode 0x0E ⟨0, false, false, 0⟩) ∧ decodeTableWord 16 0 = none := by
  decide +kernel

/-- The conveyor example of chapter 7: SHD of the run lanes 60 to 63, with 0 from M101. -/
theorem test_shift_down : shiftDown (broadcast true) 0x4000000000000000 false = 0x2000000000000000 := by decide +kernel

/-- The timer example of chapter 8: the first execution, and those of cycles 3,999 and 4,000 after the timebase has wrapped. -/
theorem test_timer_starts :
    (timerExec .ton (2 ^ 48 - 1500) true (TimerWord.ofPair (0, 0x003D0900))).toPair = (0x3000FFFFFFFFFA24, 0x003D0900) := by
  decide +kernel
theorem test_timer_runs :
    (timerExec .ton 3997500 true (TimerWord.ofPair (0x3000FFFFFFFFFA24, 0x003D0900))).q = false
    ∧ (timerExec .ton 3998500 true (TimerWord.ofPair (0x3000FFFFFFFFFA24, 0x003D0900))).toPair
        = (0x7000FFFFFFFFFA24, 0x003D0900003D0900) := by decide +kernel

/-- Element 828 of the same example. -/
theorem test_timer_address : timerAddr 828 = 0x10200433C0 := by decide

/-- Channel 2 of the example of chapter 9: capacity, action points of slots 163 and 15, record of node 100. -/
def ch2 : State := ws [(JLA_ROUNDCFG_ROUNDLEN 2, 10000), (JLA_SLOTCFG_SLOTLEN 2, 16), (JLA_SLOTCFG_NSTATIC 2, 542), (JLA_TIMING_APO 2, 3),
  (JLA_TIMING_PREC 2, 300), (JLA_RECSZ 2, 48)]
theorem test_slot_capacity : jCap ch2 2 = 75 := by decide +kernel
theorem test_action_points : jAp ch2 2 163 = 259500 ∧ jAp ch2 2 15 = 22700 ∧ jMiniStart ch2 2 1 = 867200 := by decide +kernel
theorem test_record_address : rxRecord ch2 2 0 100 = 0x1380 := by decide +kernel

/-- The synchronisation example of chapter 10: offset and rate terms. -/
theorem test_fault_tolerant_midpoint :
    ftm [46, 41, 58, 33, -240, 50] = 41 ∧ ftm [6, 6, 6, 5, -530, 6] = 5 := by decide +kernel

/-- The gate example of chapter 12: at 400 µs class 7 is open to the end of the cycle and in the 10 µs window of the next; class 6 only up to 200 µs; a quenched class
is closed. -/
def bb0 (ns : Nat) : State :=
  let s := ws [(BBS_GCL_CTRL_GATEEN 0, 1), (BBS_GCL_CTRL_OPERBANK 0, 0), (BBS_GCLE_ENTRY 0 0 0, 0x4000000000030D40),
    (BBS_GCLE_ENTRY 0 0 1, 0xBF000000000C3500), (BBS_MGMT_MGMTWIN, 10), (BBS_QUENCH_CLASSES 0, 0x3F), (TIM_NSEC, ns)]
  { s with bbs := { s.bbs with oper := [⟨0, 1000000, 2, 0⟩] } }
theorem test_gates_of_entry_1 : gateOpen (bb0 400000) 0 7 = some 610000 ∧ gateOpen (bb0 400000) 0 6 = some 0
    ∧ gateOpen (bb0 400000) 0 3 = some 0 := by decide +kernel
theorem test_gates_of_entry_0 : gateOpen (bb0 150000) 0 7 = some 0 ∧ gateOpen (bb0 150000) 0 6 = some 50000
    ∧ gateOpen (bb0 4000) 0 7 = some 6000 := by decide +kernel

/-- The TRANSPOSE descriptor of the example of chapter 15. -/
def tpose : DDesc := dDesc [0x02000000, 0xFC000004, 0x400000C0, 0x00300001, 0x20000400, 0x00100010, 0, 0x0B800001]
theorem test_transpose_descriptor : tpose.mode = 2 ∧ tpose.k = 64 ∧ tpose.count = 4 ∧ tpose.src = 0x01400000C0 ∧ tpose.stride = 48
    ∧ tpose.dst = 0x1020000400 ∧ tpose.fofs = 16 ∧ tpose.next = 0x0170000020 := by decide +kernel
theorem test_transpose_source_end : (srcExtent tpose).2 = 0x0140000CA3 + 1 ∧ dCheck tpose = dsOK := by decide +kernel

/-- Feed 1 at 23.84 V (chapter 2): FEED1_V = 0x0950. -/
theorem test_feed_voltage : rdOf PWR_FEEDV_FEED1_V (exec (.supplyRegisterRefresh 2384 2384 0) (ws [isl])) = 0x0950 := by decide +kernel

/-- The commissioning example of chapter 17: the entered check value takes the state from 1 to 3. -/
theorem test_commission : rdOf SFU_STATUS_STATE (exec (.commission .host)
    (ws (sf ++ [(SFU_STATUS_STATE, 1), (SFU_CMTCV, 0x3A7C91E2), (SFU_CFGCV_CV, 0x3A7C91E2)]))) = 3 := by decide +kernel

/-- LEDs after power-on reset: all light, TIME first green (R49); after that RUN flashes at 4 Hz while start-up runs (Table 2.6). -/
theorem test_leds_at_reset : ledRun State.reset = .steady ∧ ledFlt State.reset = .steady ∧ ledTimeGreen State.reset = .steady
    ∧ ledTimeAmber State.reset = .off ∧ ledRun (ws [(I.PWR_LAMP, 0)]) = .hz4 := by decide +kernel

/-- Memory keeps its canonical form under a write of the value that an unlisted byte reads as (log entry 4). -/
theorem test_memory_write_default : (Memory.write (Memory.write State.reset.mem 0x100 7) 0x100 0) = State.reset.mem := by
  decide +kernel

/-- A step on a queue of two commands runs the first and keeps the second. -/
theorem test_step_order : (match step { State.reset with pending := [.loginLockoutEnd, .fetchOutsideProgram] } with
    | .next t => decide (t.pending = [.fetchOutsideProgram])
    | .fault _ => false
    | .refused _ => false) = true := by decide +kernel

/-! Witnesses -/

/-- Hypotheses of StepRunsFront, clause by clause: each holds together somewhere. -/
theorem wit_StepRunsFront :
    ∃ c : Instr, ∃ q : List Instr, ∃ s : State, s.pending = c :: q :=
  ⟨.loginLockoutEnd, [], { State.reset with pending := [.loginLockoutEnd] }, rfl⟩

/-- Hypotheses of IdleStep, clause by clause: each holds together somewhere. -/
theorem wit_IdleStep :
    (∃ s : State, (s.pending = []))
    ∧ (∃ s : State, (s.pending = []) ∧ (s.heldAcc = []) ∧ (s.regq = []) ∧ (prState s ≠ prPROMOTING) ∧ (islandPowered s 19 = false) ∧ (islandPowered s 8 = false) ∧ (rd s I.PWR_LAMP = 0) ∧ (∀ c ∈ s.cmds, opDefined c.desc.opcode = true))
    ∧ (∃ s : State, (s.pending = []) ∧ (s.heldAcc = []) ∧ (s.regq = []) ∧ (prState s ≠ prPROMOTING) ∧ (rd s SLC_READMIT_PHASE = 0) ∧ (islandPowered s 19 = true) ∧ (rateNow s = 0) ∧ (s.tim.frac = 0) ∧ (rd s TIM_NSEC < 999999998) ∧ (rd s TIM_SEC < 2 ^ 64)) :=
  ⟨⟨(ws [(I.PWR_LAMP, 0)]), by decide +kernel⟩,
   ⟨(ws [(I.PWR_LAMP, 0)]), by decide +kernel⟩,
   ⟨(ws [isl]), by decide +kernel⟩⟩

/-- Hypotheses of StepKeepsInv, clause by clause: each holds together somewhere. -/
theorem wit_StepKeepsInv :
    ∃ s t : State, Inv s ∧ step s = .next t :=
  ⟨State.reset, idle State.reset, by decide +kernel, rfl⟩

/-- Hypotheses of ExecKeepsQueue, clause by clause: each holds together somewhere. -/
theorem wit_ExecKeepsQueue :
    ∃ (c : Instr) (s t : State), exec c s = .next t :=
  ⟨.loginLockoutEnd, State.reset, _, rfl⟩

/-- Hypotheses of SupplyEvents, clause by clause: each holds together somewhere. -/
theorem wit_SupplyEvents :
    (∃ n : Fin 2, ∃ s : State, (evcOn s) ∧ (on s (feedOk ↑n) = true))
    ∧ (∃ n : Fin 2, ∃ s : State, (on s (feedOk ↑n) = false) ∧ (wakeFrom s = 0))
    ∧ (∃ low : Bool, ∃ s : State, (evcOn s))
    ∧ (∃ s : State, (evcOn s) ∧ (on s PWR_SUPPLY_PLATE_WARN = false))
    ∧ (∃ s : State, (on s PWR_SUPPLY_PLATE_STOP = false)) :=
  ⟨⟨1, ⟨(ws [isl, (feedOk 1, 1)]), by decide +kernel⟩⟩,
   ⟨1, ⟨(ws [isl]), by decide +kernel⟩⟩,
   ⟨true, ⟨(ws [isl]), by decide +kernel⟩⟩,
   ⟨(ws [isl]), by decide +kernel⟩,
   ⟨(ws [isl]), by decide +kernel⟩⟩

/-- Hypotheses of PowerFail, clause by clause: each holds together somewhere. -/
theorem wit_PowerFail :
    (∃ s : State, (on s PWR_SUPPLY_PFW = false) ∧ (pwState s = pwRUN) ∧ (s.evFifo = []) ∧ (s.evOpen = []))
    ∧ (∃ s : State, (on s PWR_SUPPLY_PFW = true) ∧ (on s I.PWR_PFLATE = false) ∧ (on s I.HELD = false))
    ∧ (∃ s : State, (evcOn s) ∧ (on s PWR_SUPPLY_PFW = true) ∧ (on s I.PWR_PFLATE = false) ∧ (on s I.HELD = false))
    ∧ (∃ s : State, (on s PWR_SUPPLY_PFW = true) ∧ (on s I.PWR_PFLATE = true)) :=
  ⟨⟨(ws [isl]), by decide +kernel⟩,
   ⟨(ws [isl, (PWR_SUPPLY_PFW, 1), (I.HELD, 0)]), by decide +kernel⟩,
   ⟨(ws [isl, (PWR_SUPPLY_PFW, 1), (I.HELD, 0)]), by decide +kernel⟩,
   ⟨(ws [isl, (PWR_SUPPLY_PFW, 1), (I.PWR_PFLATE, 1)]), by decide +kernel⟩⟩

/-- Hypotheses of ModuleResets, clause by clause: each holds together somewhere. -/
theorem wit_ModuleResets :
    (∃ ref : CmdRef, ∃ s : State, (Permitted ref 40 s))
    ∧ (∃ s : State, (on s I.BOOTED = false) ∧ (on s I.HELD = false))
    ∧ (∃ s : State, (on s PWR_BTN_STUCK = false) ∧ (on s PWR_BTN_ARMED = true) ∧ (on s PWR_CTRL_BTN_MODE = false))
    ∧ (∃ s : State, (evcOn s) ∧ (on s PWR_BTN_STUCK = false) ∧ (on s PWR_BTN_ARMED = true) ∧ (on s PWR_CTRL_BTN_MODE = true))
    ∧ (∃ s : State, (evcOn s) ∧ (on s PWR_BTN_STUCK = false))
    ∧ (∃ s : State, (evcOn s) ∧ (on s PWR_BTN_STUCK = true)) :=
  ⟨⟨ref0, ⟨(ws (own ++ [(I.HELD, 0)])), by decide +kernel⟩⟩,
   ⟨(ws [isl, (I.HELD, 0)]), by decide +kernel⟩,
   ⟨(ws [isl, (PWR_BTN_ARMED, 1)]), by decide +kernel⟩,
   ⟨(ws [isl, (PWR_BTN_ARMED, 1), (PWR_CTRL_BTN_MODE, 1)]), by decide +kernel⟩,
   ⟨(ws [isl]), by decide +kernel⟩,
   ⟨(ws [isl, (PWR_BTN_STUCK, 1)]), by decide +kernel⟩⟩

/-- Hypotheses of OscillatorsAndStartUp, clause by clause: each holds together somewhere. -/
theorem wit_OscillatorsAndStartUp :
    (∃ s : State, (on s I.PWR_OCXOFAIL = false))
    ∧ (∃ s : State, (on s I.PWR_OCXOFAIL = true))
    ∧ (∃ s : State, (evcOn s) ∧ (on s PWR_CLKSEL_OCXO_OK = false))
    ∧ (∃ w : Sys2Proof.Writer, ∃ src : Bool, ∃ s : State, (WriteTaken w PWR_CLKSEL_SRC (b2n src) s) ∧ (on s CYC_CTRL_EN = false) ∧ (src = true → on s PWR_CLKSEL_OCXO_OK = true))
    ∧ (∃ w : Sys2Proof.Writer, ∃ s : State, (WriteTaken w PWR_CLKSEL_SRC 1 s) ∧ (on s PWR_CLKSEL_OCXO_OK = false))
    ∧ (∃ s : State, (evcOn s) ∧ (rd s I.CYC_PH = 0) ∧ (ctlState s = stSTOP) ∧ (rd s I.CYC_PENDCMD = 0))
    ∧ (∃ s : State, (mayRelease s = true))
    ∧ (∃ width : Fin 5, ∃ speed : Fin 5, ∃ s : State, (on s I.HELD = false))
    ∧ (∃ imageOk : Bool, ∃ ctlOk : Bool, ∃ s : State, (step7Ready s = true))
    ∧ (∃ mode : Fin 3, ∃ s : State, (step9Ready s = true) ∧ (on s I.UPD_WARMRUN = false)) :=
  ⟨⟨(ws [isl]), by decide +kernel⟩,
   ⟨(ws [isl, (I.PWR_OCXOFAIL, 1)]), by decide +kernel⟩,
   ⟨(ws [isl]), by decide +kernel⟩,
   ⟨.host, ⟨true, ⟨(ws (own ++ [(PWR_CLKSEL_OCXO_OK, 1)])), by decide +kernel⟩⟩⟩,
   ⟨.host, ⟨(ws own), by decide +kernel⟩⟩,
   ⟨(ws [isl]), by decide +kernel⟩,
   ⟨(ws [isl, (I.HELD, 1)]), by decide +kernel⟩,
   ⟨4, ⟨3, ⟨(ws [isl, (I.HELD, 0)]), by decide +kernel⟩⟩⟩,
   ⟨true, ⟨true, ⟨(ws [isl, (I.HELD, 0)]), by decide +kernel⟩⟩⟩,
   ⟨1, ⟨(ws [isl, (I.HELD, 0), (GRN_STATUS_READY, 1)]), by decide +kernel⟩⟩⟩

/-- Hypotheses of SheafLanes, clause by clause: each holds together somewhere. -/
theorem wit_SheafLanes :
    (∃ p : ℕ × (Opnd → Instr) × (Plane → Plane → Plane), (p ∈ [(0, Instr.ld, fun x x_1 => x_1), (1, Instr.ldn, fun x x_1 => ~~~x_1), (2, Instr.and, fun a x => a &&& x), (3, Instr.andn, fun a x => a &&& ~~~x), (4, Instr.or, fun a x => a ||| x), (5, Instr.orn, fun a x => a ||| ~~~x), (6, Instr.xor, fun a x => a ^^^ x), (7, Instr.xorn, fun a x => a ^^^ ~~~x)]) ∧ ∃ o : Opnd, ∃ s : State, (SolverAt p.1 o s) ∧ (bitReadSpaceBad s o = false) ∧ (rangeBad s o true = false))
    ∧ (∃ o : Opnd, ∃ s : State, (noOperandBad o = false) ∧ (SolverAt 8 o s))
    ∧ (∃ o : Opnd, ∃ s : State, (noOperandBad o = false) ∧ (SolverAt 9 o s))
    ∧ (∃ o : Opnd, ∃ s : State, (noOperandBad o = false) ∧ (SolverAt 12 o s))
    ∧ (∃ o : Opnd, ∃ s : State, (noOperandBad o = false) ∧ (SolverAt 13 o s))
    ∧ (∃ o : Opnd, ∃ s : State, ∃ l : ℕ, ∃ h : ℕ, (o.p = false) ∧ (rangeBad s o true = false) ∧ (lowLane (mask s) = some l) ∧ (highLane (mask s) = some h) ∧ (SolverAt 10 o s))
    ∧ (∃ o : Opnd, ∃ s : State, ∃ l : ℕ, ∃ h : ℕ, (o.p = false) ∧ (rangeBad s o true = false) ∧ (lowLane (mask s) = some l) ∧ (highLane (mask s) = some h) ∧ (SolverAt 11 o s))
    ∧ (∃ o : Opnd, ∃ s : State, (o.p = false) ∧ (rangeBad s o true = false) ∧ (mask s = 0) ∧ (SolverAt 10 o s))
    ∧ (∃ o : Opnd, ∃ s : State, (o.p = false) ∧ (rangeBad s o true = false) ∧ (mask s = 0) ∧ (SolverAt 11 o s))
    ∧ (∃ s : State, (inTemplate s = false)) :=
  ⟨⟨(0x00, Instr.ld, fun _ x => x), ⟨by simp, ⟨⟨spK, true, false, 1⟩, ⟨({ ws run0 with progPages := [0], prog := [(1023, insWord 0 ⟨spK, true, false, 1⟩)], sol := sol0 }), by decide +kernel⟩⟩⟩⟩,
   ⟨⟨0, false, false, 0⟩, ⟨({ ws run0 with progPages := [0], prog := [(1023, insWord 8 ⟨0, false, false, 0⟩)], sol := sol0 }), by decide +kernel⟩⟩,
   ⟨⟨0, false, false, 0⟩, ⟨({ ws run0 with progPages := [0], prog := [(1023, insWord 9 ⟨0, false, false, 0⟩)], sol := sol0 }), by decide +kernel⟩⟩,
   ⟨⟨0, false, false, 0⟩, ⟨({ ws run0 with progPages := [0], prog := [(1023, insWord 12 ⟨0, false, false, 0⟩)], sol := sol0 }), by decide +kernel⟩⟩,
   ⟨⟨0, false, false, 0⟩, ⟨({ ws run0 with progPages := [0], prog := [(1023, insWord 13 ⟨0, false, false, 0⟩)], sol := sol0 }), by decide +kernel⟩⟩,
   ⟨⟨spI, false, false, 255⟩, ⟨({ ws run0 with progPages := [0], prog := [(1023, insWord 10 ⟨spI, false, false, 255⟩)], sol := sol0 }), ⟨0, ⟨0, by decide +kernel⟩⟩⟩⟩,
   ⟨⟨spI, false, false, 255⟩, ⟨({ ws run0 with progPages := [0], prog := [(1023, insWord 11 ⟨spI, false, false, 255⟩)], sol := sol0 }), ⟨0, ⟨0, by decide +kernel⟩⟩⟩⟩,
   ⟨⟨spI, false, false, 255⟩, ⟨({ ws runT with progPages := [0], prog := [(1023, insWord 10 ⟨spI, false, false, 255⟩)], sol := { solT with sel := some ⟨0, 0, [(0, 2), (1, 2), (0, 2), (0, 2), (0, 2), (0, 2), (1, 2), (0, 0)]⟩ } }), by decide +kernel⟩⟩,
   ⟨⟨spI, false, false, 255⟩, ⟨({ ws runT with progPages := [0], prog := [(1023, insWord 11 ⟨spI, false, false, 255⟩)], sol := { solT with sel := some ⟨0, 0, [(0, 2), (1, 2), (0, 2), (0, 2), (0, 2), (0, 2), (1, 2), (0, 0)]⟩ } }), by decide +kernel⟩⟩,
   ⟨({ ws run0 with progPages := [0], sol := sol0 }), by decide +kernel⟩⟩

/-- Hypotheses of SheafBranchStack, clause by clause: each holds together somewhere. -/
theorem wit_SheafBranchStack :
    (∃ o : Opnd, ∃ s : State, (SolverAt 16 o s) ∧ (bitReadSpaceBad s o = false) ∧ (rangeBad s o true = false) ∧ (s.sol.stack.length < 32))
    ∧ (∃ o : Opnd, ∃ s : State, (SolverAt 20 o s) ∧ (noOperandBad o = false) ∧ (s.sol.stack.length < 32))
    ∧ (∃ p : ℕ × (Opnd → Instr) × (Plane → Plane → Plane), (p ∈ [(17, Instr.orb, fun v a => v ||| a), (18, Instr.andb, fun v a => v &&& a), (19, Instr.xorb, fun v a => v ^^^ a), (21, Instr.pop, fun v x => v)]) ∧ ∃ o : Opnd, ∃ s : State, ∃ v : Plane, ∃ l : List StackEntry, (SolverAt p.1 o s) ∧ (noOperandBad o = false) ∧ (s.sol.stack = StackEntry.b v :: l))
    ∧ (∃ o : Opnd, ∃ s : State, ∃ v : Plane, ∃ l : List StackEntry, (noOperandBad o = false) ∧ (s.sol.stack = StackEntry.b v :: l) ∧ (SolverAt 22 o s))
    ∧ (∃ o : Opnd, ∃ s : State, ∃ v : Plane, ∃ l : List StackEntry, (noOperandBad o = false) ∧ (s.sol.stack = StackEntry.b v :: l) ∧ (SolverAt 23 o s))
    ∧ (∃ o : Opnd, ∃ s : State, (32 ≤ s.sol.stack.length) ∧ (SolverAt 16 o s) ∧ (bitReadSpaceBad s o = false) ∧ (rangeBad s o true = false))
    ∧ (∃ o : Opnd, ∃ s : State, (32 ≤ s.sol.stack.length) ∧ (SolverAt 20 o s) ∧ (noOperandBad o = false))
    ∧ (∃ p : (Opnd → Instr) × ℕ, (p ∈ [(Instr.orb, 17), (Instr.andb, 18), (Instr.xorb, 19), (Instr.pop, 21), (Instr.peek, 22), (Instr.drop, 23)]) ∧ ∃ o : Opnd, ∃ s : State, (SolverAt p.2 o s) ∧ (noOperandBad o = false) ∧ (shortB s 1 = true)) :=
  ⟨⟨⟨spM, true, false, 255⟩, ⟨({ ws run0 with progPages := [0], prog := [(1023, insWord 16 ⟨spM, true, false, 255⟩)], sol := sol0 }), by decide +kernel⟩⟩,
   ⟨⟨0, false, false, 0⟩, ⟨({ ws run0 with progPages := [0], prog := [(1023, insWord 20 ⟨0, false, false, 0⟩)], sol := sol0 }), by decide +kernel⟩⟩,
   ⟨(0x11, Instr.orb, fun v a => v ||| a), ⟨by simp, ⟨⟨0, false, false, 0⟩, ⟨({ ws run0 with progPages := [0], prog := [(1023, insWord 17 ⟨0, false, false, 0⟩)], sol := sol0 }), ⟨3, ⟨[], by decide +kernel⟩⟩⟩⟩⟩⟩,
   ⟨⟨0, false, false, 0⟩, ⟨({ ws run0 with progPages := [0], prog := [(1023, insWord 22 ⟨0, false, false, 0⟩)], sol := sol0 }), ⟨3, ⟨[], by decide +kernel⟩⟩⟩⟩,
   ⟨⟨0, false, false, 0⟩, ⟨({ ws run0 with progPages := [0], prog := [(1023, insWord 23 ⟨0, false, false, 0⟩)], sol := sol0 }), ⟨3, ⟨[], by decide +kernel⟩⟩⟩⟩,
   ⟨⟨spM, true, false, 255⟩, ⟨({ ws run0 with progPages := [0], prog := [(1023, insWord 16 ⟨spM, true, false, 255⟩)], sol := { sol0 with stack := List.replicate 32 (.b 0) } }), by decide +kernel⟩⟩,
   ⟨⟨0, false, false, 0⟩, ⟨({ ws run0 with progPages := [0], prog := [(1023, insWord 20 ⟨0, false, false, 0⟩)], sol := { sol0 with stack := List.replicate 32 (.b 0) } }), by decide +kernel⟩⟩,
   ⟨(Instr.orb, 17), ⟨by simp, ⟨⟨0, false, false, 0⟩, ⟨({ ws runT with progPages := [0], prog := [(1023, insWord 17 ⟨0, false, false, 0⟩)], sol := solT }), by decide +kernel⟩⟩⟩⟩⟩

/-- Hypotheses of SheafStores, clause by clause: each holds together somewhere. -/
theorem wit_SheafStores :
    (∃ p : ℕ × (Opnd → Instr) × (Bool → Bool → Bool), (p ∈ [(24, Instr.st, fun x a => a), (25, Instr.stn, fun x a => !a), (26, Instr.set, fun d a => d || a), (27, Instr.rst, fun d a => d && !a), (28, Instr.tgl, fun d a => d != a)]) ∧ ∃ o : Opnd, ∃ s : State, (Sys2Proof.Inv s) ∧ (SolverAt p.1 o s) ∧ (o.space = spQ ∨ o.space = spM ∨ o.space = spW) ∧ (o.p = true → inTemplate s = true ∧ o.space ≠ spW) ∧ (rangeBad s o true = false))
    ∧ (∃ o : Opnd, ∃ s : State, (Sys2Proof.Inv s) ∧ (SolverAt 41 o s) ∧ (o.n = false) ∧ (o.p = false) ∧ (o.space = spW) ∧ (rangeBad s o false = false))
    ∧ (∃ p : ℕ × (Opnd → Instr) × (Word → Word → Word), (p ∈ [(41, Instr.wst, fun x w => w), (42, Instr.wadd, fun a b => sat32 (wInt a + wInt b)), (43, Instr.wsub, fun a b => sat32 (wInt a - wInt b)), (44, Instr.wmul, fun a b => sat32 (wInt a * wInt b)), (46, Instr.wand, fun a b => a &&& b), (47, Instr.wor, fun a b => a ||| b)]) ∧ ∃ o : Opnd, ∃ s : State, (Sys2Proof.Inv s) ∧ (SolverAt p.1 o s) ∧ (o.n = false) ∧ (o.p = true) ∧ (o.space = spW) ∧ (inTemplate s = true) ∧ (rangeBad s o false = false))
    ∧ (∃ o : Opnd, ∃ s : State, (Sys2Proof.Inv s) ∧ (SolverAt 41 o s) ∧ (o.n = false) ∧ (o.p = false) ∧ (rangeBad s o false = false) ∧ (o.space = spT))
    ∧ (∃ o : Opnd, ∃ s : State, (Sys2Proof.Inv s) ∧ (SolverAt 41 o s) ∧ (o.n = false) ∧ (o.p = false) ∧ (rangeBad s o false = false) ∧ (o.space = spC)) :=
  ⟨⟨(0x18, Instr.st, fun _ a => a), ⟨by simp, ⟨⟨spQ, true, false, 255⟩, ⟨({ ws run0 with progPages := [0], prog := [(1023, insWord 24 ⟨spQ, true, false, 255⟩)], sol := sol0 }), by decide +kernel⟩⟩⟩⟩,
   ⟨⟨spW, false, false, 255⟩, ⟨({ ws run0 with progPages := [0], prog := [(1023, insWord 41 ⟨spW, false, false, 255⟩)], sol := sol0 }), by decide +kernel⟩⟩,
   ⟨(0x29, Instr.wst, fun _ w => w), ⟨by simp, ⟨⟨spW, false, true, 1⟩, ⟨({ ws runT with progPages := [0], prog := [(1023, insWord 41 ⟨spW, false, true, 1⟩)], sol := solT }), by decide +kernel⟩⟩⟩⟩,
   ⟨⟨spT, false, false, 255⟩, ⟨({ ws run0 with progPages := [0], prog := [(1023, insWord 41 ⟨spT, false, false, 255⟩)], sol := sol0, mem := [(0x1020040FF0, 1), (0x1020040FFF, 9)] }), by decide +kernel⟩⟩,
   ⟨⟨spC, false, false, 255⟩, ⟨({ ws run0 with progPages := [0], prog := [(1023, insWord 41 ⟨spC, false, false, 255⟩)], sol := sol0 }), by decide +kernel⟩⟩⟩

/-- Hypotheses of SheafEdges, clause by clause: each holds together somewhere. -/
theorem wit_SheafEdges :
    (∃ p : ℕ × (Opnd → Instr) × (Bool → Bool → Bool), (p ∈ [(32, Instr.edr, fun m a => a && !m), (33, Instr.edf, fun m a => !a && m)]) ∧ ∃ o : Opnd, ∃ s : State, (Sys2Proof.Inv s) ∧ (SolverAt p.1 o s) ∧ (o.space = spE) ∧ (o.p = false) ∧ (o.index < 4096) ∧ (rangeBad s o false = false))
    ∧ (∃ p : ℕ × (Opnd → Instr) × (Bool → Bool → Bool), (p ∈ [(32, Instr.edr, fun m a => a && !m), (33, Instr.edf, fun m a => !a && m)]) ∧ ∃ o : Opnd, ∃ s : State, (Sys2Proof.Inv s) ∧ (SolverAt p.1 o s) ∧ (o.space = spE) ∧ (o.p = true) ∧ (inTemplate s = true) ∧ (absPlane s o < 64) ∧ (rangeBad s o false = false)) :=
  ⟨⟨(0x20, Instr.edr, fun m a => a && !m), ⟨by simp, ⟨⟨spE, true, false, 255⟩, ⟨({ ws run0 with progPages := [0], prog := [(1023, insWord 32 ⟨spE, true, false, 255⟩)], sol := sol0 }), by decide +kernel⟩⟩⟩⟩,
   ⟨(0x20, Instr.edr, fun m a => a && !m), ⟨by simp, ⟨⟨spE, true, true, 1⟩, ⟨({ ws runT with progPages := [0], prog := [(1023, insWord 32 ⟨spE, true, true, 1⟩)], sol := solT, mem := [(0x1020012008, 0x87), (0x102001200F, 0x80), (0x1020014008, 0x71), (0x102001400F, 0x80)] }), by decide +kernel⟩⟩⟩⟩⟩

/-- Hypotheses of SheafTimers, clause by clause: each holds together somewhere. -/
theorem wit_SheafTimers :
    ∃ p : ℕ × (Opnd → Instr) × TimerType, (p ∈ [(34, Instr.ton, TimerType.ton), (35, Instr.tof, TimerType.tof), (36, Instr.tp, TimerType.tp)]) ∧ ∃ o : Opnd, ∃ s : State, (Sys2Proof.Inv s) ∧ (SolverAt p.1 o s) ∧ (o.space = spT) ∧ (rangeBad s o false = false) ∧ (o.p = true → inTemplate s = true) :=
  ⟨(0x22, Instr.ton, TimerType.ton), ⟨by simp, ⟨⟨spT, true, false, 255⟩, ⟨({ ws run0 with progPages := [0], prog := [(1023, insWord 34 ⟨spT, true, false, 255⟩)], sol := sol0 }), by decide +kernel⟩⟩⟩⟩

/-- Hypotheses of SheafCounters, clause by clause: each holds together somewhere. -/
theorem wit_SheafCounters :
    ∃ p : ℕ × (Opnd → Instr) × CounterType, (p ∈ [(37, Instr.ctu, CounterType.ctu), (38, Instr.ctd, CounterType.ctd), (39, Instr.ctud, CounterType.ctud)]) ∧ ∃ o : Opnd, ∃ s : State, ∃ vs : List Plane, (Sys2Proof.Inv s) ∧ (SolverAt p.1 o s) ∧ (o.space = spC) ∧ (rangeBad s o false = false) ∧ (o.p = true → inTemplate s = true) ∧ (topB (counterPops p.2.2) s.sol.stack = some vs) :=
  ⟨(0x25, Instr.ctu, CounterType.ctu), ⟨by simp, ⟨⟨spC, true, false, 255⟩, ⟨({ ws run0 with progPages := [0], prog := [(1023, insWord 37 ⟨spC, true, false, 255⟩)], sol := ⟨0x5, 7, [.b 3, .b 0, .b 1, .b 2], none⟩ }), ⟨[3], by decide +kernel⟩⟩⟩⟩⟩

/-- Hypotheses of SheafWords, clause by clause: each holds together somewhere. -/
theorem wit_SheafWords :
    (∃ o : Opnd, ∃ s : State, (SolverAt 40 o s) ∧ (o.n = false) ∧ (o.p = false) ∧ (rangeBad s o false = false) ∧ (o.space ∈ [spW, spK, spT, spC]))
    ∧ (∃ p : ℕ × (Opnd → Instr) × (Word → Word → Word), (p ∈ [(42, Instr.wadd, fun a b => sat32 (wInt a + wInt b)), (43, Instr.wsub, fun a b => sat32 (wInt a - wInt b)), (44, Instr.wmul, fun a b => sat32 (wInt a * wInt b)), (46, Instr.wand, fun a b => a &&& b), (47, Instr.wor, fun a b => a ||| b), (45, Instr.wdiv, wdiv)]) ∧ ∃ o : Opnd, ∃ s : State, (SolverAt p.1 o s) ∧ (o.n = false) ∧ (o.p = false) ∧ (rangeBad s o false = false) ∧ (o.space ∈ [spW, spK]))
    ∧ (∃ o : Opnd, ∃ s : State, (SolverAt 55 o s) ∧ (o.n = false) ∧ (o.p = false) ∧ (rangeBad s o false = false) ∧ (o.space ∈ [spW, spK]))
    ∧ (∃ o : Opnd, ∃ s : State, (SolverAt 54 o s) ∧ (o.n = false) ∧ (o.p = false) ∧ (o.space = spW) ∧ (o.index + 1 < scalarLimit s spW false)) :=
  ⟨⟨⟨spW, false, false, 255⟩, ⟨({ ws run0 with progPages := [0], prog := [(1023, insWord 40 ⟨spW, false, false, 255⟩)], sol := sol0 }), ⟨by decide +kernel, ⟨by decide +kernel, ⟨by decide +kernel, ⟨by decide +kernel, by simp⟩⟩⟩⟩⟩⟩,
   ⟨(0x2A, Instr.wadd, fun a b => sat32 (wInt a + wInt b)), ⟨by simp, ⟨⟨spW, false, false, 255⟩, ⟨({ ws run0 with progPages := [0], prog := [(1023, insWord 42 ⟨spW, false, false, 255⟩)], sol := sol0 }), ⟨by decide +kernel, ⟨by decide +kernel, ⟨by decide +kernel, ⟨by decide +kernel, by simp⟩⟩⟩⟩⟩⟩⟩⟩,
   ⟨⟨spK, false, false, 9⟩, ⟨({ ws run0 with progPages := [0], prog := [(1023, insWord 55 ⟨spK, false, false, 9⟩)], sol := sol0 }), ⟨by decide +kernel, ⟨by decide +kernel, ⟨by decide +kernel, ⟨by decide +kernel, by simp⟩⟩⟩⟩⟩⟩,
   ⟨⟨spW, false, false, 254⟩, ⟨({ ws run0 with progPages := [0], prog := [(1023, insWord 54 ⟨spW, false, false, 254⟩)], sol := sol0 }), by decide +kernel⟩⟩⟩

/-- Hypotheses of SheafComparisons, clause by clause: each holds together somewhere. -/
theorem wit_SheafComparisons :
    (∃ p : ℕ × (Opnd → Instr) × (ℤ → ℤ → Bool), (p ∈ [(48, Instr.weq, fun a b => a == b), (49, Instr.wne, fun a b => a != b), (50, Instr.wlt, fun a b => decide (a < b)), (51, Instr.wle, fun a b => decide (a ≤ b)), (52, Instr.wgt, fun a b => decide (a > b)), (53, Instr.wge, fun a b => decide (a ≥ b))]) ∧ ∃ o : Opnd, ∃ s : State, (SolverAt p.1 o s) ∧ (o.n = false) ∧ (o.space ∈ [spW, spK]) ∧ (o.p = true → o.space = spW ∧ inTemplate s = true) ∧ (rangeBad s o false = false))
    ∧ (∃ a : Word, ∃ b : Word, (b ≠ 0) ∧ (¬(a = 2147483648 ∧ b = 4294967295))) :=
  ⟨⟨(0x30, Instr.weq, fun a b => a == b), ⟨by simp, ⟨⟨spK, false, false, 7⟩, ⟨({ ws run0 with progPages := [0], prog := [(1023, insWord 48 ⟨spK, false, false, 7⟩)], sol := sol0 }), by decide +kernel⟩⟩⟩⟩,
   ⟨0x80000000, ⟨3, by decide +kernel⟩⟩⟩

/-- Hypotheses of SheafControl, clause by clause: each holds together somewhere. -/
theorem wit_SheafControl :
    (∃ o : Opnd, ∃ s : State, (SolverAt 56 o s) ∧ (o.n = false) ∧ (o.space = spK) ∧ (o.p = false) ∧ (inTemplate s = false) ∧ (o.index ≤ 511) ∧ (tplValid s o.index = true))
    ∧ (∃ o : Opnd, ∃ s : State, (SolverAt 57 o s) ∧ (targetBad o false = false) ∧ (inTemplate s = false) ∧ (s.sol.sel.isSome = true) ∧ (inProgram s o.index = true) ∧ (s.sol.stack.length < 32))
    ∧ (∃ o : Opnd, ∃ s : State, (SolverAt 58 o s) ∧ (targetBad o true = false) ∧ (inProgram s o.index = true))
    ∧ (∃ o : Opnd, ∃ s : State, (SolverAt 59 o s) ∧ (targetBad o false = false) ∧ (inProgram s o.index = true))
    ∧ (∃ o : Opnd, ∃ s : State, (SolverAt 60 o s) ∧ (targetBad o false = false) ∧ (inProgram s o.index = true) ∧ (s.sol.stack.length < 32))
    ∧ (∃ o : Opnd, ∃ s : State, ∃ r : ℕ, ∃ b : Bool, ∃ l : List StackEntry, (SolverAt 61 o s) ∧ (noOperandBad o = false) ∧ (s.sol.stack = StackEntry.r r b :: l))
    ∧ (∃ o : Opnd, ∃ s : State, (SolverAt 62 o s) ∧ (o.n = false) ∧ (o.space = spK) ∧ (o.p = false))
    ∧ (∃ o : Opnd, ∃ s : State, (SolverAt 63 o s) ∧ (noOperandBad o = false) ∧ (inTemplate s = false) ∧ (s.sol.stack = []))
    ∧ (∃ o : Opnd, ∃ s : State, (SolverAt 63 o s) ∧ (noOperandBad o = false) ∧ (inTemplate s = true ∨ s.sol.stack ≠ [])) :=
  ⟨⟨⟨spK, false, false, 511⟩, ⟨({ ws (run0 ++ [(CYC_CHG_BANK, 0)]) with progPages := [0], prog := [(1023, insWord 56 ⟨spK, false, false, 511⟩)], sol := sol0, mem := [(0x10200A7FC7, 0x84)] }), by decide +kernel⟩⟩,
   ⟨⟨0, false, false, 1023⟩, ⟨({ ws run0 with progPages := [0], prog := [(1023, insWord 57 ⟨0, false, false, 1023⟩)], sol := { solT with stack := [] } }), by decide +kernel⟩⟩,
   ⟨⟨0, false, false, 1023⟩, ⟨({ ws run0 with progPages := [0], prog := [(1023, insWord 58 ⟨0, false, false, 1023⟩)], sol := sol0 }), by decide +kernel⟩⟩,
   ⟨⟨0, false, false, 1023⟩, ⟨({ ws run0 with progPages := [0], prog := [(1023, insWord 59 ⟨0, false, false, 1023⟩)], sol := sol0 }), by decide +kernel⟩⟩,
   ⟨⟨0, false, false, 1023⟩, ⟨({ ws run0 with progPages := [0], prog := [(1023, insWord 60 ⟨0, false, false, 1023⟩)], sol := sol0 }), by decide +kernel⟩⟩,
   ⟨⟨0, false, false, 0⟩, ⟨({ ws runT with progPages := [0], prog := [(1023, insWord 61 ⟨0, false, false, 0⟩)], sol := solT }), ⟨4, ⟨true, ⟨[], by decide +kernel⟩⟩⟩⟩⟩,
   ⟨⟨spK, false, false, 0x1FFFFF⟩, ⟨({ ws run0 with progPages := [0], prog := [(1023, insWord 62 ⟨spK, false, false, 0x1FFFFF⟩)], sol := sol0 }), by decide +kernel⟩⟩,
   ⟨⟨0, false, false, 0⟩, ⟨({ ws run0 with progPages := [0], prog := [(1023, insWord 63 ⟨0, false, false, 0⟩)], sol := { sol0 with stack := [] } }), by decide +kernel⟩⟩,
   ⟨⟨0, false, false, 0⟩, ⟨({ ws runT with progPages := [0], prog := [(1023, insWord 63 ⟨0, false, false, 0⟩)], sol := solT }), by decide +kernel⟩⟩⟩

/-- Hypotheses of SheafFaults, clause by clause: each holds together somewhere. -/
theorem wit_SheafFaults :
    (∃ op : ℕ, ∃ o : Opnd, ∃ s : State, (evcOn s) ∧ (SolverAt op o s) ∧ (op ∈ reservedOpcodes))
    ∧ (∃ o : Opnd, ∃ s : State, (evcOn s) ∧ (SolverAt 8 o s) ∧ (noOperandBad o = true))
    ∧ (∃ o : Opnd, ∃ s : State, (evcOn s) ∧ (SolverAt 0 o s) ∧ (bitReadSpaceBad s o = false) ∧ (rangeBad s o true = true))
    ∧ (∃ o : Opnd, ∃ s : State, (evcOn s) ∧ (SolverAt 57 o s) ∧ (targetBad o false = false) ∧ (inTemplate s = true ∨ s.sol.sel = none))
    ∧ (∃ o : Opnd, ∃ s : State, (evcOn s) ∧ (SolverAt 61 o s) ∧ (noOperandBad o = false) ∧ (topR s = none))
    ∧ (∃ s : State, (evcOn s) ∧ (on s LSV_STATUS_RUNNING = true) ∧ (s.stalled = []) ∧ (fetchOk s = false))
    ∧ (∃ o : Opnd, ∃ s : State, (evcOn s) ∧ (SolverAt 20 o s) ∧ (full s = true) ∧ (noOperandBad o = false))
    ∧ (∃ o : Opnd, ∃ s : State, (evcOn s) ∧ (SolverAt 21 o s) ∧ (shortB s 1 = true) ∧ (noOperandBad o = false))
    ∧ (∃ o : Opnd, ∃ s : State, (evcOn s) ∧ (SolverAt 0 o s) ∧ (bitReadSpaceBad s o = true))
    ∧ (∃ c : Opnd → Instr, (c ∈ ([.ld, .ldn, .and, .andn, .or, .orn, .xor, .xorn, .not, .ldim, .shu, .shd, .any, .all, .open_, .orb, .andb, .xorb, .dup, .pop,
      .peek, .drop, .st, .stn, .set, .rst, .tgl, .edr, .edf, .ton, .tof, .tp, .ctu, .ctd, .ctud, .wld, .wst, .wadd, .wsub, .wmul,
      .wdiv, .wand, .wor, .weq, .wne, .wlt, .wle, .wgt, .wge, .wlim, .wsel, .tsel, .trun, .jmpc, .jmp, .call, .ret, .mark, .end_] :
      List (Opnd → Instr))) ∧ (∃ o : Opnd, ∃ s : State, on s LSV_STATUS_RUNNING = false)) :=
  ⟨⟨31, ⟨⟨7, true, true, 0x1FFFFF⟩, ⟨({ ws run0 with progPages := [0], prog := [(1023, insWord 31 ⟨7, true, true, 0x1FFFFF⟩)], sol := sol0 }), ⟨by decide +kernel, ⟨by decide +kernel, by decide +kernel⟩⟩⟩⟩⟩,
   ⟨⟨0, true, false, 0⟩, ⟨({ ws run0 with progPages := [0], prog := [(1023, insWord 8 ⟨0, true, false, 0⟩)], sol := sol0 }), by decide +kernel⟩⟩,
   ⟨⟨spI, false, false, 256⟩, ⟨({ ws run0 with progPages := [0], prog := [(1023, insWord 0 ⟨spI, false, false, 256⟩)], sol := sol0 }), by decide +kernel⟩⟩,
   ⟨⟨0, false, false, 0⟩, ⟨({ ws run0 with progPages := [0], prog := [(1023, insWord 57 ⟨0, false, false, 0⟩)], sol := sol0 }), by decide +kernel⟩⟩,
   ⟨⟨0, false, false, 0⟩, ⟨({ ws run0 with progPages := [0], prog := [(1023, insWord 61 ⟨0, false, false, 0⟩)], sol := sol0 }), by decide +kernel⟩⟩,
   ⟨(ws (run0 ++ [(LSV_STATUS_PC, 1024)])), by decide +kernel⟩,
   ⟨⟨0, false, false, 0⟩, ⟨({ ws run0 with progPages := [0], prog := [(1023, insWord 20 ⟨0, false, false, 0⟩)], sol := { sol0 with stack := List.replicate 32 (.b 0) } }), by decide +kernel⟩⟩,
   ⟨⟨0, false, false, 0⟩, ⟨({ ws run0 with progPages := [0], prog := [(1023, insWord 21 ⟨0, false, false, 0⟩)], sol := { sol0 with stack := [] } }), by decide +kernel⟩⟩,
   ⟨⟨spI, false, true, 0⟩, ⟨({ ws run0 with progPages := [0], prog := [(1023, insWord 0 ⟨spI, false, true, 0⟩)], sol := sol0 }), by decide +kernel⟩⟩,
   ⟨Instr.ld, by simp, ⟨7, true, true, 9⟩, ws [(LSV_STATUS_RUNNING, 0)], by decide +kernel⟩⟩

/-- Hypotheses of PowerStatesAndIslands, clause by clause: each holds together somewhere. -/
theorem wit_PowerStatesAndIslands :
    (∃ ref : CmdRef, ∃ target : Fin 8, ∃ s : State, (Permitted ref 39 s) ∧ (pwCheck s ↑ref.session ↑target = cOK) ∧ (on s PWR_STATE_TRANS = false) ∧ (pwState s ≠ ↑target) ∧ (pwState s ≠ pwFALLOW) ∧ (↑target < pwDROWSE))
    ∧ (∃ ref : CmdRef, ∃ target : Fin 8, ∃ s : State, (Permitted ref 39 s) ∧ (pwCheck s ↑ref.session ↑target ≠ cOK))
    ∧ (∃ s : State, (on s PWR_STATE_TRANS = true) ∧ (rd s PWR_STATE_TARGET = pwIDLE) ∧ (pwState s = pwRUN) ∧ (on s I.HELD = false) ∧ (on s PWR_PENDING_VALID = false))
    ∧ (∃ s : State, (pwState s = pwDROWSE) ∧ (on s PWR_STATE_TRANS = false) ∧ (on s PWR_SUPPLY_PFW = false) ∧ ∃ k : Fin 3, ∃ late : Bool, (bit (rd s PWR_WAKEEN_SRC) (wakeBit k) = true))
    ∧ (∃ s : State, (pwState s = pwDROWSE) ∧ (on s PWR_STATE_TRANS = false) ∧ (on s PWR_SUPPLY_PFW = false) ∧ ∃ k : Fin 3, ∃ late : Bool, (bit (rd s PWR_WAKEEN_SRC) (wakeBit k) = false))
    ∧ (∃ s : State, (pwState s = pwDROWSE) ∧ (on s PWR_STATE_TRANS = false) ∧ (on s PWR_SUPPLY_PFW = false) ∧ (bit (rd s PWR_WAKEEN_SRC) 0 = true) ∧ (rd s PWR_WAKETIME ≠ 0))
    ∧ (∃ s : State, (pwState s = pwDROWSE) ∧ (on s PWR_STATE_TRANS = false) ∧ (on s PWR_SUPPLY_PFW = false) ∧ ∃ dst : BitVec 48, ∃ ether : BitVec 16, ∃ payload : List Byte, ∃ late : Bool, (bit (rd s PWR_WAKEEN_SRC) 2 = true) ∧ (isWakeFrame s dst.toNat ether.toNat payload = true))
    ∧ (∃ w : Sys2Proof.Writer, ∃ n : Fin 21, ∃ s : State, (WriteTaken w PWR_ISLEN (setBits (rd s PWR_ISLEN) (↑n) 1 1) s) ∧ (switchable (↑n + 1) = true) ∧ (bit (rd s PWR_ISLBUSY_BUSY_OFF) ↑n = false))
    ∧ (∃ w : Sys2Proof.Writer, ∃ n : Fin 21, ∃ s : State, (WriteTaken w PWR_ISLEN (setBits (rd s PWR_ISLEN) (↑n) 1 1) s) ∧ (switchable (↑n + 1) = true) ∧ (bit (rd s PWR_ISLBUSY_BUSY_OFF) ↑n = true))
    ∧ (∃ w : Sys2Proof.Writer, ∃ n : Fin 21, ∃ s : State, (WriteTaken w PWR_ISLEN (setBits (rd s PWR_ISLEN) (↑n) 1 0) s) ∧ (switchable (↑n + 1) = true) ∧ (bit (rd s PWR_ISLSTAT) ↑n = true) ∧ (bit (rd s PWR_ISLBUSY_BUSY_OFF) ↑n = false))
    ∧ (∃ n : Fin 21, ∃ s : State, (bit (rd s PWR_ISLBUSY_BUSY_OFF) ↑n = true))
    ∧ (∃ s : State, (on s DMA_CTRL_BUSY_OFF = true) ∧ (on s DMA_CTRL_ENPEND = false))
    ∧ (∃ n : Fin 16, ∃ s : State, (on s (DMA_CH_CTRL_BUSY_OFF ↑n) = true) ∧ (dcState s ↑n ≠ dcOFF))
    ∧ (∃ n : Fin 16, ∃ s : State, (on s (DMA_CH_CTRL_BUSY_OFF ↑n) = true) ∧ (dcState s ↑n = dcOFF) ∧ (on s (DMA_CH_CTRL_ENPEND ↑n) = false)) :=
  ⟨⟨ref0, ⟨1, ⟨(ws (own ++ [(I.BOOTED,1),(PWR_STATE, 0),(PWR_STATE_TRANS,0)])), by decide +kernel⟩⟩⟩,
   ⟨ref0, ⟨7, ⟨(ws own), by decide +kernel⟩⟩⟩,
   ⟨(ws [isl, (PWR_STATE_TRANS, 1), (PWR_STATE_TARGET, 1), (I.HELD, 0), (PWR_PENDING_VALID, 0), (PWR_STATE, 0)]), by decide +kernel⟩,
   ⟨(ws [(PWR_STATE, 2), (PWR_WAKEEN_SRC, 0xFF), (PWR_STATE_TRANS,0), (PWR_SUPPLY_PFW, 0)]), ⟨by decide +kernel, ⟨by decide +kernel, ⟨by decide +kernel, ⟨2, ⟨true, by decide +kernel⟩⟩⟩⟩⟩⟩,
   ⟨(ws [(PWR_STATE, 2), (PWR_WAKEEN_SRC, 0), (PWR_STATE_TRANS,0), (PWR_SUPPLY_PFW, 0)]), ⟨by decide +kernel, ⟨by decide +kernel, ⟨by decide +kernel, ⟨1, ⟨true, by decide +kernel⟩⟩⟩⟩⟩⟩,
   ⟨(ws [(PWR_STATE, 2), (PWR_WAKEEN_SRC, 1), (PWR_WAKETIME, 9), (PWR_STATE_TRANS,0), (PWR_SUPPLY_PFW, 0)]), by decide +kernel⟩,
   ⟨(ws [(PWR_STATE, 2), (PWR_WAKEEN_SRC, 4), (PWR_STATE_TRANS,0), (PWR_SUPPLY_PFW, 0)]), ⟨by decide +kernel, ⟨by decide +kernel, ⟨by decide +kernel, ⟨0xFFFFFFFFFFFF, ⟨0x88B6, ⟨(List.replicate 6 0xFF ++ List.replicate 10 0), ⟨false, by decide +kernel⟩⟩⟩⟩⟩⟩⟩⟩,
   ⟨.host, ⟨9, ⟨(ws own), by decide +kernel⟩⟩⟩,
   ⟨.host, ⟨9, ⟨(ws (own ++ [(PWR_ISLEN, 0x100000), (PWR_ISLBUSY_BUSY_OFF, 0x200)])), by decide +kernel⟩⟩⟩,
   ⟨.host, ⟨9, ⟨(ws (own ++ [(PWR_ISLEN, 0x1FFFFF)])), by decide +kernel⟩⟩⟩,
   ⟨20, ⟨(ws [isl, (PWR_ISLBUSY_BUSY_OFF, 0x1FFFFF)]), by decide +kernel⟩⟩,
   ⟨(ws [(DMA_CTRL_BUSY_OFF, 1), (DMA_CTRL_ENPEND, 0)]), by decide +kernel⟩,
   ⟨15, ⟨(ws [(DMA_CH_CTRL_BUSY_OFF 15, 1), (DMA_CH_CTRL_STATE 15, 2)]), by decide +kernel⟩⟩,
   ⟨15, ⟨(ws [(DMA_CH_CTRL_BUSY_OFF 15, 1), (DMA_CH_CTRL_ENPEND 15, 0), (DMA_CH_CTRL_STATE 15, 0)]), by decide +kernel⟩⟩⟩

/-- Hypotheses of HostRings, clause by clause: each holds together somewhere. -/
theorem wit_HostRings :
    (∃ w : Sys2Proof.Writer, ∃ r : Fin 16, ∃ s : State, (WriteTaken w (HBR_RP_CFG_EN ↑r) 1 s) ∧ (on s (HBR_RP_CFG_EN ↑r) = false) ∧ (2 ≤ rd s (HBR_RP_CFG_CMDENT ↑r)) ∧ (2 ≤ rd s (HBR_RP_CFG_CPLENT ↑r)))
    ∧ (∃ w : Sys2Proof.Writer, ∃ r : Fin 16, ∃ slotsFree : ℕ, ∃ s : State, (WriteTaken w (HBR_RP_CFG_EN ↑r) 0 s) ∧ (on s (HBR_RP_CFG_EN ↑r) = true))
    ∧ (∃ ring : Fin 16, ∃ c : Completion, ∃ s : State, (cplOf s 0 ↑ring = some c) ∧ (obLink s = true) ∧ (on s (HBR_RP_CFG_EN ↑ring) = true) ∧ (rd s (HBR_RP_STAT_ERR ↑ring) = 0))
    ∧ (∃ ring : Fin 16, ∃ c : Completion, ∃ s : State, (cplOf s 0 ↑ring = some c) ∧ (obLink s = true) ∧ (on s (HBR_RP_CFG_EN ↑ring) = true) ∧ (rd s (HBR_RP_STAT_ERR ↑ring) = 0) ∧ (on s (I.HBR_STALLED ↑ring) = true))
    ∧ (∃ sess : Fin 8, ∃ ring : Fin 16, ∃ c : Completion, ∃ a : Bool, ∃ b : Bool, ∃ s : State, (sess ≠ 0) ∧ (cplOf s sess ↑ring = some c))
    ∧ (∃ ring : Fin 16, ∃ s : State, (on s (I.HBR_VPEND ↑ring) = true) ∧ (rd s (I.HBR_VLAST ↑ring) + 1000 * rd s (HBR_RP_MOD_ITIME ↑ring) ≤ upNow s + 1) ∧ (obLink s = true) ∧ (msixMasked s (rd s (HBR_RP_CFG_VEC ↑ring) % 64) = false)) :=
  ⟨⟨.host, ⟨15, ⟨(ws (own ++ [(HBR_RP_CFG_CMDENT 15, 2), (HBR_RP_CFG_CPLENT 15, 2), (HBR_RP_CFG_EN 15, 0)])), by decide +kernel⟩⟩⟩,
   ⟨.host, ⟨15, ⟨3, ⟨(ws (own ++ [(HBR_RP_CFG_EN 15, 1)])), by decide +kernel⟩⟩⟩⟩,
   ⟨0, ⟨cpl0, ⟨({ ws [isl, (HBR_LINK_BME, 1), (HBR_LINK_LINKUP, 1), (HBR_RP_CFG_EN 0, 1), (HBR_RP_STAT_ERR 0, 0)] with cpls := [cpl0] }), by decide +kernel⟩⟩⟩,
   ⟨0, ⟨cpl0, ⟨({ ws [isl, (HBR_LINK_BME, 1), (HBR_LINK_LINKUP, 1), (HBR_RP_CFG_EN 0, 1), (HBR_RP_STAT_ERR 0, 0), (I.HBR_STALLED 0, 1)] with cpls := [cpl0] }), by decide +kernel⟩⟩⟩,
   ⟨7, ⟨0, ⟨cpl7, ⟨true, ⟨true, ⟨({ ws [isl] with cpls := [cpl7] }), by decide +kernel⟩⟩⟩⟩⟩⟩,
   ⟨15, ⟨(ws [isl, (I.HBR_VPEND 15, 1), (HBR_LINK_BME, 1), (HBR_LINK_LINKUP, 1), (I.HBR_MSIXEN, 1), (I.HBR_MSIXMASK 0, 0)]), by decide +kernel⟩⟩⟩

/-- Hypotheses of SessionCommands, clause by clause: each holds together somewhere. -/
theorem wit_SessionCommands :
    (∃ ref : CmdRef, ∃ s : State, (Permitted ref 1 s))
    ∧ (∃ ref : CmdRef, ∃ s : State, (Permitted ref 10 s))
    ∧ (∃ ref : CmdRef, ∃ buf : Option (List Byte), ∃ mask : List Byte, ∃ s : State, (Permitted ref 18 s) ∧ (ref.session ≠ 0) ∧ (cmdBytes (markPassed ref s) ref buf = some mask) ∧ (64 ≤ mask.length))
    ∧ (∃ ref : CmdRef, ∃ s : State, (Permitted ref 9 s) ∧ (ref.session ≠ 0 → earlierOpen s ref = false))
    ∧ (∃ ref : CmdRef, ∃ buf : Option (List Byte), ∃ s : State, (Permitted ref 2 s) ∧ (ref.session = 0) ∧ (on s I.HBR_LOCKOUT = true) ∧ (evcOn s))
    ∧ (∃ ref : CmdRef, ∃ s : State, (Permitted ref 3 s) ∧ (ref.session = 0) ∧ (evcOn s))
    ∧ (∃ s : State, (rd s I.HBR_LOCKEND ≤ upNow s))
    ∧ (∃ ref : CmdRef, ∃ buf : List Byte, ∃ pass : List Byte, ∃ hd : List Byte, ∃ e : Credential, ∃ s : State, (Permitted ref 2 s) ∧ (ref.session = 0) ∧ (on s I.HBR_LOCKOUT = false) ∧ (on s HBR_LINK_BME = true) ∧ (hd.length = 3) ∧ ((hd.getD 2 0).toNat = pass.length) ∧ (8 ≤ pass.length) ∧ (pass.length ≤ 64) ∧ (buf = hd ++ pass) ∧ (loginEntry s (leBytes (hd.take 2)) pass = some e)) :=
  ⟨⟨ref0, ⟨(ws own), by decide +kernel⟩⟩,
   ⟨ref0, ⟨(ws own), by decide +kernel⟩⟩,
   ⟨⟨7, 3, 9, false⟩, ⟨(some (List.replicate 64 0xFF)), ⟨(List.replicate 64 0xFF), ⟨(ws [isl, (HBR_SESS_OPEN 7, 1), (HBR_SESS_ROLE 7, 1)]), by decide +kernel⟩⟩⟩⟩,
   ⟨ref0, ⟨(ws (own ++ [(HBR_FENCE_FAIL, 1)])), by decide +kernel⟩⟩,
   ⟨ref0, ⟨none, ⟨(ws (own ++ [(I.HBR_LOCKOUT, 1)])), by decide +kernel⟩⟩⟩,
   ⟨ref0, ⟨(ws own), by decide +kernel⟩⟩,
   ⟨(ws [isl, (I.HBR_LOCKOUT, 1)]), by decide +kernel⟩,
   ⟨ref0, ⟨[5, 0, 8, 1, 2, 3, 4, 5, 6, 7, 8], ⟨[1, 2, 3, 4, 5, 6, 7, 8], ⟨[5, 0, 8], ⟨cred5, ⟨credState, by decide +kernel, by decide +kernel, by decide +kernel, by decide +kernel, by decide +kernel, by decide +kernel, by decide +kernel, by decide +kernel, by decide +kernel, by simp [loginEntry, credState, cred5, leBytes]⟩⟩⟩⟩⟩⟩⟩

/-- Hypotheses of Ownership, clause by clause: each holds together somewhere. -/
theorem wit_Ownership :
    (∃ ref : CmdRef, ∃ waits : Bool, ∃ s : State, (Permitted ref 4 s) ∧ (on s (HBR_SESS_READONLY ↑ref.session) = false) ∧ (ownerNone s = true) ∧ (evcOn s))
    ∧ (∃ ref : CmdRef, ∃ s : State, (Permitted ref 4 s) ∧ (on s (HBR_SESS_READONLY ↑ref.session) = false) ∧ (on s HBR_OWNER_VALID = true) ∧ (isOwner s ↑ref.session = false) ∧ (on s HBR_OWNER_ORPHAN = false))
    ∧ (∃ ref : CmdRef, ∃ s : State, (Permitted ref 5 s) ∧ (s.claims = []))
    ∧ (∃ ref : CmdRef, ∃ target : Fin 8, ∃ s : State, (Permitted ref 6 s) ∧ (on s (HBR_SESS_OPEN ↑target) = true) ∧ (on s (HBR_SESS_READONLY ↑target) = false) ∧ (target ≠ ref.session))
    ∧ (∃ ref : CmdRef, ∃ s : State, (Permitted ref 7 s) ∧ (on s (HBR_SESS_READONLY ↑ref.session) = false) ∧ (on s HBR_OFFER_VALID = true) ∧ (rd s HBR_OFFER_TO = ↑ref.session))
    ∧ (∃ ref : CmdRef, ∃ s : State, (Permitted ref 8 s) ∧ (on s (HBR_SESS_READONLY ↑ref.session) = false) ∧ (rd s HBR_OWNER_ROLE ≤ sessRole s ↑ref.session) ∧ (isOwner s ↑ref.session = false) ∧ (evcOn s))
    ∧ (∃ n : ℕ, ∃ t0 : ℕ, ∃ l : List (ℕ × ℕ), ∃ s : State, (s.notices = (n, t0) :: l) ∧ (t0 + 1000000 ≤ upNow s) ∧ (n ≠ 0))
    ∧ (∃ n : ℕ, ∃ t0 : ℕ, ∃ l : List (ℕ × ℕ), ∃ s : State, (s.notices = (n, t0) :: l) ∧ (t0 + 1000000 ≤ upNow s) ∧ (n = 0) ∧ (obLink s = true) ∧ (msixMasked s (rd s (EVC_ROUTE_VEC 323) % 64) = false))
    ∧ (∃ s : State, (on s HBR_OFFER_VALID = true) ∧ (rd s I.HBR_OFFEREND ≤ upNow s))
    ∧ (∃ s : State, (on s HBR_OWNER_ORPHAN = true) ∧ (rd s I.HBR_HOLDEND ≤ upNow s) ∧ (s.claims = [])) :=
  ⟨⟨ref0, ⟨false, ⟨(ws [isl, (HBR_SESS_OPEN 0, 1), (HBR_SESS_ROLE 0, 1), (HBR_SESS_READONLY 0, 0), (HBR_OWNER_VALID, 0), (HBR_OWNER_ORPHAN, 0)]), by decide +kernel⟩⟩⟩,
   ⟨⟨7, 0, 1, false⟩, ⟨(ws (own ++ [(HBR_SESS_OPEN 7, 1), (HBR_SESS_ROLE 7, 2), (HBR_SESS_READONLY 7, 0), (HBR_OWNER_ORPHAN, 0)])), by decide +kernel⟩⟩,
   ⟨ref0, ⟨(ws own), by decide +kernel⟩⟩,
   ⟨ref0, ⟨7, ⟨(ws (own ++ [(HBR_SESS_OPEN 7, 1), (HBR_SESS_READONLY 7, 0)])), by decide +kernel⟩⟩⟩,
   ⟨⟨7, 0, 1, false⟩, ⟨({ ws (own ++ [(HBR_SESS_OPEN 7, 1), (HBR_SESS_ROLE 7, 1), (HBR_OFFER_VALID, 1), (HBR_OFFER_TO, 7)]) with waiting := [(6, ref0)] }), by decide +kernel⟩⟩,
   ⟨⟨7, 0, 1, false⟩, ⟨(ws (own ++ [(HBR_SESS_OPEN 7, 1), (HBR_SESS_ROLE 7, 3), (HBR_SESS_READONLY 7, 0), (HBR_OWNER_ROLE, 3)])), by decide +kernel⟩⟩,
   ⟨7, ⟨0, ⟨[(3, 9)], ⟨({ ws [(TIM_SEC, 1)] with notices := [(7, 0), (3, 9)] }), by decide +kernel⟩⟩⟩⟩,
   ⟨0, ⟨0, ⟨[], ⟨({ ws [isl, (TIM_SEC, 1), (HBR_LINK_BME, 1), (HBR_LINK_LINKUP, 1), (I.HBR_MSIXEN, 1), (I.HBR_MSIXMASK 0, 0), (EVC_ROUTE_VEC 323, 0)] with notices := [(0, 0)] }), by decide +kernel⟩⟩⟩⟩,
   ⟨({ ws [isl, (HBR_OFFER_VALID, 1)] with waiting := [(6, ref0)] }), by decide +kernel⟩,
   ⟨(ws [isl, (HBR_OWNER_ORPHAN, 1)]), by decide +kernel⟩⟩

/-- Hypotheses of RemoteSessions, clause by clause: each holds together somewhere. -/
theorem wit_RemoteSessions :
    (∃ h : TlsHello, ∃ anchor : List ℕ, ∃ fp : ℕ, ∃ s : State, (tlsAnswers h s = true) ∧ (evcOn s) ∧ ∃ n : ℕ, ∃ e : Credential, (freeSession s = some n) ∧ (certEntry s fp = some e) ∧ (handshakeOk h = true) ∧ (anchor ∈ s.creds.anchors) ∧ (on s I.ROM = false))
    ∧ (∃ h : TlsHello, ∃ anchor : List ℕ, ∃ fp : ℕ, ∃ s : State, (tlsAnswers h s = true) ∧ (evcOn s) ∧ (freeSession s = none ∨ certEntry s fp = none ∨ handshakeOk h = false ∨ anchor ∉ s.creds.anchors ∨ on s I.ROM = true))
    ∧ (∃ sess : Fin 8, ∃ s : State, (sess ≠ 0) ∧ (on s (HBR_SESS_OPEN ↑sess) = true))
    ∧ (∃ sess : Fin 8, ∃ s : State, (sess ≠ 0) ∧ (on s (HBR_SESS_OPEN ↑sess) = true) ∧ (rd s (I.HBR_LASTRX ↑sess) + 10 * nsPerS ≤ upNow s))
    ∧ (∃ sess : Fin 8, ∃ s : State, (sess ≠ 0) ∧ (on s (HBR_SESS_OPEN ↑sess) = true) ∧ (rd s (I.HBR_LASTTX ↑sess) + 2 * nsPerS ≤ upNow s))
    ∧ (∃ sess : Fin 8, ∃ s : State, (sess ≠ 0) ∧ (on s (HBR_SESS_OPEN ↑sess) = true) ∧ ∃ n : Byte, (rd s (HBR_SESS_RINGS ↑sess) = 0) ∧ (1 ≤ BitVec.toNat n) ∧ (BitVec.toNat n ≤ 16))
    ∧ (∃ sess : Fin 8, ∃ s : State, (sess ≠ 0) ∧ (on s (HBR_SESS_OPEN ↑sess) = true) ∧ (rd s (HBR_SESS_RINGS ↑sess) ≠ 0))
    ∧ (∃ sess : Fin 8, ∃ s : State, (sess ≠ 0) ∧ (on s (HBR_SESS_OPEN ↑sess) = true) ∧ ∃ ring : Byte, ∃ u : CmdUnit, (unitOk u = true) ∧ (BitVec.toNat ring < rd s (HBR_SESS_RINGS ↑sess)) ∧ (inflight s (↑sess) (BitVec.toNat ring) < 64) ∧ (opDefined (descOf u.words).opcode = true) ∧ (∀ c ∈ s.cmds, opDefined c.desc.opcode = true))
    ∧ (∃ sess : Fin 8, ∃ s : State, (sess ≠ 0) ∧ (on s (HBR_SESS_OPEN ↑sess) = true) ∧ ∃ ring : Byte, ∃ u : CmdUnit, (unitOk u = true) ∧ (BitVec.toNat ring < rd s (HBR_SESS_RINGS ↑sess)) ∧ (s.cmds = []) ∧ (s.cpls = []) ∧ (opDefined (descOf u.words).opcode = false))
    ∧ (∃ sess : Fin 8, ∃ s : State, (sess ≠ 0) ∧ (on s (HBR_SESS_OPEN ↑sess) = true) ∧ ∃ ring : Byte, ∃ ty : Byte, ∃ u : CmdUnit, (ty ≠ 1 ∨ rd s (HBR_SESS_RINGS ↑sess) = 0 ∨ unitOk u = false)) :=
  ⟨⟨hello, ⟨[0], ⟨5, ⟨({ ws [isl] with creds := ⟨[⟨9, 2, false, 1, [], 5⟩], [[0]], 1⟩ }), ⟨by decide +kernel, ⟨by decide +kernel, ⟨1, ⟨⟨9, 2, false, 1, [], 5⟩, by decide +kernel⟩⟩⟩⟩⟩⟩⟩⟩,
   ⟨hello, ⟨[0], ⟨5, ⟨(ws [isl]), by decide +kernel⟩⟩⟩⟩,
   ⟨7, ⟨(ws [isl, (HBR_SESS_OPEN 7, 1)]), by decide +kernel⟩⟩,
   ⟨7, ⟨(ws [isl, (HBR_SESS_OPEN 7, 1), (I.HBR_LASTRX 7, 0), (TIM_SEC, 10)]), by decide +kernel⟩⟩,
   ⟨7, ⟨(ws [isl, (HBR_SESS_OPEN 7, 1), (I.HBR_LASTTX 7, 0), (TIM_SEC, 2)]), by decide +kernel⟩⟩,
   ⟨7, ⟨(ws [isl, (HBR_SESS_OPEN 7, 1), (HBR_SESS_RINGS 7, 0)]), ⟨by decide +kernel, ⟨by decide +kernel, ⟨16, by decide +kernel⟩⟩⟩⟩⟩,
   ⟨7, ⟨(ws [isl, (HBR_SESS_OPEN 7, 1), (HBR_SESS_RINGS 7, 1)]), by decide +kernel⟩⟩,
   ⟨7, ⟨(ws [isl, (HBR_SESS_OPEN 7, 1), (HBR_SESS_RINGS 7, 16)]), ⟨by decide +kernel, ⟨by decide +kernel, ⟨15, ⟨⟨2, [0x8001FFFF, 0, 0, 0, 0, 0, 0, 0], [7, 8, 9]⟩, by decide +kernel⟩⟩⟩⟩⟩⟩,
   ⟨7, ⟨(ws [isl, (HBR_SESS_OPEN 7, 1), (HBR_SESS_RINGS 7, 16)]), ⟨by decide +kernel, ⟨by decide +kernel, ⟨15, ⟨⟨0, [0x807FFFFF, 0, 0, 0, 0, 0, 0, 0], []⟩, by decide +kernel⟩⟩⟩⟩⟩⟩,
   ⟨7, ⟨(ws [isl, (HBR_SESS_OPEN 7, 1), (HBR_SESS_RINGS 7, 0)]), ⟨by decide +kernel, ⟨by decide +kernel, ⟨15, ⟨1, ⟨⟨2, [0x8001FFFF, 0, 0, 0, 0, 0, 0, 0], [7, 8, 9]⟩, by decide +kernel⟩⟩⟩⟩⟩⟩⟩⟩

/-- Hypotheses of RoleRefusals, clause by clause: each holds together somewhere. -/
theorem wit_RoleRefusals :
    ∃ c : Instr, ∃ ref : CmdRef, ∃ op : ℕ, ∃ s : State, (roleGated c = some (ref, op)) ∧ (MayStart ref op s) ∧ (evcOn s) ∧ (roleOk s (↑ref.session) op = false) ∧ (rd s ACC_AUDHEAD_HEAD < 8192) ∧ (op = 41 ∨ op = 54 → ∀ (b : Fin 64), fwBlockWaits s ↑b = false) :=
  ⟨(.force ref0 7 0 1), ⟨ref0, ⟨0x30, ⟨(ws [isl, (HBR_SESS_ROLE 0, 1), (HBR_OWNER_VALID, 0), (ACC_AUDHEAD_HEAD, 8191)]), by decide +kernel⟩⟩⟩⟩

/-- Hypotheses of FabricAccesses, clause by clause: each holds together somewhere. -/
theorem wit_FabricAccesses :
    (∃ m : SliceAcc, ∃ a : BitVec 40, ∃ size : Fin 16, ∃ s : State, (accRuns m s = true) ∧ (regionOf a.toNat = Region.ddr) ∧ (islandOn s 9 = true) ∧ (sizeOk a.toNat ↑size = true) ∧ (accPmp m a.toNat (↑size) false s = true))
    ∧ (∃ m : SliceAcc, ∃ a : BitVec 40, ∃ size : Fin 16, ∃ s : State, (accRuns m s = true) ∧ (regionOf a.toNat = Region.ddr) ∧ (islandOn s 9 = true) ∧ (sizeOk a.toNat ↑size = true) ∧ (accPmp m a.toNat (↑size) false s = true) ∧ (↑size = 4 ∨ ↑size = 8) ∧ (m.own = none) ∧ (↑m.core < s.cores.length))
    ∧ (∃ m : SliceAcc, ∃ a : BitVec 40, ∃ size : Fin 16, ∃ s : State, (slicesRun s = true) ∧ (m.own = none) ∧ (↑m.core < s.cores.length) ∧ (misaligned a.toNat ↑size = false) ∧ (accPmp m a.toNat (↑size) false s = false))
    ∧ (∃ m : SliceAcc, ∃ a : BitVec 40, ∃ size : Fin 16, ∃ s : State, (slicesRun s = true) ∧ (m.own = none) ∧ (↑m.core < s.cores.length) ∧ (misaligned a.toNat ↑size = false) ∧ ∃ data : BitVec 64, ∃ soon : Bool, (accPmp m a.toNat (↑size) true s = false))
    ∧ (∃ m : SliceAcc, ∃ a : BitVec 40, ∃ size : Fin 16, ∃ num : BitVec 12, ∃ s : State, (slicesRun s = true) ∧ (m.own = none) ∧ (↑m.core < s.cores.length) ∧ (csrRead s none 0 (↑m.core) num.toNat (coreOf s none ↑m.core).user = none))
    ∧ (∃ m : SliceAcc, ∃ a : BitVec 40, ∃ size : Fin 16, ∃ num : BitVec 12, ∃ s : State, (slicesRun s = true) ∧ (m.own = none) ∧ (↑m.core < s.cores.length) ∧ (num = 3073))
    ∧ (∃ m : SliceAcc, ∃ a : BitVec 40, ∃ size : Fin 16, ∃ data : BitVec 64, ∃ s : State, (accRuns m s = true) ∧ (m.own = none → on s CKP_STATUS_LOGOPEN = false) ∧ (m.own ≠ none → rd s SLC_MODE = 1 → inCwin s a.toNat ↑size = true) ∧ (regionOf a.toNat = Region.ddr) ∧ (islandOn s 9 = true) ∧ (sizeOk a.toNat ↑size = true) ∧ (accPmp m a.toNat (↑size) true s = true) ∧ (Sys2Proof.Inv s))
    ∧ (∃ m : SliceAcc, ∃ a : BitVec 40, ∃ size : Fin 16, ∃ data : BitVec 64, ∃ s : State, (slicesRun s = true) ∧ (m.own = none) ∧ (on s CKP_STATUS_LOGOPEN = false) ∧ (regionOf a.toNat = Region.ddr) ∧ (islandOn s 9 = true) ∧ (↑size = 4 ∨ ↑size = 8) ∧ (a.toNat % ↑size = 0) ∧ (accPmp m a.toNat (↑size) true s = true) ∧ (Sys2Proof.Inv s) ∧ (reserved s none (↑m.core) a.toNat = true))
    ∧ (∃ m : SliceAcc, ∃ a : BitVec 40, ∃ size : Fin 16, ∃ data : BitVec 64, ∃ s : State, (slicesRun s = true) ∧ (m.own = none) ∧ (on s CKP_STATUS_LOGOPEN = false) ∧ (regionOf a.toNat = Region.ddr) ∧ (islandOn s 9 = true) ∧ (↑size = 4 ∨ ↑size = 8) ∧ (a.toNat % ↑size = 0) ∧ (accPmp m a.toNat (↑size) true s = true) ∧ (Sys2Proof.Inv s) ∧ (reserved s none (↑m.core) a.toNat = false))
    ∧ (∃ m : SliceAcc, ∃ a : BitVec 40, ∃ size : Fin 16, ∃ data : BitVec 64, ∃ s : State, (slicesRun s = true) ∧ (m.own = none) ∧ (on s CKP_STATUS_LOGOPEN = false) ∧ (regionOf a.toNat = Region.ddr) ∧ (islandOn s 9 = true) ∧ (↑size = 4 ∨ ↑size = 8) ∧ (a.toNat % ↑size = 0) ∧ (accPmp m a.toNat (↑size) true s = true) ∧ (Sys2Proof.Inv s))
    ∧ (∃ m : SliceAcc, ∃ a : BitVec 40, ∃ size : Fin 16, ∃ data : BitVec 64, ∃ soon : Bool, ∃ s : State, (slicesRun s = true) ∧ (m.own = none) ∧ (misaligned a.toNat ↑size = true) ∧ (↑m.core < s.cores.length))
    ∧ (∃ m : SliceAcc, ∃ a : BitVec 40, ∃ size : Fin 16, ∃ data : BitVec 64, ∃ soon : Bool, ∃ s : State, (slicesRun s = true) ∧ (m.own = none) ∧ (misaligned a.toNat ↑size = false) ∧ (accPmp m a.toNat (↑size) true s = true) ∧ (on s CKP_STATUS_LOGOPEN = true) ∧ (regionOf a.toNat = Region.registers) ∧ (on s I.CKP_REGDIRECT = false) ∧ (s.regq.length < 256))
    ∧ (∃ q : RegStore, ∃ l : List RegStore, ∃ s : State, (s.stalled = q :: l) ∧ (on s CKP_STATUS_LOGOPEN = true) ∧ (Sys2Proof.Inv s))
    ∧ (∃ a : BitVec 40, ∃ bs : List Byte, ∃ s : State, (regionOf a.toNat = Region.image) ∧ (regionOn s Region.image = true) ∧ (sizeOk a.toNat bs.length = true) ∧ (Sys2Proof.Inv s) ∧ (imgArea a.toNat = ImgArea.words))
    ∧ (∃ a : BitVec 40, ∃ bs : List Byte, ∃ s : State, (regionOf a.toNat = Region.image) ∧ (regionOn s Region.image = true) ∧ (sizeOk a.toNat bs.length = true) ∧ (Sys2Proof.Inv s) ∧ (imgDenied a.toNat = true) ∧ (evcOn s))
    ∧ (∃ k : ℕ, ∃ src : ℕ, ∃ l : List (ℕ × ℕ), ∃ s : State, (s.extIrq = (k, src) :: l) ∧ (on s CKP_STATUS_LOGOPEN = false) ∧ (slicesRun s = true))
    ∧ (∃ o : BitVec 24, ∃ size : Fin 16, ∃ l : List (Hit × ℕ), ∃ s : State, (NoneHeld s) ∧ (PlainRead s (regSpace + o.toNat) (↑size) l))
    ∧ (∃ o : BitVec 24, ∃ size : Fin 16, ∃ s : State, (NoneHeld s) ∧ (evcOn s) ∧ (accessCode s (regSpace + o.toNat) ↑size ≠ fOK))
    ∧ (∃ b : Fin 3, ∃ o : BitVec 24, ∃ size : Fin 16, ∃ s : State, (NoneHeld s) ∧ (b ≠ 0) ∧ (barCode o.toNat ↑size = fOK))
    ∧ (∃ b : Fin 3, ∃ o : BitVec 24, ∃ size : Fin 16, ∃ s : State, (NoneHeld s) ∧ (b ≠ 0) ∧ (barCode o.toNat ↑size ≠ fOK) ∧ (evcOn s))
    ∧ (∃ n : Fin 64, ∃ data : BitVec 64, ∃ s : State, (NoneHeld s))
    ∧ (∃ size : Fin 16, ∃ data : BitVec 64, ∃ s : State, (NoneHeld s))
    ∧ (∃ w : Sys2Proof.Writer, ∃ data : BitVec 64, ∃ s : State, (NoneHeld s) ∧ (on s HBR_LOCKST_HELD = false))
    ∧ (∃ a : BitVec 40, ∃ size : Fin 16, ∃ data : BitVec 64, ∃ s : State, (NoneHeld s) ∧ (on s HBR_LOCKST_HELD = false) ∧ (accessCode s a.toNat ↑size ≠ fOK))
    ∧ (∃ w : Sys2Proof.Writer, ∃ a : BitVec 40, ∃ size : Fin 16, ∃ data : BitVec 64, ∃ s : State, (NoneHeld s) ∧ (w ≠ Writer.host) ∧ (blockLocked s (blockOf a.toNat) = true))
    ∧ (∃ w : Sys2Proof.Writer, ∃ a : BitVec 40, ∃ data : Word, ∃ h : Hit, ∃ s : State, (NoneHeld s) ∧ (on s HBR_LOCKST_HELD = false) ∧ (accessCode s a.toNat 4 = fOK) ∧ (reach a.toNat 4 = some (Reach.half h)) ∧ (h.high = false)) :=
  ⟨⟨⟨none, none, 0⟩, ⟨0x1004, ⟨4, ⟨({ ws (own ++ [(I.HELD,0),(I.CYC_PH,0),(SLC_MODE_PART,7),(SLC_MODE,0)]) with mem := mem0 }), by decide +kernel⟩⟩⟩⟩,
   ⟨⟨some 3, none, 2⟩, ⟨0x1008, ⟨8, ⟨({ ws (own ++ [(I.HELD,0),(I.CYC_PH,0),(SLC_MODE_PART,7),(SLC_MODE,0)]) with mem := mem0 }), by decide +kernel⟩⟩⟩⟩,
   ⟨⟨none, none, 3⟩, ⟨0x1008, ⟨4, ⟨({ ws (own ++ [(I.HELD,0),(I.CYC_PH,0),(SLC_MODE_PART,7),(SLC_MODE,0),(CKP_STATUS_LOGOPEN,0)]) with cores := List.replicate 4 { Core.reset with user := true, pc := 0x5000, csr := [(0x305, 0x41)] } }), by decide +kernel⟩⟩⟩⟩,
   ⟨⟨none, none, 3⟩, ⟨0x1008, ⟨4, ⟨({ ws (own ++ [(I.HELD,0),(I.CYC_PH,0),(SLC_MODE_PART,7),(SLC_MODE,0),(CKP_STATUS_LOGOPEN,0)]) with cores := List.replicate 4 { Core.reset with user := true, pc := 0x5000, csr := [(0x305, 0x41)] } }), ⟨by decide +kernel, ⟨by decide +kernel, ⟨by decide +kernel, ⟨by decide +kernel, ⟨5, ⟨true, by decide +kernel⟩⟩⟩⟩⟩⟩⟩⟩⟩⟩,
   ⟨⟨none, none, 3⟩, ⟨0x1008, ⟨4, ⟨0x180, ⟨({ ws (own ++ [(I.HELD,0),(I.CYC_PH,0),(SLC_MODE_PART,7),(SLC_MODE,0),(CKP_STATUS_LOGOPEN,0)]) with cores := List.replicate 4 { Core.reset with user := true, pc := 0x5000, csr := [(0x305, 0x41)] } }), by decide +kernel⟩⟩⟩⟩⟩,
   ⟨⟨none, none, 3⟩, ⟨0x1008, ⟨4, ⟨0xC01, ⟨({ ws (own ++ [(I.HELD,0),(I.CYC_PH,0),(SLC_MODE_PART,7),(SLC_MODE,0),(CKP_STATUS_LOGOPEN,0)]) with cores := List.replicate 4 { Core.reset with user := true, pc := 0x5000, csr := [(0x305, 0x41)] } }), by decide +kernel⟩⟩⟩⟩⟩,
   ⟨⟨none, none, 0⟩, ⟨0x7FFFFFFF8, ⟨8, ⟨0x8877665544332211, ⟨({ ws (own ++ [(I.HELD,0),(I.CYC_PH,0),(SLC_MODE_PART,7),(SLC_MODE,0),(CKP_STATUS_LOGOPEN,0)]) with mem := mem0 }), by decide +kernel⟩⟩⟩⟩⟩,
   ⟨⟨none, none, 0⟩, ⟨0x1008, ⟨8, ⟨0x8877665544332211, ⟨({ ws (own ++ [(I.HELD,0),(I.CYC_PH,0),(SLC_MODE_PART,7),(SLC_MODE,0),(CKP_STATUS_LOGOPEN,0)]) with mem := mem0, cores := List.replicate 4 (cr1 (some (granule 0x1008))) }), by decide +kernel⟩⟩⟩⟩⟩,
   ⟨⟨none, none, 3⟩, ⟨0x1008, ⟨4, ⟨0x8877665544332211, ⟨({ ws (own ++ [(I.HELD,0),(I.CYC_PH,0),(SLC_MODE_PART,7),(SLC_MODE,0),(CKP_STATUS_LOGOPEN,0)]) with mem := mem0 }), by decide +kernel⟩⟩⟩⟩⟩,
   ⟨⟨none, none, 3⟩, ⟨0x1008, ⟨4, ⟨0x88776655F4332211, ⟨({ ws (own ++ [(I.HELD,0),(I.CYC_PH,0),(SLC_MODE_PART,7),(SLC_MODE,0),(CKP_STATUS_LOGOPEN,0)]) with mem := mem0 }), by decide +kernel⟩⟩⟩⟩⟩,
   ⟨⟨some 2, none, 3⟩, ⟨0x1009, ⟨4, ⟨5, ⟨true, ⟨({ ws (own ++ [(I.HELD,0),(I.CYC_PH,0),(SLC_MODE_PART,7),(SLC_MODE,0),(CKP_STATUS_LOGOPEN,0)]) with mem := mem0, cores := List.replicate 4 (cr1 none) }), by decide +kernel⟩⟩⟩⟩⟩⟩,
   ⟨⟨none, none, 0⟩, ⟨0x1080070000, ⟨4, ⟨5, ⟨true, ⟨({ ws (own ++ [(I.HELD,0),(I.CYC_PH,0),(SLC_MODE_PART,7),(SLC_MODE,0),(CKP_STATUS_LOGOPEN,1),(I.CKP_REGDIRECT,0)]) with regq := List.replicate 255 ⟨.userCore, 0x1080070000, 4, 0⟩ }), by decide +kernel⟩⟩⟩⟩⟩⟩,
   ⟨⟨.userCore, 0x1008, 8, 0x123⟩, ⟨[], ⟨({ ws (own ++ [(CKP_STATUS_LOGOPEN,1)]) with mem := mem0, stalled := [⟨.userCore, 0x1008, 8, 0x123⟩] }), by decide +kernel⟩⟩⟩,
   ⟨0x1020010000, ⟨[1, 2, 3, 4], ⟨(ws own), by decide +kernel⟩⟩⟩,
   ⟨0x1020008000, ⟨[1], ⟨(ws own), by decide +kernel⟩⟩⟩,
   ⟨3, ⟨457, ⟨[], ⟨({ ws (own ++ [(I.HELD,0),(I.CYC_PH,0),(SLC_MODE_PART,7),(SLC_MODE,0),(CKP_STATUS_LOGOPEN,0)]) with extIrq := [(3, 457)], cores := List.replicate 4 (cr1 none) }), by decide +kernel⟩⟩⟩⟩,
   ⟨(BitVec.ofNat 24 (PWR_WAKETIME.addr - 0x1080000000)), ⟨4, ⟨((match reach PWR_WAKETIME.addr 4 with | some (.whole l) => l | _ => [])), ⟨(ws (own ++ [(PWR_WAKETIME, 77)])), by decide +kernel⟩⟩⟩⟩,
   ⟨0x000002, ⟨2, ⟨(ws own), by decide +kernel⟩⟩⟩,
   ⟨1, ⟨0x000ABC, ⟨4, ⟨(ws own), by decide +kernel⟩⟩⟩⟩,
   ⟨2, ⟨0x000002, ⟨4, ⟨(ws own), by decide +kernel⟩⟩⟩⟩,
   ⟨63, ⟨0x1FFFFFFFF, ⟨(ws own), by decide +kernel⟩⟩⟩,
   ⟨3, ⟨0x1FFFFFFFF, ⟨(ws own), by decide +kernel⟩⟩⟩,
   ⟨.userCore, ⟨0x9123456789, ⟨(ws (own ++ [(HBR_LOCKST_HELD, 0)])), by decide +kernel⟩⟩⟩,
   ⟨0x1080000002, ⟨4, ⟨0x9123456789, ⟨(ws (own ++ [(HBR_LOCKST_HELD, 0)])), by decide +kernel⟩⟩⟩⟩,
   ⟨.dma, ⟨0x1080100000, ⟨4, ⟨5, ⟨(ws (own ++ [(HBR_LOCKST_HELD, 1), (HBR_LOCKST_BLOCK, 0x10)])), by decide +kernel⟩⟩⟩⟩⟩,
   ⟨.userCore, ⟨(BitVec.ofNat 40 0x1080010018), ⟨5, ⟨((match reach 0x1080010018 4 with | some (.half l) => l | some (.whole ((l,_)::_)) => l | _ => hit0)), ⟨(ws (own ++ [(HBR_LOCKST_HELD, 0)])), by decide +kernel⟩⟩⟩⟩⟩⟩

/-- Hypotheses of AccessCommands, clause by clause: each holds together somewhere. -/
theorem wit_AccessCommands :
    (∃ addr : BitVec 40, ∃ kind : Fin 3, ∃ s : State, (evcOn s) ∧ (obLink s = true ∨ on s (EVC_ROUTE_HOST 331) = false))
    ∧ (∃ addr : BitVec 40, ∃ r : OutRead, ∃ s : State, (obEnds s obSlices addr.toNat = some r) ∧ (r.since + 1000 * rd s HBR_CPLTO_TIMEOUT ≤ upNow s) ∧ (obLink s = true ∨ on s (EVC_ROUTE_HOST 331) = false))
    ∧ (∃ init : Fin 17, ∃ o : BitVec 24, ∃ size : Fin 16, ∃ r : OutRead, ∃ s : State, (NoneHeld s) ∧ (obOpen s ↑init = some r) ∧ (r.since + 2000 ≤ upNow s) ∧ (r.retries + 1 < 16))
    ∧ (∃ init : Fin 17, ∃ r : OutRead, ∃ s : State, (List.find? (fun r => r.init == ↑init && r.reissue) s.outReads = some r) ∧ (r.since + 1000 ≤ upNow s) ∧ (obCode s r.addr = fOK))
    ∧ (∃ x : HalfAccess, ∃ s : State, (s.heldAcc = []) ∧ (s.regq = []) ∧ (x ∈ s.halves) ∧ (x.writer = Writer.host) ∧ (x.since + 1000 ≤ upNow s) ∧ (evcOn s))
    ∧ (∃ block : BitVec 8, ∃ time : BitVec 5, ∃ s : State, (WriteTaken Writer.host HBR_LOCK_GO 1 s) ∧ (isOwner s 0 = true) ∧ (lockBarred block.toNat = false) ∧ (on s HBR_LOCKST_HELD = false))
    ∧ (∃ s : State, (WriteTaken Writer.host HBR_LOCK_UNLOCK 1 s) ∧ (s.heldAcc = []) ∧ (s.regq = []))
    ∧ (∃ s : State, (on s HBR_LOCKST_HELD = true) ∧ (rd s I.HBR_LOCKT + 1000 * rd s HBR_LOCK_TIME ≤ upNow s) ∧ (s.heldAcc = []) ∧ (s.regq = []) ∧ (evcOn s))
    ∧ (∃ ref : CmdRef, ∃ a : BitVec 40, ∃ size : BitVec 32, ∃ l : List (Hit × ℕ), ∃ s : State, (Permitted ref 16 s) ∧ (size = 4 ∨ size = 8) ∧ (regionOf a.toNat = Region.registers) ∧ (fwWaits s a.toNat = false) ∧ (PlainRead s a.toNat size.toNat l))
    ∧ (∃ ref : CmdRef, ∃ a : BitVec 40, ∃ n : BitVec 32, ∃ s : State, (Permitted ref 17 s) ∧ (n.toNat ≤ 65536) ∧ (a.toNat + n.toNat ≤ 34359738368) ∧ (islandOn s 9 = true) ∧ (slicesHeld s = false) ∧ (ref.session = 0 → obLink s = true))
    ∧ (∃ ref : CmdRef, ∃ arg0 : BitVec 32, ∃ n : BitVec 32, ∃ s : State, (Permitted ref 19 s) ∧ (32 ≤ n.toNat) ∧ (ref.session = 0 → obLink s = true))
    ∧ (∃ ref : CmdRef, ∃ a : BitVec 40, ∃ size : BitVec 32, ∃ data : BitVec 32, ∃ s : State, (Permitted ref 52 s) ∧ (size = 4 ∨ size = 8) ∧ (regionOf a.toNat = Region.registers) ∧ (fwWaits s a.toNat = false))
    ∧ (∃ ref : CmdRef, ∃ a : BitVec 40, ∃ buf : Option (List Byte), ∃ l : List Byte, ∃ s : State, (Permitted ref 53 s) ∧ (cmdBytes (markPassed ref s) ref buf = some l) ∧ (l.length ≤ 65536) ∧ (a.toNat + l.length ≤ 34359738368) ∧ (islandOn s 9 = true) ∧ (slicesHeld s = false) ∧ (Sys2Proof.Inv s))
    ∧ (∃ ref : CmdRef, ∃ arg0 : BitVec 32, ∃ arg1 : BitVec 32, ∃ s : State, (Permitted ref 41 s) ∧ (fwBlockWaits s (quenchBlock arg0.toNat) = false) ∧ (bits arg0.toNat 28 4 = 0) ∧ (islandOn s 11 = true))
    ∧ (∃ ref : CmdRef, ∃ arg0 : BitVec 32, ∃ arg1 : BitVec 32, ∃ s : State, (Permitted ref 41 s) ∧ (fwBlockWaits s (quenchBlock arg0.toNat) = false) ∧ (bits arg0.toNat 28 4 = 1) ∧ (islandOn s (15 + bits arg0.toNat 0 2) = true))
    ∧ (∃ ref : CmdRef, ∃ arg0 : BitVec 32, ∃ arg1 : BitVec 32, ∃ s : State, (Permitted ref 41 s) ∧ (fwBlockWaits s (quenchBlock arg0.toNat) = false) ∧ (2 ≤ bits arg0.toNat 28 4))
    ∧ (∃ idx : BitVec 12, ∃ filled : List (Option (List Word)), ∃ late : Bool, ∃ s : State, (NoneHeld s) ∧ ∃ d : Fin 8192, (↑d < 16) ∧ (on s (HBR_RP_CFG_EN ↑d) = true) ∧ (idx.toNat < rd s (HBR_RP_CFG_CMDENT ↑d)))
    ∧ (∃ idx : BitVec 12, ∃ filled : List (Option (List Word)), ∃ late : Bool, ∃ s : State, (NoneHeld s) ∧ ∃ d : Fin 8192, (80 ≤ ↑d) ∧ (evcOn s)) :=
  ⟨⟨0xC00000123, ⟨2, ⟨(ws (own ++ [(HBR_LINK_LINKUP, 1), (HBR_LINK_BME, 1)])), by decide +kernel⟩⟩⟩,
   ⟨0xC00000000, ⟨retr, ⟨({ ws (own ++ [(HBR_LINK_LINKUP, 1), (HBR_LINK_BME, 1), (TIM_SEC, 1)]) with outReads := [retr, ⟨3, none, 0, 0xC00000000, 4, 0, false, 0⟩] }), by decide +kernel⟩⟩⟩,
   ⟨3, ⟨0x2D0000, ⟨4, ⟨retr3, ⟨({ ws (own ++ [(TIM_SEC, 1)]) with outReads := [retr, retr3] }), by decide +kernel⟩⟩⟩⟩⟩,
   ⟨3, ⟨retrR, ⟨({ ws (own ++ [(HBR_LINK_LINKUP, 1), (HBR_LINK_BME, 1), (HBR_OBWIN_EN 0, 1), (PWR_STATE, 0), (TIM_SEC, 1)]) with outReads := [retr, retrR] }), by decide +kernel⟩⟩⟩,
   ⟨⟨.host, 0x1080200000, true, 5, 0⟩, ⟨({ ws (own ++ [(TIM_SEC, 1)]) with halves := [⟨.host, 0x1080200000, true, 5, 0⟩, ⟨.dma, 0x1080200000, true, 5, 0⟩] }), by decide +kernel⟩⟩,
   ⟨0x20, ⟨31, ⟨(ws (own ++ [(HBR_LOCKST_HELD, 0)])), by decide +kernel⟩⟩⟩,
   ⟨(ws (own ++ [(HBR_LOCKST_HELD, 1), (HBR_LOCKST_BLOCK, 0x10)])), by decide +kernel⟩,
   ⟨(ws (own ++ [(HBR_LOCKST_HELD, 1), (HBR_LOCKST_BLOCK, 0x10), (I.HBR_LOCKT, 0), (HBR_LOCK_TIME, 20), (TIM_SEC, 1)])), by decide +kernel⟩,
   ⟨ref0, ⟨(BitVec.ofNat 40 PWR_WAKETIME.addr), ⟨4, ⟨((match reach PWR_WAKETIME.addr 4 with | some (.whole l) => l | _ => [])), ⟨(ws (own ++ [(PWR_WAKETIME, 77), (HBR_LOCKST_HELD, 0)])), by decide +kernel⟩⟩⟩⟩⟩,
   ⟨ref0, ⟨0x1001, ⟨7, ⟨({ ws (own ++ [(HBR_LINK_LINKUP, 1), (HBR_LINK_BME, 1)]) with mem := mem0 }), by decide +kernel⟩⟩⟩⟩,
   ⟨ref0, ⟨0x80000003, ⟨64, ⟨(ws (own ++ [(HBR_LINK_LINKUP, 1), (HBR_LINK_BME, 1)])), by decide +kernel⟩⟩⟩⟩,
   ⟨ref0, ⟨(BitVec.ofNat 40 PWR_WAKETIME.addr), ⟨4, ⟨5, ⟨(ws (own ++ [(HBR_LOCKST_HELD, 0)])), by decide +kernel⟩⟩⟩⟩⟩,
   ⟨ref0, ⟨0x1001, ⟨(some [1, 0, 3]), ⟨[1, 0, 3], ⟨({ ws (own ++ [(HBR_LINK_LINKUP, 1), (HBR_LINK_BME, 1)]) with mem := mem0 }), by decide +kernel⟩⟩⟩⟩⟩,
   ⟨ref0, ⟨0x3, ⟨0xFF, ⟨(ws own), by decide +kernel⟩⟩⟩⟩,
   ⟨ref0, ⟨0x1000001B, ⟨0xC0FF0001, ⟨(ws own), by decide +kernel⟩⟩⟩⟩,
   ⟨ref0, ⟨0x20000000, ⟨0xC0FF0001, ⟨(ws own), by decide +kernel⟩⟩⟩⟩,
   ⟨5, ⟨[none, some [0xC0000001, 0, 0, 0, 0, 0, 0, 0]], ⟨true, ⟨(ws (own ++ [(HBR_RP_CFG_EN 15, 1), (HBR_RP_CFG_CMDENT 15, 6), (I.HBR_TAIL 15, 4), (HBR_RP_STAT_ERR 15, 0)])), ⟨by decide +kernel, ⟨15, by decide +kernel⟩⟩⟩⟩⟩⟩,
   ⟨0, ⟨[], ⟨false, ⟨(ws own), ⟨by decide +kernel, ⟨8191, by decide +kernel⟩⟩⟩⟩⟩⟩⟩

/-- Hypotheses of DmaDescriptors, clause by clause: each holds together somewhere. -/
theorem wit_DmaDescriptors :
    (∃ n : Fin 16, ∃ d : DDesc, ∃ s : State, (DmaMoves s (↑n) d 0))
    ∧ (∃ n : Fin 16, ∃ d : DDesc, ∃ s : State, (DmaMoves s (↑n) d 1))
    ∧ (∃ n : Fin 16, ∃ d : DDesc, ∃ s : State, (DmaMoves s (↑n) d 2))
    ∧ (∃ n : Fin 16, ∃ d : DDesc, ∃ s : State, (DmaMoves s (↑n) d 3) ∧ (d.count ≤ d.stride))
    ∧ (∃ n : Fin 16, ∃ d : DDesc, ∃ s : State, (DmaMoves s (↑n) d 4))
    ∧ (∃ n : Fin 16, ∃ d : DDesc, ∃ s : State, (DmaMoves s (↑n) d 5) ∧ (d.esz * d.count ≤ d.stride))
    ∧ (∃ w : Sys2Proof.Writer, ∃ n : Fin 16, ∃ s : State, (WriteTaken w (DMA_CH_CTRL_GO ↑n) 1 s) ∧ (on s (DMA_CH_CFG_RING ↑n) = false) ∧ ∃ a : ℕ, (dcState s ↑n = dcIDLE) ∧ (Sys2Proof.Inv s) ∧ (a = 32 * rd s (DMA_CH_CHAIN_BASE (↑n) 0)) ∧ (0 < rd s DMA_CHAINLIM_LIMIT) ∧ (regionOf a ≠ Region.outbound) ∧ (memCode s a = fOK) ∧ (on s (DMA_CH_CFG_REUSE ↑n) = true ∨ (dDesc (dmaWords (dmaGet a 32 s).1)).own = true))
    ∧ (∃ w : Sys2Proof.Writer, ∃ n : Fin 16, ∃ s : State, (WriteTaken w (DMA_CH_CTRL_GO ↑n) 1 s) ∧ (on s (DMA_CH_CFG_RING ↑n) = false) ∧ ∃ a : ℕ, (dcState s ↑n = dcIDLE) ∧ (Sys2Proof.Inv s) ∧ (a = 32 * rd s (DMA_CH_CHAIN_BASE (↑n) 0)) ∧ (0 < rd s DMA_CHAINLIM_LIMIT) ∧ (regionOf a = Region.outbound) ∧ (obCode s a = fOK))
    ∧ (∃ w : Sys2Proof.Writer, ∃ n : Fin 16, ∃ s : State, (WriteTaken w (DMA_CH_CTRL_GO ↑n) 1 s) ∧ (on s (DMA_CH_CFG_RING ↑n) = false) ∧ (dcState s ↑n = dcACTIVE) ∧ (on s (DMA_CH_CTRL_PEND ↑n) = false))
    ∧ (∃ w : Sys2Proof.Writer, ∃ n : Fin 16, ∃ tail : BitVec 12, ∃ s : State, (WriteTaken w (DMA_CH_IDX_TAIL ↑n) tail.toNat s) ∧ (on s (DMA_CH_CFG_RING ↑n) = true → tail.toNat < rd s (DMA_CH_RING_ENTRIES ↑n) ∧ dcState s ↑n ≠ dcIDLE))
    ∧ (∃ w : Sys2Proof.Writer, ∃ n : Fin 16, ∃ s : State, (Sys2Proof.Inv s) ∧ (WriteTaken w (DMA_CH_CTRL_ABORT ↑n) 1 s) ∧ (dcState s ↑n = dcACTIVE))
    ∧ (∃ n : Fin 16, ∃ moved : ℕ, ∃ ok : Bool, ∃ s : State, ((dch s ↑n).abort = true) ∧ (on s (DMA_CH_CTRL_EN ↑n) = true) ∧ (on s DMA_CTRL_EN = true))
    ∧ (∃ w : Sys2Proof.Writer, ∃ n : Fin 16, ∃ s : State, (WriteTaken w (DMA_CH_CTRL_CLRHALT ↑n) 1 s) ∧ (dcState s ↑n = dcHALTED))
    ∧ (∃ w : Sys2Proof.Writer, ∃ n : Fin 16, ∃ s : State, (WriteTaken w (DMA_CH_CTRL_EN ↑n) 1 s) ∧ (on s (DMA_CH_CTRL_BUSY_OFF ↑n) = false) ∧ (on s DMA_CTRL_EN = true) ∧ (dcState s ↑n = dcOFF))
    ∧ (∃ w : Sys2Proof.Writer, ∃ n : Fin 16, ∃ s : State, (Sys2Proof.Inv s) ∧ (WriteTaken w (DMA_CH_CTRL_EN ↑n) 0 s) ∧ (dcState s ↑n = dcACTIVE))
    ∧ (∃ s : State, (on s I.CYC_OUTDUE = true))
    ∧ (∃ n : Fin 16, ∃ w : List ℕ, ∃ e : ℕ × ℕ × ℕ, ∃ ok : Bool, ∃ s : State, ((dch s ↑n).words = some w) ∧ ((dch s ↑n).ended = some e) ∧ (dcState s ↑n = dcACTIVE) ∧ ((dch s ↑n).abort = false) ∧ (on s (DMA_CH_CFG_REUSE ↑n) = true) ∧ (on s (DMA_CH_CFG_RING ↑n) = false) ∧ (e.1 = dsOK) ∧ ((dDesc w).last = true) ∧ (on s (DMA_CH_CTRL_PEND ↑n) = false))
    ∧ (∃ n : Fin 16, ∃ w : List ℕ, ∃ e : ℕ × ℕ × ℕ, ∃ ok : Bool, ∃ s : State, ((dch s ↑n).words = some w) ∧ ((dch s ↑n).ended = some e) ∧ (dcState s ↑n = dcACTIVE) ∧ ((dch s ↑n).abort = false) ∧ (on s (DMA_CH_CFG_REUSE ↑n) = true) ∧ (e.1 ≠ dsOK) ∧ (e.1 < 16) ∧ (evcOn s))
    ∧ (∃ n : Fin 16, ∃ w : List ℕ, ∃ e : ℕ × ℕ × ℕ, ∃ ok : Bool, ∃ s : State, ((dch s ↑n).words = some w) ∧ ((dch s ↑n).ended = some e) ∧ (dcState s ↑n = dcACTIVE) ∧ ((dch s ↑n).abort = false) ∧ (on s (DMA_CH_CFG_REUSE ↑n) = false) ∧ (DmaPlain s (curAddr s ↑n)) ∧ (Sys2Proof.Inv s))
    ∧ (∃ n : Fin 16, ∃ moved : ℕ, ∃ d : DDesc, ∃ s : State, (Sys2Proof.Inv s) ∧ (dmaReady s ↑n = some d) ∧ (obWaits s ↑n = true → obAged s (↑n) 64000 = true)) :=
  ⟨⟨3, ⟨(dDesc [0x80000000, 16, 0x1003, 0, 0x1008, 0, 0, 0]), ⟨(dma1 3 [0x80000000, 16, 0x1003, 0, 0x1008, 0, 0, 0] (ws own)), by decide +kernel⟩⟩⟩,
   ⟨15, ⟨(dDesc [0x81000000, 13, 0x04030201, 0, 0x1002, 0, 0, 0]), ⟨(dma1 15 [0x81000000, 13, 0x04030201, 0, 0x1002, 0, 0, 0] (ws own)), by decide +kernel⟩⟩⟩,
   ⟨0, ⟨(dDesc [0x8A000000, 0x08000002, 0x1000, 0x00050000, 0x2000, 0x00010000, 0, 0]), ⟨(dma1 0 [0x8A000000, 0x08000002, 0x1000, 0x00050000, 0x2000, 0x00010000, 0, 0] (ws own)), by decide +kernel⟩⟩⟩,
   ⟨0, ⟨(dDesc [0x83000000, 0x08000002, 0x1000, 0x00020000, 0x2000, 0x00010000, 0, 0]), ⟨(dma1 0 [0x83000000, 0x08000002, 0x1000, 0x00020000, 0x2000, 0x00010000, 0, 0] (ws own)), by decide +kernel⟩⟩⟩,
   ⟨0, ⟨(dDesc [0x84000000, 0x05000003, 0x1000, 0x00090000, 0x2000, 0x00010000, 3, 0]), ⟨(dma1 0 [0x84000000, 0x05000003, 0x1000, 0x00090000, 0x2000, 0x00010000, 3, 0] (ws own)), by decide +kernel⟩⟩⟩,
   ⟨0, ⟨(dDesc [0x85000000, 0x05000003, 0x1000, 0x00060000, 0x2000, 0x00010000, 3, 0]), ⟨(dma1 0 [0x85000000, 0x05000003, 0x1000, 0x00060000, 0x2000, 0x00010000, 3, 0] (ws own)), by decide +kernel⟩⟩⟩,
   ⟨.host, ⟨2, ⟨(ws (own ++ [(DMA_CH_CFG_RING 2, 0), (DMA_CH_CTRL_STATE 2, 1), (DMA_CH_CHAIN_BASE 2 0, 0x80), (DMA_CHAINLIM_LIMIT, 1), (DMA_CH_CFG_REUSE 2, 1)])), ⟨by decide +kernel, ⟨by decide +kernel, ⟨0x1000, by decide +kernel⟩⟩⟩⟩⟩⟩,
   ⟨.host, ⟨2, ⟨(ws (own ++ [(DMA_CH_CFG_RING 2, 0), (DMA_CH_CTRL_STATE 2, 1), (HBR_LINK_LINKUP, 1), (HBR_LINK_BME, 1), (HBR_OBWIN_EN 0, 1), (PWR_STATE, 0), (DMA_CH_CHAIN_BASE 2 0, 0x60000000), (DMA_CHAINLIM_LIMIT, 1)])), ⟨by decide +kernel, ⟨by decide +kernel, ⟨0xC00000000, by decide +kernel⟩⟩⟩⟩⟩⟩,
   ⟨.host, ⟨2, ⟨(ws (own ++ [(DMA_CH_CFG_RING 2, 0), (DMA_CH_CTRL_STATE 2, 2), (DMA_CH_CTRL_PEND 2, 0)])), by decide +kernel⟩⟩⟩,
   ⟨.host, ⟨2, ⟨7, ⟨(ws (own ++ [(DMA_CH_CFG_RING 2, 1), (DMA_CH_CTRL_STATE 2, 3), (DMA_CH_RING_ENTRIES 2, 8)])), by decide +kernel⟩⟩⟩⟩,
   ⟨.host, ⟨2, ⟨(ws (own ++ [(DMA_CH_CTRL_STATE 2, 2)])), by decide +kernel⟩⟩⟩,
   ⟨2, ⟨9, ⟨true, ⟨(let s := ws (own ++ [(DMA_CH_CTRL_EN 2, 1), (DMA_CTRL_EN, 1)]); { s with dma := s.dma.set 2 { DmaCh.idle with abort := true, words := some [0x80000000, 16, 0x1003, 0, 0x1008, 0, 0, 0] } }), by decide +kernel⟩⟩⟩⟩,
   ⟨.host, ⟨2, ⟨(ws (own ++ [(DMA_CH_CTRL_STATE 2, 3)])), by decide +kernel⟩⟩⟩,
   ⟨.host, ⟨2, ⟨(ws (own ++ [(DMA_CH_CTRL_STATE 2, 0), (DMA_CH_CTRL_BUSY_OFF 2, 0), (DMA_CTRL_EN, 1)])), by decide +kernel⟩⟩⟩,
   ⟨.host, ⟨2, ⟨(ws (own ++ [(DMA_CH_CTRL_STATE 2, 2)])), by decide +kernel⟩⟩⟩,
   ⟨(ws [isl, (I.CYC_OUTDUE, 1), (DMA_CH_CFG_RING 2, 0), (DMA_CH_CFG_TRIG 2, 2), (DMA_CH_CTRL_STATE 2, 2)]), by decide +kernel⟩,
   ⟨2, ⟨[0xE0000000, 16, 0x1003, 0, 0x1008, 0, 0, 0], ⟨(0, 0, 0), ⟨true, ⟨(dma1 2 [0xE0000000, 16, 0x1003, 0, 0x1008, 0, 0, 0] (ws (own ++ [(DMA_CH_CFG_REUSE 2, 1), (DMA_CH_CFG_RING 2, 0), (DMA_CH_CTRL_PEND 2, 0)])) |> dset 2 (fun c => { c with ended := some (0, 0, 0) })), by decide +kernel⟩⟩⟩⟩⟩,
   ⟨2, ⟨[0xE0000000, 16, 0x1003, 0, 0x1008, 0, 0, 0], ⟨(6, 3, 9), ⟨true, ⟨(dma1 2 [0xE0000000, 16, 0x1003, 0, 0x1008, 0, 0, 0] (ws (own ++ [(DMA_CH_CFG_REUSE 2, 1), (DMA_CH_CFG_RING 2, 0), (DMA_CH_CTRL_PEND 2, 0)])) |> dset 2 (fun c => { c with ended := some (6, 3, 9) })), by decide +kernel⟩⟩⟩⟩⟩,
   ⟨2, ⟨[0xE0000000, 16, 0x1003, 0, 0x1008, 0, 0, 0], ⟨(0, 0, 0), ⟨true, ⟨(dma1 2 [0xE0000000, 16, 0x1003, 0, 0x1008, 0, 0, 0] (ws (own ++ [(DMA_CH_CFG_REUSE 2, 0), (DMA_CH_CURDESC_ADDR 2, 0x80), (DMA_CH_CFG_RING 2, 0), (DMA_CH_CTRL_PEND 2, 0)])) |> dset 2 (fun c => { c with ended := some (0, 0, 0) })), by decide +kernel⟩⟩⟩⟩⟩,
   ⟨2, ⟨5, ⟨(dDesc [0xE0000000, 16, 0x1003, 0, 0x1008, 0, 0, 0]), ⟨(dma1 2 [0xE0000000, 16, 0x1003, 0, 0x1008, 0, 0, 0] (ws own)), by decide +kernel⟩⟩⟩⟩⟩

/-- Hypotheses of DmaDataPhases, clause by clause: each holds together somewhere. -/
theorem wit_DmaDataPhases :
    (∃ n : Fin 16, ∃ d : DDesc, ∃ s : State, (s.dma.length = 16) ∧ (dmaReady s ↑n = some d) ∧ (dmaOutranked s ↑n = false) ∧ (obRetrying s ↑n = false) ∧ (d.mode = 0))
    ∧ (∃ n : Fin 16, ∃ d : DDesc, ∃ s : State, (s.dma.length = 16) ∧ (dmaReady s ↑n = some d) ∧ (dmaOutranked s ↑n = false) ∧ (obRetrying s ↑n = false) ∧ (d.mode = 1) ∧ (mustWait Writer.dma d.dst s = false))
    ∧ (∃ n : Fin 16, ∃ d : DDesc, ∃ s : State, (s.dma.length = 16) ∧ (dmaReady s ↑n = some d) ∧ (dmaOutranked s ↑n = false) ∧ (obRetrying s ↑n = false) ∧ (d.mode = 2))
    ∧ (∃ n : Fin 16, ∃ d : DDesc, ∃ s : State, (s.dma.length = 16) ∧ (dmaReady s ↑n = some d) ∧ (dmaOutranked s ↑n = false) ∧ (obRetrying s ↑n = false) ∧ (d.mode = 3))
    ∧ (∃ n : Fin 16, ∃ d : DDesc, ∃ s : State, (s.dma.length = 16) ∧ (dmaReady s ↑n = some d) ∧ (dmaOutranked s ↑n = false) ∧ (obRetrying s ↑n = false) ∧ (d.mode = 4))
    ∧ (∃ n : Fin 16, ∃ d : DDesc, ∃ s : State, (s.dma.length = 16) ∧ (dmaReady s ↑n = some d) ∧ (dmaOutranked s ↑n = false) ∧ (obRetrying s ↑n = false) ∧ (d.mode = 5)) :=
  ⟨⟨4, ⟨(dDesc [0x80000000, 16, 0x1003, 0, 0x1008, 0x00010000, 3, 0]), ⟨(dma1 4 [0x80000000, 16, 0x1003, 0, 0x1008, 0x00010000, 3, 0] (ws own)), by decide +kernel⟩⟩⟩,
   ⟨4, ⟨(dDesc [0x81000000, 16, 0x1003, 0, 0x1008, 0x00010000, 3, 0]), ⟨(dma1 4 [0x81000000, 16, 0x1003, 0, 0x1008, 0x00010000, 3, 0] (ws own)), by decide +kernel⟩⟩⟩,
   ⟨4, ⟨(dDesc [0x82000000, 0x05000003, 0x1003, 0, 0x1008, 0x00010000, 3, 0]), ⟨(dma1 4 [0x82000000, 0x05000003, 0x1003, 0, 0x1008, 0x00010000, 3, 0] (ws own)), by decide +kernel⟩⟩⟩,
   ⟨4, ⟨(dDesc [0x83000000, 0x05000003, 0x1003, 0, 0x1008, 0x00010000, 3, 0]), ⟨(dma1 4 [0x83000000, 0x05000003, 0x1003, 0, 0x1008, 0x00010000, 3, 0] (ws own)), by decide +kernel⟩⟩⟩,
   ⟨4, ⟨(dDesc [0x84000000, 0x05000003, 0x1003, 0, 0x1008, 0x00010000, 3, 0]), ⟨(dma1 4 [0x84000000, 0x05000003, 0x1003, 0, 0x1008, 0x00010000, 3, 0] (ws own)), by decide +kernel⟩⟩⟩,
   ⟨4, ⟨(dDesc [0x85000000, 0x05000003, 0x1003, 0, 0x1008, 0x00010000, 3, 0]), ⟨(dma1 4 [0x85000000, 0x05000003, 0x1003, 0, 0x1008, 0x00010000, 3, 0] (ws own)), by decide +kernel⟩⟩⟩⟩

/-- Hypotheses of DmaChannelCommands, clause by clause: each holds together somewhere. -/
theorem wit_DmaChannelCommands :
    (∃ w : Sys2Proof.Writer, ∃ n : Fin 16, ∃ s : State, (s.dma.length = 16) ∧ (WriteTaken w (DMA_CH_CTRL_GO ↑n) 1 s) ∧ (on s (DMA_CH_CFG_RING ↑n) = true ∨ dcState s ↑n = dcOFF ∨ dcState s ↑n = dcHALTED))
    ∧ (∃ w : Sys2Proof.Writer, ∃ n : Fin 16, ∃ s : State, (s.dma.length = 16) ∧ (WriteTaken w (DMA_CH_CTRL_GO ↑n) 1 s) ∧ (on s (DMA_CH_CFG_RING ↑n) = false) ∧ (dcState s ↑n = dcIDLE))
    ∧ (∃ w : Sys2Proof.Writer, ∃ n : Fin 16, ∃ s : State, (s.dma.length = 16) ∧ (WriteTaken w (DMA_CH_CTRL_GO ↑n) 1 s) ∧ (on s (DMA_CH_CFG_RING ↑n) = false) ∧ (dcState s ↑n = dcACTIVE) ∧ (on s (DMA_CH_CTRL_PEND ↑n) = true) ∧ (evcOn s))
    ∧ (∃ w : Sys2Proof.Writer, ∃ n : Fin 16, ∃ tail : BitVec 12, ∃ s : State, (WriteTaken w (DMA_CH_IDX_TAIL ↑n) tail.toNat s) ∧ (on s (DMA_CH_CFG_RING ↑n) = false ∨ tail.toNat < rd s (DMA_CH_RING_ENTRIES ↑n)))
    ∧ (∃ w : Sys2Proof.Writer, ∃ n : Fin 16, ∃ tail : BitVec 12, ∃ s : State, (WriteTaken w (DMA_CH_IDX_TAIL ↑n) tail.toNat s) ∧ (on s (DMA_CH_CFG_RING ↑n) = true) ∧ (rd s (DMA_CH_RING_ENTRIES ↑n) ≤ tail.toNat))
    ∧ (∃ w : Sys2Proof.Writer, ∃ n : Fin 16, ∃ s : State, (s.dma.length = 16) ∧ (WriteTaken w (DMA_CH_CTRL_ABORT ↑n) 1 s))
    ∧ (∃ w : Sys2Proof.Writer, ∃ n : Fin 16, ∃ s : State, (WriteTaken w (DMA_CH_CTRL_CLRHALT ↑n) 1 s))
    ∧ (∃ w : Sys2Proof.Writer, ∃ n : Fin 16, ∃ s : State, (WriteTaken w (DMA_CH_CTRL_EN ↑n) 1 s) ∧ (on s (DMA_CH_CTRL_BUSY_OFF ↑n) = true))
    ∧ (∃ w : Sys2Proof.Writer, ∃ n : Fin 16, ∃ s : State, (WriteTaken w (DMA_CH_CTRL_EN ↑n) 1 s) ∧ (on s (DMA_CH_CTRL_BUSY_OFF ↑n) = false))
    ∧ (∃ w : Sys2Proof.Writer, ∃ n : Fin 16, ∃ s : State, (WriteTaken w (DMA_CH_CTRL_EN ↑n) 0 s) ∧ (dcState s ↑n ≠ dcACTIVE))
    ∧ (∃ n : Fin 16, ∃ moved : ℕ, ∃ ok : Bool, ∃ s : State, (s.dma.length = 16) ∧ ((dch s ↑n).abort = true))
    ∧ (∃ n : Fin 16, ∃ e : ℕ × ℕ × ℕ, ∃ ok : Bool, ∃ s : State, (s.dma.length = 16) ∧ ((dch s ↑n).words.isSome = true) ∧ ((dch s ↑n).ended = some e) ∧ (dcState s ↑n = dcACTIVE) ∧ ((dch s ↑n).abort = false) ∧ (e.1 ≠ dsOK) ∧ (e.1 < 16))
    ∧ (∃ n : Fin 16, ∃ moved : ℕ, ∃ s : State, (s.dma.length = 16) ∧ (dmaFetching s ↑n = true) ∧ (obAged s (↑n) 64000 = true) ∧ (evcOn s))
    ∧ (∃ n : Fin 16, ∃ moved : ℕ, ∃ d : DDesc, ∃ s : State, (s.dma.length = 16) ∧ (dmaReady s ↑n = some d) ∧ (obWaits s ↑n = true → obAged s (↑n) 64000 = true))
    ∧ (∃ s : State, (on s I.CYC_OUTDUE = true)) :=
  ⟨⟨.host, ⟨2, ⟨(ws (own ++ [(DMA_CH_CFG_RING 2, 1), (DMA_CH_CTRL_STATE 2, 1)])), by decide +kernel⟩⟩⟩,
   ⟨.host, ⟨2, ⟨(ws (own ++ [(DMA_CH_CFG_RING 2, 0), (DMA_CH_CTRL_STATE 2, 1), (DMA_CH_CHAIN_BASE 2 0, 0x80), (DMA_CHAINLIM_LIMIT, 1), (DMA_CH_CFG_REUSE 2, 1)])), by decide +kernel⟩⟩⟩,
   ⟨.host, ⟨2, ⟨(ws (own ++ [(DMA_CH_CFG_RING 2, 0), (DMA_CH_CTRL_STATE 2, 2), (DMA_CH_CTRL_PEND 2, 1)])), by decide +kernel⟩⟩⟩,
   ⟨.host, ⟨2, ⟨7, ⟨(ws (own ++ [(DMA_CH_CFG_RING 2, 1), (DMA_CH_CTRL_STATE 2, 1), (DMA_CH_RING_ENTRIES 2, 8)])), by decide +kernel⟩⟩⟩⟩,
   ⟨.host, ⟨2, ⟨8, ⟨(ws (own ++ [(DMA_CH_CFG_RING 2, 1), (DMA_CH_CTRL_STATE 2, 1), (DMA_CH_RING_ENTRIES 2, 8)])), by decide +kernel⟩⟩⟩⟩,
   ⟨.host, ⟨2, ⟨(ws (own ++ [(DMA_CH_CTRL_STATE 2, 2)])), by decide +kernel⟩⟩⟩,
   ⟨.host, ⟨2, ⟨(ws (own ++ [(DMA_CH_CTRL_STATE 2, 3), (DMA_STATUS_HALTED, 4)])), by decide +kernel⟩⟩⟩,
   ⟨.host, ⟨2, ⟨(ws (own ++ [(DMA_CH_CTRL_STATE 2, 2), (DMA_CH_CTRL_BUSY_OFF 2, 1)])), by decide +kernel⟩⟩⟩,
   ⟨.host, ⟨2, ⟨(ws (own ++ [(DMA_CH_CTRL_STATE 2, 0), (DMA_CH_CTRL_BUSY_OFF 2, 0), (DMA_CTRL_EN, 0)])), by decide +kernel⟩⟩⟩,
   ⟨.host, ⟨2, ⟨(ws (own ++ [(DMA_CH_CTRL_STATE 2, 3), (DMA_CH_CTRL_EN 2, 1), (DMA_CTRL_EN, 1)])), by decide +kernel⟩⟩⟩,
   ⟨2, ⟨9, ⟨true, ⟨(let s := ws (own ++ [(DMA_CH_CTRL_EN 2, 1), (DMA_CTRL_EN, 1)]); { s with dma := s.dma.set 2 { DmaCh.idle with abort := true, words := some [0x80000000, 16, 0x1003, 0, 0x1008, 0, 0, 0] } }), by decide +kernel⟩⟩⟩⟩,
   ⟨2, ⟨(6, 3, 9), ⟨false, ⟨(dma1 2 [0xE0000000, 16, 0x1003, 0, 0x1008, 0, 0, 0] (ws own) |> dset 2 (fun c => { c with ended := some (6, 3, 9) })), by decide +kernel⟩⟩⟩⟩,
   ⟨2, ⟨5, ⟨({ ws (own ++ [(DMA_CH_CTRL_STATE 2, 2), (TIM_SEC, 1)]) with dma := State.reset.dma.set 2 DmaCh.idle, outReads := [⟨2, none, 0, 0xC00000000, 32, 0, false, 0⟩] }), by decide +kernel⟩⟩⟩,
   ⟨2, ⟨5, ⟨(dDesc [0xE0000000, 16, 0x1003, 0, 0x1008, 0, 0, 0]), ⟨(dma1 2 [0xE0000000, 16, 0x1003, 0, 0x1008, 0, 0, 0] (ws own)), by decide +kernel⟩⟩⟩⟩,
   ⟨(ws [isl, (I.CYC_OUTDUE, 1), (DMA_CH_CFG_RING 2, 0), (DMA_CH_CFG_TRIG 2, 2), (DMA_CH_CTRL_STATE 2, 2)]), by decide +kernel⟩⟩

/-- Hypotheses of ErrorLogAndGleaner, clause by clause: each holds together somewhere. -/
theorem wit_ErrorLogAndGleaner :
    (∃ r : Report, ∃ l : List Report, ∃ s : State, (Sys2Proof.Inv s) ∧ (on s I.EVC_RELOAD = false) ∧ (s.evFifo = r :: l) ∧ (evcOn s) ∧ (rd s I.EVC_WRT ≤ upNow s) ∧ (s.evOpen.length < 32) ∧ (List.find? (identical r) s.evOpen = none) ∧ (r.crit = false) ∧ (rd s EVC_LOGSTAT_HEAD < 4096))
    ∧ (∃ r : Report, ∃ l : List Report, ∃ s : State, (Sys2Proof.Inv s) ∧ (on s I.EVC_RELOAD = false) ∧ (s.evFifo = r :: l) ∧ (evcOn s) ∧ (rd s I.EVC_WRT ≤ upNow s) ∧ (s.evOpen.length < 32) ∧ (List.find? (identical r) s.evOpen = none) ∧ (r.crit = true) ∧ (rd s EVC_LOGSTAT_CRITUSED < 255))
    ∧ (∃ r : Report, ∃ l : List Report, ∃ e : OpenEntry, ∃ s : State, (on s I.EVC_RELOAD = false) ∧ (s.evFifo = r :: l) ∧ (evcOn s) ∧ (rd s I.EVC_WRT ≤ upNow s) ∧ (s.evOpen = [e]) ∧ (identical r e = true) ∧ (e.rpt < 65534))
    ∧ (∃ e : OpenEntry, ∃ l : List OpenEntry, ∃ s : State, (Sys2Proof.Inv s) ∧ (s.evOpen = e :: l) ∧ (evcOn s) ∧ (rd s I.EVC_WRT ≤ upNow s) ∧ (10000000 ≤ e.rep.to (now s)))
    ∧ (∃ s : State, (evcOn s))
    ∧ (∃ w : Sys2Proof.Writer, ∃ s : State, (Sys2Proof.Inv s) ∧ (WriteTaken w EVC_CRITACK_ACK 1 s) ∧ (rd s EVC_LOGBASE_BASE = EVC_LOGBASE_BASE.rst) ∧ (rd s ACC_AUDHEAD_HEAD < 8192) ∧ (rd s EVC_LOGSTAT_CRITUSED ≤ 256))
    ∧ (∃ w : Sys2Proof.Writer, ∃ s : State, (WriteTaken w EVC_CRITACK_CLR 1 s))
    ∧ (∃ w : Sys2Proof.Writer, ∃ crit : Bool, ∃ detail : BitVec 48, ∃ s : State, (WriteTaken w EVC_FWLOG_DETAIL detail.toNat s) ∧ (s.evFifo.length < 56))
    ∧ (∃ s : State, (s.glnCopies.length = 2) ∧ (evcOn s) ∧ (600 ≤ rd s GLN_PERSIST_AGE))
    ∧ (∃ s : State, (s.glnCopies.length = 2) ∧ (evcOn s) ∧ ∃ w : Sys2Proof.Writer, (WriteTaken w GLN_PERSIST_GO 1 s))
    ∧ (∃ temp : ℤ, ∃ rail : ℕ, ∃ s : State, (10 ≤ rd s I.GLN_SMPAGE))
    ∧ (∃ w : Sys2Proof.Writer, ∃ s : State, (WriteTaken w GLN_UCLR_GO 1 s) ∧ (rd s I.ACC_AUDCOUNT < 8192))
    ∧ (∃ w : Sys2Proof.Writer, ∃ h : Fin 32, ∃ b : Fin 32, ∃ s : State, (WriteTaken w GLN_HADD_HIST (↑h) s) ∧ (16 ≤ ↑h))
    ∧ (∃ w : Sys2Proof.Writer, ∃ h : Fin 32, ∃ b : Fin 32, ∃ s : State, (WriteTaken w GLN_HADD_HIST (↑h) s) ∧ (↑h < 16)) :=
  ⟨⟨rp, ⟨[], ⟨({ ws (own ++ [(I.EVC_RELOAD, 0), (EVC_LOGSTAT_HEAD, 4095)]) with evFifo := [rp] }), by decide +kernel⟩⟩⟩,
   ⟨rpc, ⟨[rp], ⟨({ ws (own ++ [(I.EVC_RELOAD, 0), (EVC_LOGSTAT_CRITUSED, 254)]) with evFifo := [rpc, rp], evOpen := [oe] }), by decide +kernel⟩⟩⟩,
   ⟨rp, ⟨[rpc], ⟨oe, ⟨({ ws (own ++ [(I.EVC_RELOAD, 0)]) with evFifo := [rp, rpc], evOpen := [oe] }), by decide +kernel⟩⟩⟩⟩,
   ⟨oe, ⟨[{ oe with logseq := 13, place := 10 }], ⟨({ ws own with evOpen := [oe, { oe with logseq := 13, place := 10 }], subs := [(2, 100)] }), by decide +kernel⟩⟩⟩,
   ⟨({ ws (own ++ [(I.EVC_LATCHLOST, 4)]) with evLatch := [rp, rpc] }), by decide +kernel⟩,
   ⟨.host, ⟨(ws (own ++ [(EVC_LOGBASE_BASE, EVC_LOGBASE_BASE.rst), (ACC_AUDHEAD_HEAD, 8191), (EVC_LOGSTAT_CRITUSED, 3)])), by decide +kernel⟩⟩,
   ⟨.host, ⟨({ ws (own ++ [(EVC_LOGSTAT_CRITUSED, 3)]) with evOpen := [oe, { oe with inCrit := true, logseq := 13 }] }), by decide +kernel⟩⟩,
   ⟨(.firmware 0), ⟨true, ⟨0x123456789ABC, ⟨({ ws own with evFifo := List.replicate 55 rp }), by decide +kernel⟩⟩⟩⟩,
   ⟨(ws (own ++ [(GLN_PERSIST_AGE, 600)])), by decide +kernel⟩,
   ⟨(ws own), ⟨by decide +kernel, ⟨by decide +kernel, ⟨.host, by decide +kernel⟩⟩⟩⟩,
   ⟨(-20), ⟨5000, ⟨(ws (own ++ [(I.GLN_SMPAGE, 10)])), by decide +kernel⟩⟩⟩,
   ⟨.host, ⟨(ws (own ++ [(I.ACC_AUDCOUNT, 3), (GLN_CNT_COUNT 255, 4), (GLN_HIST_BIN 31 31, 5), (GLN_CNT_COUNT 127, 4)])), by decide +kernel⟩⟩,
   ⟨.host, ⟨31, ⟨30, ⟨(ws own), by decide +kernel⟩⟩⟩⟩,
   ⟨.host, ⟨15, ⟨30, ⟨(ws own), by decide +kernel⟩⟩⟩⟩⟩

/-- Hypotheses of JournalAndLock, clause by clause: each holds together somewhere. -/
theorem wit_JournalAndLock :
    (∃ r : JRec, ∃ l : List JRec, ∃ s : State, (s.journalBuf = r :: l) ∧ (recsBytes s.journal + recBytes r ≤ 4194304))
    ∧ (∃ r : JRec, ∃ l : List JRec, ∃ s : State, (s.journalBuf = r :: l) ∧ (4194304 < recsBytes s.journal + recBytes r) ∧ (evcOn s))
    ∧ (∃ s : State, (on s GRN_STATUS_REWRITE = true) ∧ (evcOn s))
    ∧ (∃ w : Sys2Proof.Writer, ∃ s : State, (WriteTaken w ACC_LOCK 1 s) ∧ (evcOn s))
    ∧ (∃ w : Sys2Proof.Writer, ∃ s : State, (WriteTaken w ACC_LOCK_UNLOCK 1 s) ∧ (evcOn s) ∧ (ctlState s = stSTOP))
    ∧ (∃ w : Sys2Proof.Writer, ∃ s : State, (WriteTaken w ACC_LOCK_UNLOCK 1 s) ∧ (evcOn s) ∧ (ctlState s ≠ stSTOP)) :=
  ⟨⟨jr 4, ⟨[jr 5], ⟨({ ws own with journalBuf := [jr 4, jr 5], journal := [jr 3] }), by decide +kernel⟩⟩⟩,
   ⟨jr 4, ⟨[jr 5], ⟨({ ws own with journalBuf := [jr 4, jr 5], journal := List.replicate 40330 (jr 3) }), by decide +kernel⟩⟩⟩,
   ⟨({ ws (own ++ [(GRN_STATUS_REWRITE, 1), (I.GRN_SBNEXT, 3)]) with journal := [jr 3, jr 4] }), by decide +kernel⟩,
   ⟨.host, ⟨(ws (own ++ [(I.BOOTED, 1)])), by decide +kernel⟩⟩,
   ⟨.host, ⟨(ws (own ++ [(CYC_STATE, 0), (ACC_LOCK_LOCKED, 1)])), by decide +kernel⟩⟩,
   ⟨.host, ⟨(ws (own ++ [(CYC_STATE, 1), (ACC_LOCK_LOCKED, 1)])), by decide +kernel⟩⟩⟩

/-- Hypotheses of Update, clause by clause: each holds together somewhere. -/
theorem wit_Update :
    (∃ ref : CmdRef, ∃ kind : Fin 4, ∃ len : BitVec 32, ∃ s : State, (MayStart ref 64 s) ∧ (evcOn s) ∧ (stageBeginCheck s (↑ref.session) (↑kind) len.toNat = cOK))
    ∧ (∃ ref : CmdRef, ∃ kind : Fin 4, ∃ len : BitVec 32, ∃ s : State, (MayStart ref 64 s) ∧ (evcOn s) ∧ (stageBeginCheck s (↑ref.session) (↑kind) len.toNat = cSTAGINGBUSY))
    ∧ (∃ ref : CmdRef, ∃ off : BitVec 32, ∃ bs : List Byte, ∃ s : State, (MayStart ref 65 s) ∧ (stageHolder s ↑ref.session = true) ∧ (off.toNat + bs.length ≤ rd s I.UPD_LEN) ∧ (cmdBytes (markPassed ref s) ref (some bs) = some bs))
    ∧ (∃ ref : CmdRef, ∃ off : BitVec 32, ∃ n : ℕ, ∃ buf : Option (List Byte), ∃ s : State, (MayStart ref 65 s) ∧ (stageHolder s ↑ref.session = false))
    ∧ (∃ ref : CmdRef, ∃ off : BitVec 32, ∃ n : ℕ, ∃ buf : Option (List Byte), ∃ s : State, (MayStart ref 65 s) ∧ (stageHolder s ↑ref.session = true) ∧ (rd s I.UPD_LEN < off.toNat + n))
    ∧ (∃ ref : CmdRef, ∃ obj : StagedObj, ∃ s : State, (MayStart ref 66 s) ∧ (stageHolder s ↑ref.session = true) ∧ (evcOn s) ∧ (stagedCheck s obj = cOK))
    ∧ (∃ ref : CmdRef, ∃ obj : StagedObj, ∃ s : State, (MayStart ref 66 s) ∧ (stageHolder s ↑ref.session = true) ∧ (evcOn s) ∧ (stagedCheck s obj ≠ cOK))
    ∧ (∃ ref : CmdRef, ∃ obj : StagedObj, ∃ s : State, (MayStart ref 66 s) ∧ (stageHolder s ↑ref.session = false) ∧ (evcOn s))
    ∧ (∃ s : State, (on s UPD_STATUS_LOCKED = true) ∧ (rd s I.UPD_HOLDT + 600 * nsPerS ≤ upNow s) ∧ (evcOn s))
    ∧ (∃ ref : CmdRef, ∃ kind : Fin 4, ∃ revert : Bool, ∃ restart : Bool, ∃ s : State, (MayStart ref 67 s) ∧ (evcOn s) ∧ (activateCheck s (↑ref.session) (↑kind) revert = cOK) ∧ (↑kind ≠ 1) ∧ (on s I.ROM = false) ∧ (ctlState s = stRUN))
    ∧ (∃ ref : CmdRef, ∃ kind : Fin 4, ∃ revert : Bool, ∃ restart : Bool, ∃ s : State, (MayStart ref 67 s) ∧ (evcOn s) ∧ ∃ ok : Bool, ∃ c : CredSet, (activateCheck s (↑ref.session) (↑kind) revert = cOK) ∧ (↑kind = 1) ∧ (s.staged = some (StagedObj.creds ok c)))
    ∧ (∃ ref : CmdRef, ∃ kind : Fin 4, ∃ revert : Bool, ∃ restart : Bool, ∃ s : State, (MayStart ref 67 s) ∧ (evcOn s) ∧ (activateCheck s (↑ref.session) (↑kind) revert ≠ cOK))
    ∧ (∃ ref : CmdRef, ∃ s : State, (MayStart ref 68 s) ∧ (activateRole s ↑ref.session = true) ∧ (evcOn s) ∧ (on s UPD_STATUS_TRIAL = true))
    ∧ (∃ ref : CmdRef, ∃ s : State, (MayStart ref 68 s) ∧ (activateRole s ↑ref.session = true) ∧ (evcOn s) ∧ (on s UPD_STATUS_TRIAL = false)) :=
  ⟨⟨ref0, ⟨1, ⟨0x20000000, ⟨(ws upd0), by decide +kernel⟩⟩⟩⟩,
   ⟨ref0, ⟨2, ⟨5, ⟨(ws (upd0 ++ [(UPD_STATUS_LOCKSESS, 3)])), by decide +kernel⟩⟩⟩⟩,
   ⟨ref0, ⟨0x100, ⟨[1, 2, 3], ⟨({ ws (upd0 ++ [(I.UPD_LEN, 0x103), (HBR_LINK_BME, 1)]) with stagedRanges := [(0, 0x50), (0x180, 0x200)] }), by decide +kernel⟩⟩⟩⟩,
   ⟨ref0, ⟨0x100, ⟨3, ⟨none, ⟨(ws (upd0 ++ [(I.UPD_LEN, 0x103), (UPD_STATUS_LOCKSESS, 4)])), by decide +kernel⟩⟩⟩⟩⟩,
   ⟨ref0, ⟨0x100, ⟨4, ⟨(some [1, 2, 3, 4]), ⟨(ws (upd0 ++ [(I.UPD_LEN, 0x103)])), by decide +kernel⟩⟩⟩⟩⟩,
   ⟨ref0, ⟨(.image img1), ⟨(ws (upd0 ++ [(I.UPD_LEN, 0x200), (UPD_STAGED_BYTES, 0x200), (UPD_STATUS_KIND, 0), (UPD_SECMIN, 5), (UPD_SLOTS_STAGE, 2)])), by decide +kernel⟩⟩⟩,
   ⟨ref0, ⟨(.settings ⟨false, 1, 0, [], []⟩), ⟨(ws (upd0 ++ [(I.UPD_LEN, 0x200), (UPD_STAGED_BYTES, 0x200), (UPD_STATUS_KIND, 2)])), by decide +kernel⟩⟩⟩,
   ⟨ref0, ⟨(.image img1), ⟨(ws (upd0 ++ [(UPD_STATUS_LOCKED, 0)])), by decide +kernel⟩⟩⟩,
   ⟨(ws (upd0 ++ [(TIM_SEC, 600)])), by decide +kernel⟩,
   ⟨ref0, ⟨0, ⟨false, ⟨true, ⟨(ws (upd0 ++ [(UPD_STATUS_ACTIVATING, 0), (UPD_STATUS_STAGE, 2), (UPD_STATUS_KIND, 0), (PAIR_STATUS_STATE, 0), (CYC_STATE, 1)])), by decide +kernel⟩⟩⟩⟩⟩,
   ⟨ref0, ⟨1, ⟨false, ⟨true, ⟨({ ws (upd0 ++ [(UPD_STATUS_ACTIVATING, 0), (UPD_STATUS_STAGE, 2), (UPD_STATUS_KIND, 1), (PAIR_STATUS_STATE, 0), (CYC_STATE, 1)]) with staged := some (.creds true ⟨[], [], 3⟩) }), ⟨by decide +kernel, ⟨by decide +kernel, ⟨true, ⟨⟨[], [], 3⟩, by decide +kernel⟩⟩⟩⟩⟩⟩⟩⟩⟩,
   ⟨ref0, ⟨0, ⟨false, ⟨true, ⟨(ws (upd0 ++ [(UPD_STATUS_ACTIVATING, 1), (UPD_STATUS_STAGE, 2), (UPD_STATUS_KIND, 0)])), by decide +kernel⟩⟩⟩⟩⟩,
   ⟨ref0, ⟨(ws (upd0 ++ [(UPD_STATUS_TRIAL, 1)])), by decide +kernel⟩⟩,
   ⟨ref0, ⟨(ws (upd0 ++ [(UPD_STATUS_TRIAL, 0)])), by decide +kernel⟩⟩⟩

/-- Hypotheses of ControllerCommands, clause by clause: each holds together somewhere. -/
theorem wit_ControllerCommands :
    (∃ p : (CmdRef → Instr) × ℕ, (p ∈ [(Instr.start, 1), (Instr.stop, 2), (Instr.halt, 3), (Instr.step, 4), (Instr.resume, 5), (Instr.ack, 6)]) ∧ ∃ ref : CmdRef, ∃ s : State, (MayStart ref (cycOpcode p.2) s) ∧ (cycRefusal p.2 (↑ref.session) s ≠ cOK))
    ∧ (∃ ref : CmdRef, ∃ s : State, (MayStart ref 32 s) ∧ (cycRefusal 1 (↑ref.session) s = cOK) ∧ (pwState s = pwRUN) ∧ (on s PWR_STATE_TRANS = false) ∧ (on s PWR_SUPPLY_HOLDUP_RDY = true))
    ∧ (∃ p : (CmdRef → Instr) × ℕ, (p ∈ [(Instr.halt, 3), (Instr.step, 4), (Instr.resume, 5)]) ∧ ∃ ref : CmdRef, ∃ s : State, (MayStart ref (cycOpcode p.2) s) ∧ (cycRefusal p.2 (↑ref.session) s = cOK))
    ∧ (∃ ref : CmdRef, ∃ s : State, (MayStart ref 33 s) ∧ (cycRefusal 2 (↑ref.session) s = cOK) ∧ (ctlState s = stRUN))
    ∧ (∃ ref : CmdRef, ∃ s : State, (MayStart ref 33 s) ∧ (cycRefusal 2 (↑ref.session) s = cOK) ∧ (ctlState s = stHALT) ∧ (on s I.CYC_STEPPING = false) ∧ (on s I.UPD_WARM = false))
    ∧ (∃ ref : CmdRef, ∃ s : State, (MayStart ref 33 s) ∧ (cycRefusal 2 (↑ref.session) s = cOK) ∧ (ctlState s = stSTOP))
    ∧ (∃ ref : CmdRef, ∃ s : State, (MayStart ref 37 s) ∧ (cycRefusal 6 (↑ref.session) s = cOK))
    ∧ (∃ s : State, (ctlState s ≠ stSTOP))
    ∧ (∃ s : State, (ctlState s = stSTOP) ∧ (pairMayRun s = true) ∧ (on s CYC_STATE_RSTBLOCK = true))
    ∧ (∃ s : State, (ctlState s = stSTOP) ∧ (pairMayRun s = true) ∧ (on s CYC_STATE_RSTBLOCK = false) ∧ (on s I.PWR_OCXOFAIL = false) ∧ (jlaAlignBad s = true))
    ∧ (∃ s : State, (ctlState s = stSTOP) ∧ (pairMayRun s = true) ∧ (on s CYC_STATE_RSTBLOCK = false) ∧ (on s I.PWR_OCXOFAIL = false) ∧ (jlaAlignBad s = false) ∧ (rd s CYC_CHGID = 0))
    ∧ (∃ s : State, (ctlState s = stSTOP) ∧ (pairMayRun s = true) ∧ (on s CYC_STATE_RSTBLOCK = false) ∧ (on s I.PWR_OCXOFAIL = false) ∧ (jlaAlignBad s = false) ∧ (rd s CYC_CHGID ≠ 0) ∧ (on s I.BOOTED = true)) :=
  ⟨⟨(Instr.start, 1), ⟨by simp, ⟨ref0, ⟨(ws (okSt ++ [(CYC_STATE, 2)])), by decide +kernel⟩⟩⟩⟩,
   ⟨ref0, ⟨(ws okSt), by decide +kernel⟩⟩,
   ⟨(Instr.halt, 3), ⟨by simp, ⟨ref0, ⟨(ws (okSt ++ [(CYC_STATE, 1)])), by decide +kernel⟩⟩⟩⟩,
   ⟨ref0, ⟨(ws (okSt ++ [(CYC_STATE, 1)])), by decide +kernel⟩⟩,
   ⟨ref0, ⟨(ws (okSt ++ [(CYC_STATE, 2), (I.CYC_STEPPING, 0), (I.UPD_WARM, 0)])), by decide +kernel⟩⟩,
   ⟨ref0, ⟨(ws (okSt ++ [(CYC_STATE, 0), (I.CYC_PENDCMD, 1)])), by decide +kernel⟩⟩,
   ⟨ref0, ⟨(ws (okSt ++ [(CYC_STATE, 3)])), by decide +kernel⟩⟩,
   ⟨(ws (okSt ++ [(CYC_STATE, 3)])), by decide +kernel⟩,
   ⟨(ws (okSt ++ [(CYC_STATE, 0), (CYC_STATE_RSTBLOCK, 1)])), by decide +kernel⟩,
   ⟨(ws (okSt ++ [(CYC_STATE, 0), (JLA_CTRL_EN 0, 1), (CYC_PERIOD, 777)])), by decide +kernel⟩,
   ⟨(ws (okSt ++ [(CYC_STATE, 0), (CYC_CHGID, 0)])), by decide +kernel⟩,
   ⟨(ws (okSt ++ [(CYC_STATE, 0)])), by decide +kernel⟩⟩

/-- Hypotheses of ForcesAndSettings, clause by clause: each holds together somewhere. -/
theorem wit_ForcesAndSettings :
    (∃ ref : CmdRef, ∃ space : Fin 8, ∃ index : Fin 2097152, ∃ value : BitVec 32, ∃ s : State, (Permitted ref 48 s) ∧ (forceWaits s = true ∨ s.forcePend = []) ∧ ∃ i : ℕ, (evcOn s) ∧ (forceCheck (↑space) (↑index) s = 0) ∧ (forceWaits s = false) ∧ (((forceFind s ↑space ↑index).orElse fun x => forceFree s) = some i))
    ∧ (∃ ref : CmdRef, ∃ space : Fin 8, ∃ index : Fin 2097152, ∃ value : BitVec 32, ∃ s : State, (Permitted ref 48 s) ∧ (forceWaits s = true ∨ s.forcePend = []) ∧ (forceCheck (↑space) (↑index) s = 0) ∧ (forceWaits s = true))
    ∧ (∃ ref : CmdRef, ∃ space : Fin 8, ∃ index : Fin 2097152, ∃ value : BitVec 32, ∃ s : State, (Permitted ref 48 s) ∧ (forceWaits s = true ∨ s.forcePend = []) ∧ (forceCheck (↑space) (↑index) s ≠ 0))
    ∧ (∃ ref : CmdRef, ∃ space : Fin 8, ∃ index : Fin 2097152, ∃ i : ℕ, ∃ s : State, (Permitted ref 49 s) ∧ (evcOn s) ∧ (forceWaits s = false) ∧ (s.forcePend = []) ∧ (forceFind s ↑space ↑index = some i))
    ∧ (∃ w : Sys2Proof.Writer, ∃ v : BitVec 20, ∃ s : State, (WriteTaken w CYC_PERIOD v.toNat s) ∧ (ctlState s = stSTOP))
    ∧ (∃ w : Sys2Proof.Writer, ∃ v : BitVec 20, ∃ s : State, (WriteTaken w CYC_PERIOD v.toNat s) ∧ (ctlState s ≠ stSTOP))
    ∧ (∃ w : Sys2Proof.Writer, ∃ v : BitVec 30, ∃ s : State, (WriteTaken w CYC_PHASE v.toNat s) ∧ (ctlState s = stSTOP))
    ∧ (∃ w : Sys2Proof.Writer, ∃ v : BitVec 30, ∃ s : State, (WriteTaken w CYC_PHASE v.toNat s) ∧ (ctlState s ≠ stSTOP))
    ∧ (∃ w : Sys2Proof.Writer, ∃ s : State, (WriteTaken w CKP_WORST_CLR 1 s))
    ∧ (∃ s : State, (autoReady s = true) ∧ (mayAutoStart s = true) ∧ (pwState s = pwRUN) ∧ (on s PWR_STATE_TRANS = false)) :=
  ⟨⟨ref0, ⟨2, ⟨63, ⟨5, ⟨(ws (okSt ++ [(IMG_SIZE1_MPL, 1)])), ⟨by decide +kernel, ⟨by decide +kernel, ⟨0, by decide +kernel⟩⟩⟩⟩⟩⟩⟩⟩,
   ⟨ref0, ⟨1, ⟨63, ⟨5, ⟨(ws (okSt ++ [(IMG_SIZE0_QPL, 1), (CYC_STATE, 1)])), by decide +kernel⟩⟩⟩⟩⟩,
   ⟨ref0, ⟨3, ⟨63, ⟨5, ⟨(ws (okSt ++ [(CYC_STATE, 1)])), by decide +kernel⟩⟩⟩⟩⟩,
   ⟨ref0, ⟨2, ⟨63, ⟨0, ⟨(ws (okSt ++ [(IMG_SIZE1_MPL, 1), (CYC_FORCE_VALID 0, 1), (CYC_FORCE_SPACE 0, 2), (CYC_FORCE_INDEX 0, 63)])), by decide +kernel⟩⟩⟩⟩⟩,
   ⟨.host, ⟨50, ⟨(ws (okSt ++ [(CYC_STATE, 0), (CYC_PHASE, 123456)])), by decide +kernel⟩⟩⟩,
   ⟨.host, ⟨50, ⟨(ws (okSt ++ [(CYC_STATE, 1)])), by decide +kernel⟩⟩⟩,
   ⟨.host, ⟨5000000, ⟨(ws (okSt ++ [(CYC_STATE, 0)])), by decide +kernel⟩⟩⟩,
   ⟨.host, ⟨50, ⟨(ws (okSt ++ [(CYC_STATE, 1)])), by decide +kernel⟩⟩⟩,
   ⟨.host, ⟨(ws okSt), by decide +kernel⟩⟩,
   ⟨(ws (okSt ++ [(PWR_CTRL_AUTOSTART, 1), (GRN_STATUS_DEFAULTS, 0), (I.PWR_NOAUTO, 0), (PWR_CTRL_TIMEQ, 0), (PAIR_STATUS_POS, 3), (I.CYC_PENDCMD, 0)])), by decide +kernel⟩⟩

/-- Hypotheses of OnlineChange, clause by clause: each holds together somewhere. -/
theorem wit_OnlineChange :
    (∃ ref : CmdRef, ∃ c : ChangeSet, ∃ s : State, (MayStart ref 50 s) ∧ (roleOk s (↑ref.session) 50 = true) ∧ (pairStandby s = false) ∧ (bufReach s ref = true) ∧ (loadCheck c s = 0))
    ∧ (∃ ref : CmdRef, ∃ c : ChangeSet, ∃ s : State, (MayStart ref 50 s) ∧ (roleOk s (↑ref.session) 50 = true) ∧ (pairStandby s = false) ∧ (bufReach s ref = true) ∧ (loadCheck c s ≠ 0) ∧ (evcOn s))
    ∧ (∃ ref : CmdRef, ∃ c : ChangeSet, ∃ s : State, (MayStart ref 50 s) ∧ (roleOk s (↑ref.session) 50 = true) ∧ (pairStandby s = false) ∧ (bufReach s ref = true))
    ∧ (∃ c : ChangeSet, ∃ s : State, (s.chg = some c) ∧ (rd s CYC_CHG_PHASE = 1) ∧ (loaderRuns s = true) ∧ (pairedSync s = false) ∧ (evcOn s))
    ∧ (∃ ref : CmdRef, ∃ verifies : Bool, ∃ s : State, (MayStart ref 51 s) ∧ (roleOk s (↑ref.session) 51 = true) ∧ (pairStandby s = false) ∧ (rd s CYC_CHG_PHASE = 2) ∧ (ctlState s = stRUN))
    ∧ (∃ ref : CmdRef, ∃ verifies : Bool, ∃ s : State, (MayStart ref 51 s) ∧ (roleOk s (↑ref.session) 51 = true) ∧ (pairStandby s = false) ∧ (rd s CYC_CHG_PHASE = 2) ∧ ∃ c : ChangeSet, (ctlState s = stSTOP) ∧ (s.chg = some c) ∧ (evcOn s)) :=
  ⟨⟨ref0, ⟨chs, ⟨(ws (okSt ++ [(CYC_CHG_PHASE, 0), (SLC_MODE_REQPEND, 0), (SLC_READMIT_PHASE, 0)])), by decide +kernel⟩⟩⟩,
   ⟨ref0, ⟨chs, ⟨(ws (okSt ++ [(CYC_CHG_PHASE, 0), (SLC_MODE_REQPEND, 0), (SLC_READMIT_PHASE, 0), (CYC_CHGID, 6)])), by decide +kernel⟩⟩⟩,
   ⟨ref0, ⟨chs, ⟨(ws okSt), by decide +kernel⟩⟩⟩,
   ⟨chs, ⟨({ ws (okSt ++ [(CYC_CHG_PHASE, 1)]) with chg := some chs, waiting := [(0x32, ref0), (0x33, ref0)] }), by decide +kernel⟩⟩,
   ⟨ref0, ⟨true, ⟨(ws (okSt ++ [(CYC_CHG_PHASE, 2), (CYC_STATE, 1)])), by decide +kernel⟩⟩⟩,
   ⟨ref0, ⟨true, ⟨({ ws (okSt ++ [(CYC_CHG_PHASE, 2), (CYC_STATE, 0)]) with chg := some chs }), ⟨by decide +kernel, ⟨by decide +kernel, ⟨by decide +kernel, ⟨by decide +kernel, ⟨chs, by decide +kernel⟩⟩⟩⟩⟩⟩⟩⟩⟩

/-- Hypotheses of CycleStart, clause by clause: each holds together somewhere. -/
theorem wit_CycleStart :
    (∃ s : State, (on s I.HELD = false) ∧ (on s I.BOOTED = true) ∧ (prState s ≠ prPROMOTING) ∧ (ctlState s = stRUN) ∧ (on s I.CYC_DLDUE = false) ∧ (rd s I.CYC_PENDCMD = 0) ∧ (rd s I.CYC_TMIN ≤ nextT0 s) ∧ ((solo s && on s (I.SLC_STOPPED 0)) = false))
    ∧ (∃ s : State, (on s I.HELD = false) ∧ (on s I.BOOTED = true) ∧ (prState s ≠ prPROMOTING) ∧ (on s I.CYC_DLDUE = false) ∧ (rd s I.CYC_PENDCMD = 1) ∧ (startDue s = true) ∧ ((solo s && on s (I.SLC_STOPPED 0)) = false))
    ∧ (∃ s : State, (on s TIM_STATUS_FAIL = false) ∧ (evcOn s))
    ∧ (∃ late : Bool, ∃ s : State, (on s I.CYC_IN = true) ∧ (on s I.CYC_INRUN = false) ∧ (newT0 s + rd s TIM_TRIG_DELAY ≤ now s) ∧ (∀ c < 4, bufferClosed s c = true) ∧ (evcOn s))
    ∧ (∃ s : State, (on s I.CYC_IN = true) ∧ (on s I.CYC_INRUN = true) ∧ (on s I.CYC_WAITPREV = false) ∧ (dmaInDone s = true) ∧ (rd s I.CYC_PH = 0) ∧ ((solo s && on s (I.SLC_STOPPED 0)) = false) ∧ ((nextStage s 0).isSome = true))
    ∧ (∃ s : State, (on s I.CYC_IN = true) ∧ (on s I.CYC_INRUN = true) ∧ (on s I.CYC_WAITPREV = false) ∧ (dmaInDone s = true) ∧ (rd s I.CYC_PH ≠ 0))
    ∧ (∃ s : State, (rd s I.CYC_PH = 1) ∧ (stageEnded s = true) ∧ ∃ m : ℕ, (nextStage s (rd s CYC_STATUS_STAGE + 1) = some m))
    ∧ (∃ s : State, (rd s I.CYC_PH = 1) ∧ (stageEnded s = true) ∧ (nextStage s (rd s CYC_STATUS_STAGE + 1) = none) ∧ (safetyStage s (rd s CYC_STATUS_STAGE) = false))
    ∧ (∃ c : Fin 4, ∃ status : BitVec 8, ∃ s : State, (rd s I.CYC_PH = 1) ∧ (on s (I.CORE_TASK ↑c) = true) ∧ (s.stalled = []) ∧ (status = 0))
    ∧ (∃ c : Fin 4, ∃ status : BitVec 8, ∃ s : State, (rd s I.CYC_PH = 1) ∧ (on s (I.CORE_TASK ↑c) = true) ∧ (s.stalled = []) ∧ (status ≠ 0) ∧ (evcOn s)) :=
  ⟨⟨(ws (stg ++ [(I.CYC_DLDUE, 0), (I.CYC_PENDCMD, 0), (I.CYC_TMIN, 0), (CYC_PERIOD, 1000)])), by decide +kernel⟩,
   ⟨({ ws (okSt ++ [(I.HELD, 0), (I.CYC_DLDUE, 0), (I.CYC_PENDCMD, 1), (I.CYC_PENDDUE, 0), (I.CYC_PH, 0), (CYC_CTRL_BUSY_OFF, 0)]) with waiting := [(0x20, ref0)] }), by decide +kernel⟩,
   ⟨(ws (stg ++ [(TIM_STATUS_FAIL, 0)])), by decide +kernel⟩,
   ⟨false, ⟨(ws (stg ++ [(I.CYC_IN, 1), (I.CYC_INRUN, 0), (TIM_SEC, 1)])), by decide +kernel⟩⟩,
   ⟨({ ws (stg ++ [(I.CYC_IN, 1), (I.CYC_INRUN, 1), (I.CYC_WAITPREV, 0), (I.CYC_PH, 0), (SLC_MODE, 0)]) with undo := [⟨1, 0, true, []⟩], regq := [⟨.userCore, 0, 4, 0⟩] }), by decide +kernel⟩,
   ⟨({ ws (stg ++ [(I.CYC_IN, 1), (I.CYC_INRUN, 1), (I.CYC_WAITPREV, 0), (I.CYC_PH, 3), (SLC_MODE, 0)]) with undo := [⟨1, 0, true, []⟩] }), by decide +kernel⟩,
   ⟨(ws (stg ++ [(I.CYC_PH, 1), (I.CYC_SOLVDONE, 1), (I.CORE_TASK 0, 0), (I.CORE_TASK 1, 0), (I.CORE_TASK 2, 0), (I.CORE_TASK 3, 0), (CYC_STATUS_STAGE, 3)])), ⟨by decide +kernel, ⟨by decide +kernel, ⟨4, by decide +kernel⟩⟩⟩⟩,
   ⟨(ws (stg ++ [(I.CYC_PH, 1), (I.CYC_SOLVDONE, 1), (I.CORE_TASK 0, 0), (I.CORE_TASK 1, 0), (I.CORE_TASK 2, 0), (I.CORE_TASK 3, 0), (CYC_STATUS_STAGE, 31), (CYC_STAGE_CORES 0 31, 0)])), by decide +kernel⟩,
   ⟨3, ⟨0, ⟨(ws (stg ++ [(I.CYC_PH, 1), (I.CORE_TASK 3, 1)])), by decide +kernel⟩⟩⟩,
   ⟨3, ⟨255, ⟨(ws (stg ++ [(I.CYC_PH, 1), (I.CORE_TASK 3, 1)])), by decide +kernel⟩⟩⟩⟩

/-- Hypotheses of VerdictAndCommit, clause by clause: each holds together somewhere. -/
theorem wit_VerdictAndCommit :
    (∃ o : WindowObs, ∃ s : State, (rd s I.CYC_PH = 2) ∧ (on s I.CKP_VREQ = true) ∧ (WindowClean s o) ∧ (on s I.CKP_PROGFAULT = false))
    ∧ (∃ o : WindowObs, ∃ s : State, (rd s I.CYC_PH = 2) ∧ (on s I.CKP_VREQ = true) ∧ (WindowClean s o) ∧ (on s I.CKP_PROGFAULT = true) ∧ (on s CKP_STATUS_NONRB = false) ∧ (evcOn s))
    ∧ (∃ s : State, (rd s I.CYC_PH = 4) ∧ (on s I.CYC_WAITPREV = false) ∧ (on s I.UPD_WARM = false) ∧ (s.forcePend = []) ∧ (rd s I.CYC_CAUSE = 0) ∧ (mayReexecute s = true) ∧ (on s I.CYC_LATE = false) ∧ ((solo s && on s (I.SLC_STOPPED 0)) = false) ∧ ((nextStage s 0).isSome = true) ∧ ∃ e : LogEntry, (Sys2Proof.Inv s) ∧ (s.undo = [e]) ∧ (e.valid = true) ∧ (e.seqlo = (rd s CKP_SEQ + 1) % 65536))
    ∧ (∃ s : State, (rd s I.CYC_PH = 4) ∧ (on s I.CYC_WAITPREV = false) ∧ (on s I.UPD_WARM = false) ∧ (s.forcePend = []) ∧ (rd s I.CYC_CAUSE = 4) ∧ (ctlState s = stRUN) ∧ (rd s I.CYC_PENDCMD = 0) ∧ (rd s CKP_STATUS_FAILCOUNT + 1 < rd s CKP_CTRL_FAILLIM))
    ∧ (∃ s : State, (rd s I.CYC_PH = 3) ∧ (s.regq = []) ∧ (on s I.CYC_WAITPREV = false) ∧ (on s I.UPD_WARM = false))
    ∧ (∃ s : State, (Sys2Proof.Inv s) ∧ (∀ l ∈ s.qDirty, l < 512)) :=
  ⟨⟨⟨[aA, aA, aA], 0, 0⟩, ⟨(ws (stg ++ [(I.CYC_PH, 2), (I.CKP_VREQ, 1), (SLC_MODE_PART, 7), (I.CKP_PROGFAULT, 0), (SLC_READMIT_PHASE, 0)])), by decide +kernel⟩⟩,
   ⟨⟨[aA, aA, aA], 0, 0⟩, ⟨({ ws (stg ++ [(I.CYC_PH, 2), (I.CKP_VREQ, 1), (SLC_MODE_PART, 7), (I.CKP_PROGFAULT, 1), (CKP_STATUS_NONRB, 0), (SLC_READMIT_PHASE, 0)]) with qDirty := [3], sol := sol0 }), by decide +kernel⟩⟩,
   ⟨({ ws (stg ++ [(I.CYC_PH, 4), (I.CYC_WAITPREV, 0), (I.UPD_WARM, 0), (I.CYC_CAUSE, 0), (I.CYC_REEX, 0), (CKP_CTRL_MAXREEXEC, 1), (CKP_BUDGET, 0), (I.CYC_LATE, 0), (CKP_SEQ, 5)]) with undo := [⟨6, 0x1000, true, [1, 2, 3]⟩] }), ⟨by decide +kernel, ⟨by decide +kernel, ⟨by decide +kernel, ⟨by decide +kernel, ⟨by decide +kernel, ⟨by decide +kernel, ⟨by decide +kernel, ⟨by decide +kernel, ⟨by decide +kernel, ⟨⟨6, 0x1000, true, [1, 2, 3]⟩, by decide +kernel⟩⟩⟩⟩⟩⟩⟩⟩⟩⟩⟩,
   ⟨(ws (stg ++ [(I.CYC_PH, 4), (I.CYC_WAITPREV, 0), (I.UPD_WARM, 0), (I.CYC_CAUSE, 4), (I.CYC_PENDCMD, 0), (CKP_STATUS_FAILCOUNT, 1), (CKP_CTRL_FAILLIM, 3)])), by decide +kernel⟩,
   ⟨({ ws (stg ++ [(I.CYC_PH, 3), (I.CYC_WAITPREV, 0), (I.UPD_WARM, 0)]) with qDirty := [3], undo := [⟨1, 0, true, []⟩] }), by decide +kernel⟩,
   ⟨({ ws stg with qDirty := [3, 511, 3], mem := [(0x10200080C1, 5), (0x10203080C7, 5)] }), by decide +kernel⟩⟩

/-- Hypotheses of Overruns, clause by clause: each holds together somewhere. -/
theorem wit_Overruns :
    (∃ s : State, (on s I.CYC_DLDUE = true) ∧ (on s I.CYC_IN = false) ∧ (rd s I.CYC_PH = 1) ∧ (on s CKP_STATUS_NONRB = false) ∧ (evcOn s))
    ∧ (∃ s : State, (on s I.CYC_DLDUE = true) ∧ (on s I.CYC_IN = false) ∧ (2 ≤ rd s I.CYC_PH))
    ∧ (∃ s : State, (on s I.CYC_DLDUE = true) ∧ (on s I.CYC_IN = false) ∧ (rd s I.CYC_PH = 0))
    ∧ (∃ s : State, (on s I.CYC_LATE = true) ∧ (rd s I.CYC_PH = 3) ∧ (ctlState s = stRUN) ∧ (on s I.UPD_WARM = false) ∧ (evcOn s)) :=
  ⟨⟨(ws (stg ++ [(I.CYC_DLDUE, 1), (I.CYC_IN, 0), (I.CYC_PH, 1), (CKP_STATUS_NONRB, 0)])), by decide +kernel⟩,
   ⟨(ws (stg ++ [(I.CYC_DLDUE, 1), (I.CYC_IN, 0), (I.CYC_PH, 3)])), by decide +kernel⟩,
   ⟨(ws (stg ++ [(I.CYC_DLDUE, 1), (I.CYC_IN, 0), (I.CYC_PH, 0)])), by decide +kernel⟩,
   ⟨(ws (stg ++ [(I.CYC_LATE, 1), (I.CYC_PH, 3), (I.UPD_WARM, 0)])), by decide +kernel⟩⟩

/-- Hypotheses of Divergences, clause by clause: each holds together somewhere. -/
theorem wit_Divergences :
    (∃ o : WindowObs, ∃ s : State, (WindowClean s o))
    ∧ (∃ o : WindowObs, ∃ k : ℕ, ∃ src : ℕ, ∃ s : State, (k < 3) ∧ (windowVote s o = Vote.minority k src) ∧ (o.rails = 0) ∧ (faultedSolvers s o = 0) ∧ (∀ j < 3, probationDiff s o j = 0) ∧ (rd s I.CYC_PH ≠ 3) ∧ (evcOn s))
    ∧ (∃ o : WindowObs, ∃ m : ℕ, ∃ src : ℕ, ∃ s : State, (windowVote s o = Vote.noMajority m src) ∧ (o.rails = 0) ∧ (faultedSolvers s o = 0) ∧ (∀ j < 3, probationDiff s o j = 0) ∧ (rd s I.CYC_PH = 0) ∧ (rd s SLC_READMIT_PHASE = 0) ∧ (evcOn s))
    ∧ (∃ k : Fin 3, ∃ s : State, (evcOn s) ∧ (uncompared s = false) ∧ (participates s ↑k = true))
    ∧ (∃ k : Fin 3, ∃ s : State, (evcOn s) ∧ (uncompared s = true) ∧ (probation s ↑k = false) ∧ (↑k ≠ 0))
    ∧ (∃ k : Fin 3, ∃ s : State, (solo s = false) ∧ (probation s ↑k = false) ∧ (partCount s = 3) ∧ (rd s I.CYC_PH ≠ 3) ∧ (evcOn s))
    ∧ (∃ k : Fin 3, ∃ s : State, (solo s = false) ∧ (probation s ↑k = false) ∧ (partCount s = 3) ∧ (rd s I.CYC_PH ≠ 3) ∧ (evcOn s) ∧ ∃ kind : ScrubKind, ∃ block : List ScrubWord, ∃ src : ℕ, ∃ passMs : Option ℕ, (on s WNW_CTRL_SCRUB_EN = true) ∧ (scrubVote s block = Vote.minority (↑k) src))
    ∧ (∃ w : Sys2Proof.Writer, ∃ k : Fin 3, ∃ s : State, (WriteTaken w WNW_CTRL_INJ_GO 1 s) ∧ (fieldCode s w WNW_CTRL_INJ_SLICE ↑k = fOK))
    ∧ (∃ k : Fin 3, ∃ s : State, (evcOn s))
    ∧ (∃ s : State, (rd s CYC_STATE_STOPCAUSE ≠ 4) ∧ (ctlState s = stRUN) ∧ (on s I.UPD_WARM = false))
    ∧ (∃ kind : ScrubKind, ∃ block : List ScrubWord, ∃ d : ℕ, ∃ s : State, (on s WNW_CTRL_SCRUB_EN = true) ∧ (scrubVote s block = Vote.clean))
    ∧ (∃ p : Fin 1024, ∃ block : List ScrubWord, ∃ m : ℕ, ∃ src : ℕ, ∃ s : State, (on s WNW_CTRL_SCRUB_EN = true) ∧ (partCount s = 2) ∧ (scrubVote s block = Vote.noMajority m src) ∧ (s.reload = []) ∧ (rd s I.CYC_PH = 0) ∧ (on s I.CYC_IN = false) ∧ (Assoc.sorted s.master = true) ∧ (evcOn s))
    ∧ (∃ a : SliceAct, ∃ b : SliceAct, ∃ r : Fin 8, ∃ s : State, (solo s = false) ∧ (partCount s = 3) ∧ (rd s I.WNW_NAMED = 0) ∧ (rd s I.WNW_INJ = 0))
    ∧ (∃ a : SliceAct, ∃ b : SliceAct, ∃ r : Fin 8, ∃ s : State, (solo s = false) ∧ (partCount s = 3) ∧ (rd s I.WNW_NAMED = 0) ∧ (rd s I.WNW_INJ = 0) ∧ (diffStream (sliceSig s { acts := [a, a, b], rails := r, lines := 0 } 0) (sliceSig s { acts := [a, a, b], rails := r, lines := 0 } 2) ≠ 0))
    ∧ (∃ a : SliceAct, ∃ r : Fin 8, ∃ k : Fin 3, ∃ s : State, (solo s = false) ∧ (partCount s = 3) ∧ (rd s I.WNW_INJ = 0) ∧ (rd s I.WNW_NAMED = 2 ^ k.val))
    ∧ (∃ a : SliceAct, ∃ r : Fin 8, ∃ k : Fin 3, ∃ s : State, (solo s = false) ∧ (partCount s = 3) ∧ (rd s I.WNW_INJ = 0) ∧ (rd s I.WNW_NAMED = 7 - 2 ^ k.val))
    ∧ (∃ a : SliceAct, ∃ r : Fin 8, ∃ k : Fin 3, ∃ s : State, (solo s = false) ∧ (partCount s = 3) ∧ (rd s I.WNW_INJ = ↑k + 1) ∧ (rd s I.WNW_NAMED = 0))
    ∧ (∃ o : WindowObs, ∃ s : State, (uncompared s = true)) :=
  ⟨⟨⟨[aA, aA, aA], 0, 0⟩, ⟨(ws (stg ++ [(SLC_MODE_PART, 7), (SLC_READMIT_PHASE, 0), (SLC_MODE, 0)])), by decide +kernel⟩⟩,
   ⟨⟨[aA, aB, aA], 0, 0⟩, ⟨1, ⟨2, ⟨(ws (stg ++ [(SLC_MODE_PART, 7), (SLC_READMIT_PHASE, 0), (SLC_MODE, 0), (I.CYC_PH, 1)])), by decide +kernel⟩⟩⟩⟩,
   ⟨⟨[aA, aB, aC], 0, 0⟩, ⟨7, ⟨2, ⟨(ws (stg ++ [(SLC_MODE_PART, 7), (SLC_READMIT_PHASE, 0), (SLC_MODE, 0), (I.CYC_PH, 0), (CYC_STATE, 0)])), by decide +kernel⟩⟩⟩⟩,
   ⟨1, ⟨(ws (stg ++ [(SLC_MODE_PART, 7), (SLC_READMIT_PHASE, 0), (SLC_MODE, 0), (I.CYC_PH, 0)])), by decide +kernel⟩⟩,
   ⟨2, ⟨(ws (stg ++ [(SLC_MODE, 2), (SLC_MODE_PART, 1)])), by decide +kernel⟩⟩,
   ⟨1, ⟨(ws (stg ++ [(SLC_MODE_PART, 7), (SLC_READMIT_PHASE, 0), (SLC_MODE, 0), (I.CYC_PH, 0)])), by decide +kernel⟩⟩,
   ⟨2, ⟨(ws (stg ++ [(SLC_MODE_PART, 7), (SLC_READMIT_PHASE, 0), (SLC_MODE, 0), (WNW_CTRL_SCRUB_EN, 1)])), ⟨by decide +kernel, ⟨by decide +kernel, ⟨by decide +kernel, ⟨by decide +kernel, ⟨by decide +kernel, ⟨(.cleanLines [5, 70]), ⟨[⟨1, 1, 2, false⟩, ⟨1, 2, 3, true⟩], ⟨7, ⟨none, by decide +kernel⟩⟩⟩⟩⟩⟩⟩⟩⟩⟩⟩,
   ⟨.host, ⟨2, ⟨(ws (stg ++ [(SLC_MODE_PART, 7), (SLC_READMIT_PHASE, 0), (SLC_MODE, 0)])), by decide +kernel⟩⟩⟩,
   ⟨2, ⟨(ws stg), by decide +kernel⟩⟩,
   ⟨(ws (stg ++ [(CYC_STATE_STOPCAUSE, 0), (I.UPD_WARM, 0)])), by decide +kernel⟩,
   ⟨.other, ⟨[⟨1, 1, 1, false⟩, ⟨1, 2, 3, true⟩], ⟨1500, ⟨(ws (stg ++ [(SLC_MODE_PART, 7), (SLC_READMIT_PHASE, 0), (SLC_MODE, 0), (WNW_CTRL_SCRUB_EN, 1)])), by decide +kernel⟩⟩⟩⟩,
   ⟨1, ⟨[⟨1, 1, 1, false⟩, ⟨1, 2, 2, false⟩], ⟨3, ⟨7, ⟨({ ws (okSt ++ [(SLC_MODE_PART, 3), (SLC_MODE, 1), (SLC_READMIT_PHASE, 0), (WNW_CTRL_SCRUB_EN, 1)]) with master := [(3, 4), (1025, 7)], prog := [(3, 1), (1025, 8)] }), by decide +kernel⟩⟩⟩⟩⟩,
   ⟨aA, ⟨aB, ⟨0, ⟨(ws (stg ++ [(SLC_MODE_PART, 7), (SLC_READMIT_PHASE, 0), (SLC_MODE, 0)])), by decide +kernel⟩⟩⟩⟩,
   ⟨aA, ⟨aB, ⟨5, ⟨(ws (stg ++ [(SLC_MODE_PART, 7), (SLC_READMIT_PHASE, 0), (SLC_MODE, 0)])), by decide +kernel⟩⟩⟩⟩,
   ⟨aA, ⟨1, ⟨2, ⟨(ws (stg ++ [(SLC_MODE_PART, 7), (SLC_READMIT_PHASE, 0), (SLC_MODE, 0), (I.WNW_NAMED, 4), (I.WNW_NAMESRC, 5)])), by decide +kernel⟩⟩⟩⟩,
   ⟨aA, ⟨1, ⟨2, ⟨(ws (stg ++ [(SLC_MODE_PART, 7), (SLC_READMIT_PHASE, 0), (SLC_MODE, 0), (I.WNW_NAMED, 3), (I.WNW_NAMESRC, 4)])), by decide +kernel⟩⟩⟩⟩,
   ⟨aA, ⟨1, ⟨2, ⟨(ws (stg ++ [(SLC_MODE_PART, 7), (SLC_READMIT_PHASE, 0), (SLC_MODE, 0), (I.WNW_INJ, 3)])), by decide +kernel⟩⟩⟩⟩,
   ⟨⟨[aA, aB, aA], 0, 0⟩, ⟨(ws (stg ++ [(SLC_MODE, 2)])), by decide +kernel⟩⟩⟩

/-- Hypotheses of JoinsAndModes, clause by clause: each holds together somewhere. -/
theorem wit_JoinsAndModes :
    (∃ s : State, (rd s SLC_READMIT_PHASE = 2))
    ∧ (∃ s : State, (rd s SLC_READMIT_PHASE = 2) ∧ (on s I.SLC_COPYSTOP = false) ∧ (copyDone s = true) ∧ (ctlStopped s = false))
    ∧ (∃ s : State, (rd s SLC_READMIT_PHASE = 2) ∧ (on s I.SLC_COPYSTOP = false) ∧ (2 ≤ partCount s) ∧ (ctlStopped s = false) ∧ (evcOn s))
    ∧ (∃ s : State, (rd s SLC_READMIT_PHASE = 2) ∧ (on s I.SLC_COPYSTOP = false) ∧ (copyDone s = true) ∧ (ctlStopped s = true) ∧ (on s SLC_MODE_REQPEND = false) ∧ (evcOn s))
    ∧ (∃ s : State, (rd s SLC_READMIT_PHASE = 2) ∧ (64 ≤ rd s SLC_READMIT_CYCLES) ∧ (rd s SLC_READMIT_TRIES + 1 < max 1 (rd s SLC_READCFG_MAXTRY)) ∧ (ctlStopped s = false) ∧ (evcOn s) ∧ (rd s SLC_READMIT_TRIES < 15))
    ∧ (∃ s : State, (rd s SLC_READMIT_PHASE = 2) ∧ (64 ≤ rd s SLC_READMIT_CYCLES) ∧ (max 1 (rd s SLC_READCFG_MAXTRY) ≤ rd s SLC_READMIT_TRIES + 1) ∧ (evcOn s))
    ∧ (∃ ref : CmdRef, ∃ mode : Fin 4, ∃ s : State, (MayStart ref 38 s) ∧ ((roleOk s (↑ref.session) 38 && pairStandby s) = false) ∧ (modeCheck (↑ref.session) (↑mode) s ≠ 0))
    ∧ (∃ ref : CmdRef, ∃ mode : Fin 4, ∃ s : State, (MayStart ref 38 s) ∧ ((roleOk s (↑ref.session) 38 && pairStandby s) = false) ∧ (modeCheck (↑ref.session) (↑mode) s = 0) ∧ (ctlStopped s = false))
    ∧ (∃ ref : CmdRef, ∃ mode : Fin 4, ∃ s : State, (MayStart ref 38 s) ∧ ((roleOk s (↑ref.session) 38 && pairStandby s) = false) ∧ (modeCheck (↑ref.session) (↑mode) s = 0) ∧ (ctlStopped s = true) ∧ (modeJoins s ↑mode = 0) ∧ (evcOn s))
    ∧ (∃ w : Sys2Proof.Writer, ∃ m : Fin 8, ∃ s : State, (WriteTaken w SLC_FAILED (↑m) s) ∧ (rd s SLC_FAILED < 8))
    ∧ (∃ k : Fin 3, ∃ s : State, (rd s WNW_STATUS_CMP_OK = 7) ∧ (solo s = false) ∧ (partCount s = 3) ∧ (evcOn s)) :=
  ⟨⟨(ws (own ++ [(SLC_READMIT_PHASE, 2)])), by decide +kernel⟩,
   ⟨({ ws (own ++ [(SLC_READMIT_PHASE, 2), (CYC_STATE, 1), (I.SLC_COPYSTOP, 0), (I.SLC_COPIED, 1793)]) with joinDirty := [] }), by decide +kernel⟩,
   ⟨(ws (own ++ [(SLC_READMIT_PHASE, 2), (CYC_STATE, 1), (I.SLC_COPYSTOP, 0), (SLC_MODE_PART, 3)])), by decide +kernel⟩,
   ⟨({ ws (own ++ [(SLC_READMIT_PHASE, 2), (CYC_STATE, 0), (I.SLC_COPYSTOP, 0), (I.SLC_COPIED, 1793), (SLC_MODE_REQPEND, 0), (SLC_READMIT_SLICES, 4), (SLC_MODE_PART, 3)]) with joinDirty := [] }), by decide +kernel⟩,
   ⟨(ws (own ++ [(SLC_READMIT_PHASE, 2), (SLC_READMIT_CYCLES, 64), (SLC_READMIT_TRIES, 1), (SLC_READCFG_MAXTRY, 3), (CYC_STATE, 1)])), by decide +kernel⟩,
   ⟨(ws (own ++ [(SLC_READMIT_PHASE, 2), (SLC_READMIT_CYCLES, 64), (SLC_READMIT_TRIES, 2), (SLC_READCFG_MAXTRY, 3), (SLC_READMIT_SLICES, 4)])), by decide +kernel⟩,
   ⟨ref0, ⟨3, ⟨(ws jc), by decide +kernel⟩⟩⟩,
   ⟨ref0, ⟨1, ⟨(ws (jc ++ [(SLC_MODE, 0), (SLC_FAILED, 0), (SLC_MODE_REQPEND, 0), (SLC_READMIT_PHASE, 0), (CYC_CHG_PHASE, 0), (CYC_STATE, 1)])), by decide +kernel⟩⟩⟩,
   ⟨ref0, ⟨1, ⟨(ws (jc ++ [(SLC_MODE, 0), (SLC_FAILED, 0), (SLC_MODE_REQPEND, 0), (SLC_READMIT_PHASE, 0), (CYC_CHG_PHASE, 0), (CYC_STATE, 0)])), by decide +kernel⟩⟩⟩,
   ⟨.host, ⟨5, ⟨(ws (jc ++ [(SLC_FAILED, 4), (SLC_MODE, 0), (SLC_MODE_PART, 3)])), by decide +kernel⟩⟩⟩,
   ⟨2, ⟨(ws (jc ++ [(WNW_STATUS_CMP_OK, 7), (SLC_MODE, 0), (SLC_MODE_PART, 7)])), by decide +kernel⟩⟩⟩

/-- Hypotheses of JaloraStates, clause by clause: each holds together somewhere. -/
theorem wit_JaloraStates :
    (∃ w : Sys2Proof.Writer, ∃ c : Fin 4, ∃ s : State, (Sys2Proof.Inv s) ∧ (WriteTaken w (JLA_CTRL_EN ↑c) 1 s) ∧ (on s (JLA_CTRL_EN ↑c) = false) ∧ (on s (JLA_CTRL_BUSY_OFF ↑c) = false) ∧ (cfgErr (trimsClear (↑c) s) ↑c = 0))
    ∧ (∃ w : Sys2Proof.Writer, ∃ c : Fin 4, ∃ s : State, (Sys2Proof.Inv s) ∧ (WriteTaken w (JLA_CTRL_EN ↑c) 1 s) ∧ (on s (JLA_CTRL_EN ↑c) = false) ∧ (on s (JLA_CTRL_BUSY_OFF ↑c) = false) ∧ (cfgErr (trimsClear (↑c) s) ↑c ≠ 0) ∧ (evcOn s))
    ∧ (∃ w : Sys2Proof.Writer, ∃ c : Fin 4, ∃ s : State, (WriteTaken w (JLA_CTRL_EN ↑c) 0 s) ∧ (on s (JLA_CTRL_EN ↑c) = true))
    ∧ (∃ c : Fin 4, ∃ s : State, (Sys2Proof.Inv s) ∧ (evcOn s) ∧ (jState s ↑c = jlLISTEN))
    ∧ (∃ c : Fin 4, ∃ s : State, (Sys2Proof.Inv s) ∧ (evcOn s) ∧ (jState s ↑c = jlBACK))
    ∧ (∃ c : Fin 4, ∃ s : State, (Sys2Proof.Inv s) ∧ (evcOn s) ∧ (jState s ↑c = jlCOLD) ∧ (8 ≤ (jch s ↑c).clean))
    ∧ (∃ c : Fin 4, ∃ s : State, (Sys2Proof.Inv s) ∧ (evcOn s) ∧ (jState s ↑c = jlRESTART) ∧ (9 ≤ (jch s ↑c).silent))
    ∧ (∃ c : Fin 4, ∃ path : Fin 2, ∃ up : Bool, ∃ s : State, (evcOn s) ∧ (on s (if ↑path = 0 then JLA_STATUS_LINKA ↑c else JLA_STATUS_LINKB ↑c) ≠ up)) :=
  ⟨⟨.host, ⟨2, ⟨({ ws jc with mem := nodes }), by decide +kernel⟩⟩⟩,
   ⟨.host, ⟨2, ⟨({ ws (jc ++ [(JLA_TIMING_PREC 2, 5)]) with mem := nodes }), by decide +kernel⟩⟩⟩,
   ⟨.host, ⟨2, ⟨(ws jl1), by decide +kernel⟩⟩⟩,
   ⟨2, ⟨(jlv (ws (jl1 ++ [(JLA_SYNCSTAT_STATE 2, 1)]))), by decide +kernel⟩⟩,
   ⟨2, ⟨(jlv (ws (jl1 ++ [(JLA_SYNCSTAT_STATE 2, 3)]))), by decide +kernel⟩⟩,
   ⟨2, ⟨(let s := jlv (ws (jl1 ++ [(JLA_SYNCSTAT_STATE 2, 2)])); jset 2 (fun j => { j with clean := 8 }) s), by decide +kernel⟩⟩,
   ⟨2, ⟨(let s := jlv (ws (jl1 ++ [(JLA_SYNCSTAT_STATE 2, 5)])); jset 2 (fun j => { j with silent := 9 }) s), by decide +kernel⟩⟩,
   ⟨3, ⟨1, ⟨true, ⟨(ws (own ++ [(JLA_STATUS_LINKB 3, 0)])), by decide +kernel⟩⟩⟩⟩⟩

/-- Hypotheses of JaloraBuffersAndGrants, clause by clause: each holds together somewhere. -/
theorem wit_JaloraBuffersAndGrants :
    (∃ w : Sys2Proof.Writer, ∃ c : Fin 4, ∃ b : Fin 2, ∃ s : State, (Sys2Proof.Inv s) ∧ (WriteTaken w (JLA_TXRDY_BUF ↑c) (↑b) s) ∧ ((on s (JLA_CTRL_EN ↑c) && rd s (JLA_STATUS_TXBUF ↑c) == ↑b) = false))
    ∧ (∃ w : Sys2Proof.Writer, ∃ c : Fin 4, ∃ b : Fin 2, ∃ s : State, (Sys2Proof.Inv s) ∧ (WriteTaken w (JLA_TXRDY_BUF ↑c) (↑b) s) ∧ ((on s (JLA_CTRL_EN ↑c) && rd s (JLA_STATUS_TXBUF ↑c) == ↑b) = true) ∧ (evcOn s))
    ∧ (∃ w : Sys2Proof.Writer, ∃ c : Fin 4, ∃ len : BitVec 7, ∃ s : State, (Sys2Proof.Inv s) ∧ (WriteTaken w (JLA_MBOXCTL_GO ↑c) 1 s) ∧ (on s (JLA_MBOXCTL_BUSY ↑c) = false))
    ∧ (∃ w : Sys2Proof.Writer, ∃ c : Fin 4, ∃ n : Fin 8, ∃ mode : Fin 4, ∃ last : BitVec 11, ∃ first : BitVec 11, ∃ s : State, (WriteTaken w (JLA_QUENCH_MODE ↑c ↑n) (↑mode) s) ∧ (fieldCode s w (JLA_QUENCH_LAST ↑c ↑n) last.toNat = fOK) ∧ (fieldCode s w (JLA_QUENCH_FIRST ↑c ↑n) first.toNat = fOK))
    ∧ (∃ w : Sys2Proof.Writer, ∃ c : Fin 4, ∃ s : State, (Sys2Proof.Inv s) ∧ (WriteTaken w (JLA_CNTCTL_CLR ↑c) 1 s))
    ∧ (∃ c : Fin 4, ∃ s : State, (Sys2Proof.Inv s) ∧ ((jch s ↑c).trimDue = true))
    ∧ (∃ c : Fin 4, ∃ s : State, (Sys2Proof.Inv s) ∧ ((jch s ↑c).trimDue = true) ∧ (on s (I.JLA_HOLD ↑c) = true))
    ∧ (∃ c : Fin 4, ∃ s : State, (Sys2Proof.Inv s) ∧ ((jch s ↑c).trimDue = true) ∧ ∃ n : ℕ, ∃ path : Fin 2, ∃ sum : ℤ, ∃ cnt : ℕ, (on s (I.JLA_HOLD ↑c) = false) ∧ ((jch s ↑c).samples = [(2 * n + ↑path, sum, cnt)]) ∧ (4 ≤ cnt) ∧ (2 * cnt ≤ sum.natAbs) ∧ (delayAddr s (↑c) n + 16 ≤ 34359738368))
    ∧ (∃ c : Fin 4, ∃ i : Fin 64, ∃ s : State, (Sys2Proof.Inv s) ∧ (evcOn s) ∧ (↑i < claimCount s ↑c) ∧ (claimValid s ↑c ↑i = true) ∧ (claimAddr s ↑c ↑i + 16 ≤ 34359738368) ∧ (rd s (JLA_CLAIMCFG_IDLE ↑c) ≤ claimIdle s ↑c ↑i) ∧ (on s (I.JLA_HOLD ↑c) = false))
    ∧ (∃ c : Fin 4, ∃ i : Fin 64, ∃ s : State, (Sys2Proof.Inv s) ∧ (evcOn s) ∧ (↑i < claimCount s ↑c) ∧ (claimValid s ↑c ↑i = true) ∧ (claimAddr s ↑c ↑i + 16 ≤ 34359738368) ∧ ∃ w : Sys2Proof.Writer, ∃ slot : BitVec 11, (WriteTaken w (JLA_CLAIMREV_SLOT ↑c) slot.toNat s) ∧ (grantOf s (↑c) slot.toNat = some ↑i))
    ∧ (∃ c : Fin 4, ∃ slot : BitVec 11, ∃ s : State, (Sys2Proof.Inv s)) :=
  ⟨⟨.host, ⟨2, ⟨1, ⟨(jlv (ws (jl1 ++ [(JLA_STATUS_TXBUF 2, 0)]))), by decide +kernel⟩⟩⟩⟩,
   ⟨.host, ⟨2, ⟨0, ⟨(jlv (ws (jl1 ++ [(JLA_STATUS_TXBUF 2, 0)]))), by decide +kernel⟩⟩⟩⟩,
   ⟨.host, ⟨2, ⟨100, ⟨(jlv (ws (jl1 ++ [(JLA_MBOXCTL_BUSY 2, 0)]))), by decide +kernel⟩⟩⟩⟩,
   ⟨.host, ⟨2, ⟨7, ⟨3, ⟨9, ⟨5, ⟨(jlv (ws jl1)), by decide +kernel⟩⟩⟩⟩⟩⟩⟩,
   ⟨.host, ⟨2, ⟨(jlv (ws jl1)), by decide +kernel⟩⟩⟩,
   ⟨2, ⟨(let s := jlv (ws jl1); jset 2 (fun j => { j with trimDue := true }) s), by decide +kernel⟩⟩,
   ⟨2, ⟨(let s := jlv (ws (jl1 ++ [(I.JLA_HOLD 2, 1)])); jset 2 (fun j => { j with trimDue := true, samples := [(1, (-9, 4))] }) s), by decide +kernel⟩⟩,
   ⟨2, ⟨(let s := jlv (ws jl1); jset 2 (fun j => { j with trimDue := true, samples := [(3, (-9, 4))] }) s), ⟨by decide +kernel, ⟨by decide +kernel, ⟨1, ⟨1, ⟨(-9), ⟨4, by decide +kernel⟩⟩⟩⟩⟩⟩⟩⟩,
   ⟨2, ⟨1, ⟨(claims1 (ws jl1)), by decide +kernel⟩⟩⟩,
   ⟨2, ⟨1, ⟨(claims1 (ws jl1)), ⟨by decide +kernel, ⟨by decide +kernel, ⟨by decide +kernel, ⟨by decide +kernel, ⟨by decide +kernel, ⟨.host, ⟨6, by decide +kernel⟩⟩⟩⟩⟩⟩⟩⟩⟩⟩,
   ⟨2, ⟨6, ⟨(let s := jlv (ws jl1); jset 2 (fun j => { j with releasing := [(6, 64), (6, 63), (7, 70)] }) s), by decide +kernel⟩⟩⟩⟩

/-- Hypotheses of Podl, clause by clause: each holds together somewhere. -/
theorem wit_Podl :
    (∃ w : Sys2Proof.Writer, ∃ c : Fin 4, ∃ path : Fin 2, ∃ s : State, (WriteTaken w (podlEn ↑c ↑path) 0 s))
    ∧ (∃ w : Sys2Proof.Writer, ∃ c : Fin 4, ∃ path : Fin 2, ∃ s : State, (WriteTaken w (podlEn ↑c ↑path) 1 s) ∧ (rd s (podlState ↑c ↑path) = pdOFF) ∧ (islandPowered s (15 + ↑c) = true))
    ∧ (∃ c : Fin 4, ∃ path : Fin 2, ∃ s : State, (rd s (podlState ↑c ↑path) = pdDETECT))
    ∧ (∃ c : Fin 4, ∃ path : Fin 2, ∃ s : State, ∃ cls : Fin 32, (rd s (podlState ↑c ↑path) = pdCLASS) ∧ (podlRested s ↑c ↑path = true))
    ∧ (∃ c : Fin 4, ∃ path : Fin 2, ∃ s : State, ∃ cls : Fin 32, (rd s (podlState ↑c ↑path) = pdCLASS) ∧ (evcOn s))
    ∧ (∃ c : Fin 4, ∃ path : Fin 2, ∃ s : State, (rd s (podlState ↑c ↑path) = pdPOWERED) ∧ (evcOn s))
    ∧ (∃ c : Fin 4, ∃ path : Fin 2, ∃ s : State, (rd s (podlState ↑c ↑path) = pdFAULT) ∧ (podlRested s ↑c ↑path = true))
    ∧ (∃ c : Fin 4, ∃ path : Fin 2, ∃ s : State, (podlRested s ↑c ↑path = false) ∧ (rd s (podlState ↑c ↑path) = pdFAULT))
    ∧ (∃ c : Fin 4, ∃ path : Fin 2, ∃ s : State, (rd s (podlState ↑c ↑path) = pdUNDERVOLT)) :=
  ⟨⟨.host, ⟨2, ⟨1, ⟨(ws (own ++ [(JLA_PODLSTAT_STATEB 2, 3), (JLA_PODLSTAT_IB 2, 30)])), by decide +kernel⟩⟩⟩⟩,
   ⟨.host, ⟨2, ⟨0, ⟨(ws (own ++ [(JLA_PODLSTAT_STATEA 2, 0)])), by decide +kernel⟩⟩⟩⟩,
   ⟨2, ⟨0, ⟨(ws (own ++ [(JLA_PODLSTAT_STATEA 2, 1)])), by decide +kernel⟩⟩⟩,
   ⟨2, ⟨1, ⟨(ws (own ++ [(JLA_PODLSTAT_STATEB 2, 2)])), ⟨31, by decide +kernel⟩⟩⟩⟩,
   ⟨2, ⟨1, ⟨(ws (own ++ [(JLA_PODLSTAT_STATEB 2, 2)])), ⟨31, by decide +kernel⟩⟩⟩⟩,
   ⟨2, ⟨1, ⟨(ws (own ++ [(JLA_PODLSTAT_STATEB 2, 3)])), by decide +kernel⟩⟩⟩,
   ⟨2, ⟨1, ⟨(ws (own ++ [(JLA_PODLSTAT_STATEB 2, 4)])), by decide +kernel⟩⟩⟩,
   ⟨2, ⟨1, ⟨(ws (own ++ [(JLA_PODLSTAT_STATEB 2, 4), (I.JLA_PODLT 5, 1)])), by decide +kernel⟩⟩⟩,
   ⟨2, ⟨1, ⟨(ws (own ++ [(JLA_PODLSTAT_STATEB 2, 6)])), by decide +kernel⟩⟩⟩⟩

/-- Hypotheses of JaloraRounds, clause by clause: each holds together somewhere. -/
theorem wit_JaloraRounds :
    (∃ c : Fin 4, ∃ s : State, (jSends s ↑c = true) ∧ (on s (JLA_CTRL_PATHA_EN ↑c) = true))
    ∧ (∃ c : Fin 4, ∃ s : State, (jSends s ↑c = true) ∧ (on s (JLA_CTRL_PATHA_EN ↑c) = true) ∧ ∃ k : Fin 512, (on s (I.JLA_EMPTY ↑c) = false) ∧ (↑k < rd s (JLA_OUTSLOT_COUNT ↑c)) ∧ (on s (I.JLA_HOLD ↑c) = false))
    ∧ (∃ c : Fin 4, ∃ path : Fin 2, ∃ stamp : ℤ, ∃ t0 : ℤ, ∃ bytes : List Byte, ∃ s : State, (Sys2Proof.Inv s) ∧ (t0 = (stamp * 65536 - ingressCorr s (4 + 2 * ↑c + ↑path)) / 65536) ∧ (on s (if ↑path = 0 then JLA_CTRL_PATHA_EN ↑c else JLA_CTRL_PATHB_EN ↑c) = true) ∧ (on s (JLA_CTRL_EN ↑c) = true) ∧ (jState s ↑c = jlNORMAL) ∧ ((jch s ↑c).live = true) ∧ ∃ slot : ℕ, ((jParse bytes).dst = 3617642905600 + ↑c) ∧ ((jParse bytes).ether = 34997) ∧ ((jParse bytes).hcrcOk = true) ∧ (jPlace s (↑c) t0 = JPlace.static slot) ∧ (inWindow s (↑c) t0 (jAp s (↑c) slot) = true) ∧ (jRest s (↑c) (typeInSlot s (↑c) slot (jParse bytes)) (some slot) (jParse bytes) = none) ∧ (quenched s (↑c) slot = false) ∧ (keptOf s (↑c) false slot = none) ∧ ((jParse bytes).startup = true → slot ≤ 1))
    ∧ (∃ c : Fin 4, ∃ path : Fin 2, ∃ stamp : ℤ, ∃ t0 : ℤ, ∃ bytes : List Byte, ∃ s : State, (Sys2Proof.Inv s) ∧ (t0 = (stamp * 65536 - ingressCorr s (4 + 2 * ↑c + ↑path)) / 65536) ∧ (on s (if ↑path = 0 then JLA_CTRL_PATHA_EN ↑c else JLA_CTRL_PATHB_EN ↑c) = true) ∧ (on s (JLA_CTRL_EN ↑c) = true) ∧ (jState s ↑c = jlNORMAL) ∧ ((jch s ↑c).live = true) ∧ (evcOn s))
    ∧ (∃ c : Fin 4, ∃ n : Fin 512, ∃ s : State, (Sys2Proof.Inv s) ∧ ((jch s ↑c).live = true) ∧ (nodeValid s ↑c ↑n = true) ∧ ((jch s ↑c).done.contains ↑n = false) ∧ (on s (I.JLA_HOLD ↑c) = true))
    ∧ (∃ c : Fin 4, ∃ n : Fin 512, ∃ s : State, (Sys2Proof.Inv s) ∧ ((jch s ↑c).live = true) ∧ (nodeValid s ↑c ↑n = true) ∧ ((jch s ↑c).done.contains ↑n = false) ∧ ∃ x : JKept, (on s (I.JLA_HOLD ↑c) = false) ∧ (keptOf s (↑c) false (nodeSlot s ↑c ↑n) = some x) ∧ (x.typ = 1) ∧ (rxRecord s (↑c) (rd s (JLA_STATUS_RXBUF ↑c)) ↑n + 16 + x.payload.length ≤ 34359738368))
    ∧ (∃ c : Fin 4, ∃ s : State, (Sys2Proof.Inv s) ∧ ((jch s ↑c).live = true) ∧ (rd s (JLA_STATUS_ROUND ↑c) % 2 = 0))
    ∧ (∃ c : Fin 4, ∃ s : State, (Sys2Proof.Inv s) ∧ ((jch s ↑c).live = true) ∧ (rd s (JLA_STATUS_ROUND ↑c) % 2 = 1))
    ∧ (∃ c : Fin 4, ∃ s : State, (Sys2Proof.Inv s) ∧ (on s (JLA_CTRL_EN ↑c) = true) ∧ (jState s ↑c = jlNORMAL) ∧ ((jch s ↑c).live = true) ∧ (on s (JLA_CTRL_DISPEND ↑c) = true))
    ∧ (∃ c : Fin 4, ∃ s : State, (Sys2Proof.Inv s) ∧ (on s (JLA_CTRL_EN ↑c) = true) ∧ (jState s ↑c = jlNORMAL) ∧ ((jch s ↑c).live = true) ∧ (on s (JLA_CTRL_DISPEND ↑c) = false)) :=
  ⟨⟨2, ⟨(jlv (ws jl1)), by decide +kernel⟩⟩,
   ⟨2, ⟨(jlv (ws jl1)), ⟨by decide +kernel, ⟨by decide +kernel, ⟨0, by decide +kernel⟩⟩⟩⟩⟩,
   ⟨2, ⟨0, ⟨6330, ⟨6330, ⟨fr4, ⟨(jlv (ws jl1)), ⟨by decide +kernel, ⟨by decide +kernel, ⟨by decide +kernel, ⟨by decide +kernel, ⟨by decide +kernel, ⟨by decide +kernel, ⟨4, by decide +kernel⟩⟩⟩⟩⟩⟩⟩⟩⟩⟩⟩⟩⟩,
   ⟨2, ⟨0, ⟨6330, ⟨6330, ⟨fr4, ⟨(jlv (ws jl1)), by decide +kernel⟩⟩⟩⟩⟩⟩,
   ⟨2, ⟨0, ⟨(jlv (ws (jl1 ++ [(I.JLA_HOLD 2, 1)]))), by decide +kernel⟩⟩⟩,
   ⟨2, ⟨0, ⟨(let s := jlv (ws jl1); jset 2 (fun j => { j with kept := [jk] }) s), ⟨by decide +kernel, ⟨by decide +kernel, ⟨by decide +kernel, ⟨by decide +kernel, ⟨jk, by decide +kernel⟩⟩⟩⟩⟩⟩⟩⟩,
   ⟨2, ⟨(let s := jlv (ws jl1); jset 2 (fun j => { j with kept := [jk] }) s), by decide +kernel⟩⟩,
   ⟨2, ⟨(let s := jlv (ws (jl1 ++ [(JLA_STATUS_ROUND 2, 7), (JLA_SYNCLIST_SLOTA 2 0, 4)])); jset 2 (fun j => { j with kept := [jk], steer := 20 }) s), by decide +kernel⟩⟩,
   ⟨2, ⟨(jlv (ws (jl1 ++ [(JLA_CTRL_DISPEND 2, 1)]))), by decide +kernel⟩⟩,
   ⟨2, ⟨(jlv (ws jl1)), by decide +kernel⟩⟩⟩

/-- Hypotheses of TimeUnit, clause by clause: each holds together somewhere. -/
theorem wit_TimeUnit :
    (∃ s : State, (on s TIM_STATUS_WARM = false) ∧ (islandPowered s 19 = true) ∧ (evcOn s))
    ∧ (∃ w : Sys2Proof.Writer, ∃ s : State, (timState s ≠ tmWARMUP) ∧ (timState s ≠ tmPAIR) ∧ (WriteTaken w TIM_CTRL_PPS_EN 0 s))
    ∧ (∃ w : Sys2Proof.Writer, ∃ s : State, (timState s ≠ tmWARMUP) ∧ (timState s ≠ tmPAIR) ∧ (WriteTaken w TIM_CTRL_PPS_EN 1 s) ∧ (timState s = tmFREERUN))
    ∧ (∃ acc : Fin 5, ∃ x : ℤ, ∃ sec : ℤ, ∃ e : ℤ, ∃ s : State, (timState s = tmLOCKED) ∧ (s.tim.rejSec = none) ∧ (s.tim.lastAcc = none) ∧ (s.tim.setPend = none) ∧ (x = ↑(now s) + ↑↑acc - 2 - rdS s TIM_PPSCFG_INDELAY) ∧ (sec = (x + 500000000) / 1000000000) ∧ (e = x - sec * 1000000000) ∧ (e.natAbs ≤ 1000))
    ∧ (∃ acc : Fin 5, ∃ x : ℤ, ∃ sec : ℤ, ∃ e : ℤ, ∃ s : State, (timState s = tmLOCKED) ∧ (s.tim.rejSec = none) ∧ (s.tim.lastAcc = none) ∧ (s.tim.setPend = none) ∧ (x = ↑(now s) + ↑↑acc - 2 - rdS s TIM_PPSCFG_INDELAY) ∧ (sec = (x + 500000000) / 1000000000) ∧ (e = x - sec * 1000000000) ∧ (1000 < e.natAbs) ∧ (evcOn s))
    ∧ (∃ s : State, (timState s = tmLOCKED) ∧ (s.tim.expNext * nsPerS + 1000000 ≤ now s) ∧ (s.tim.missCnt < 2))
    ∧ (∃ s : State, (timState s = tmLOCKED) ∧ (s.tim.expNext * nsPerS + 1000000 ≤ now s) ∧ (2 ≤ s.tim.missCnt) ∧ (evcOn s))
    ∧ (∃ s : State, (timState s = tmHOLDOVER) ∧ (on s TIM_STATUS_HOLD1H = false) ∧ (s.tim.holdStart + 3600 * ↑nsPerS ≤ ↑(now s)) ∧ (evcOn s))
    ∧ (∃ ref : CmdRef, ∃ sec : BitVec 64, ∃ ns : BitVec 32, ∃ s : State, (Permitted ref 54 s) ∧ (ns.toNat < nsPerS) ∧ (islandOn s 19 = true) ∧ (fwBlockWaits s 32 = false) ∧ (evcOn s) ∧ (stepAllowed s = true) ∧ (timState s ≠ tmLOCKED))
    ∧ (∃ ref : CmdRef, ∃ sec : BitVec 64, ∃ ns : BitVec 32, ∃ s : State, (Permitted ref 54 s) ∧ (ns.toNat < nsPerS) ∧ (islandOn s 19 = true) ∧ (fwBlockWaits s 32 = false) ∧ (evcOn s) ∧ (stepAllowed s = true) ∧ (timState s = tmLOCKED) ∧ (NoneWaits 54 s))
    ∧ (∃ ref : CmdRef, ∃ sec : BitVec 64, ∃ ns : BitVec 32, ∃ s : State, (Permitted ref 54 s) ∧ (ns.toNat < nsPerS) ∧ (islandOn s 19 = true) ∧ (fwBlockWaits s 32 = false) ∧ (evcOn s) ∧ (stepAllowed s = false))
    ∧ (∃ w : Sys2Proof.Writer, ∃ ns : BitVec 30, ∃ s : State, (WriteTaken w TIM_SETNS_NS ns.toNat s) ∧ (fieldCode s w TIM_SETNS_GO 1 = fOK) ∧ (stepAllowed s = true) ∧ (timState s ≠ tmLOCKED) ∧ (evcOn s)) :=
  ⟨⟨(ws (tt ++ [(TIM_STATUS_WARM, 0), (TIM_STATUS_STATE, 0), (TIM_CTRL_PPS_EN, 1)])), by decide +kernel⟩,
   ⟨.host, ⟨(ws (tt ++ [(TIM_STATUS_STATE, 3)])), by decide +kernel⟩⟩,
   ⟨.host, ⟨(ws (tt ++ [(TIM_STATUS_STATE, 1)])), by decide +kernel⟩⟩,
   ⟨4, ⟨100000000022, ⟨100, ⟨22, ⟨(ws (tt ++ [(TIM_STATUS_STATE, 3)])), by decide +kernel⟩⟩⟩⟩⟩,
   ⟨0, ⟨99999998000, ⟨100, ⟨(-2000), ⟨(ws (tt ++ [(TIM_STATUS_STATE, 3), (TIM_SEC, 99), (TIM_NSEC, 999998002)])), by decide +kernel⟩⟩⟩⟩⟩,
   ⟨({ ws (tt ++ [(TIM_STATUS_STATE, 3)]) with tim := { TimUnit.reset with expNext := 99, missCnt := 1 } }), by decide +kernel⟩,
   ⟨({ ws (tt ++ [(TIM_STATUS_STATE, 3)]) with tim := { TimUnit.reset with expNext := 99, missCnt := 2, freqs := [3, 4] } }), by decide +kernel⟩,
   ⟨(ws (tt ++ [(TIM_STATUS_STATE, 4), (TIM_STATUS_HOLD1H, 0), (TIM_SEC, 3600)])), by decide +kernel⟩,
   ⟨ref0, ⟨5000, ⟨999999999, ⟨(ws (tt ++ [(TIM_STATUS_STATE, 1)])), by decide +kernel⟩⟩⟩⟩,
   ⟨ref0, ⟨5000, ⟨0, ⟨(ws (tt ++ [(TIM_STATUS_STATE, 3)])), by decide +kernel⟩⟩⟩⟩,
   ⟨ref0, ⟨5000, ⟨0, ⟨(ws (tt ++ [(TIM_STATUS_STATE, 1), (TIM_CTRL_STEP_EN, 0), (CYC_STATE, 1)])), by decide +kernel⟩⟩⟩⟩,
   ⟨.host, ⟨0x3FFFFFFF, ⟨(ws (tt ++ [(TIM_STATUS_STATE, 1), (TIM_SETSEC, 0xFFFFFFFFFFFFFFFF)])), by decide +kernel⟩⟩⟩⟩

/-- Hypotheses of PtpAndPins, clause by clause: each holds together somewhere. -/
theorem wit_PtpAndPins :
    (∃ n : Fin 4, ∃ p : PtpPort, ∃ s : State, (s.tim.ports.length = 4) ∧ (p = ptpPort s ↑n) ∧ ∃ m : PtpMsg, (m = ptpMake p 0 p.domain p.seqSync []) ∧ (ptpMaster s ↑n = true) ∧ (bufferRoom s 7 (bbSize (ptpFrame s m)) = true))
    ∧ (∃ n : Fin 4, ∃ p : PtpPort, ∃ s : State, (s.tim.ports.length = 4) ∧ (p = ptpPort s ↑n) ∧ ∃ m : PtpMsg, (m = ptpMake p 11 p.domain p.seqAnn (announceFields s)) ∧ (ptpMaster s ↑n = true) ∧ (bufferRoom s 7 (bbSize (ptpFrame s m)) = true))
    ∧ (∃ n : Fin 4, ∃ p : PtpPort, ∃ s : State, (s.tim.ports.length = 4) ∧ (p = ptpPort s ↑n) ∧ ∃ m : PtpMsg, (m = ptpMake p 2 p.domain p.seqPdly []) ∧ (ptpSends s ↑n = true) ∧ (p.proto = 2 ∨ p.proto = 3) ∧ (bufferRoom s 7 (bbSize (ptpFrame s m)) = true))
    ∧ (∃ n : Fin 4, ∃ p : PtpPort, ∃ s : State, (s.tim.ports.length = 4) ∧ (p = ptpPort s ↑n) ∧ (ptpSends s ↑n = false))
    ∧ (∃ n : Fin 4, ∃ p : PtpPort, ∃ s : State, (s.tim.ports.length = 4) ∧ (p = ptpPort s ↑n) ∧ ∃ d : Byte, ∃ q : BitVec 16, ∃ x : BitVec 48, ∃ ns : BitVec 32, ∃ c : ℤ, ∃ two : Bool, ∃ m : PtpMsg, (islandPowered s 19 = true) ∧ (portOn s ↑n = true) ∧ (ptpSends s ↑n = true) ∧ (BitVec.toNat d = p.domain) ∧ (m = ptpMake p 9 (BitVec.toNat d) q.toNat (stampFields (ingressStamp s ↑n) ++ [p.logDreq])) ∧ (p.proto ≤ 1) ∧ (p.reqSec ≠ rd s TIM_SEC) ∧ (bufferRoom s 7 (bbSize (ptpFrame s m)) = true))
    ∧ (∃ n : Fin 4, ∃ p : PtpPort, ∃ s : State, (s.tim.ports.length = 4) ∧ (p = ptpPort s ↑n) ∧ ∃ d : Byte, ∃ q : BitVec 16, ∃ x : BitVec 48, ∃ ns : BitVec 32, ∃ c : ℤ, ∃ two : Bool, ∃ m : PtpMsg, (islandPowered s 19 = true) ∧ (portOn s ↑n = true) ∧ (ptpSends s ↑n = true) ∧ (BitVec.toNat d = p.domain) ∧ (m = ptpMake p 3 (BitVec.toNat d) q.toNat (stampFields (ingressStamp s ↑n))) ∧ (2 ≤ p.proto) ∧ (bufferRoom s 7 (bbSize (ptpFrame s m)) = true))
    ∧ (∃ n : Fin 4, ∃ p : PtpPort, ∃ s : State, (s.tim.ports.length = 4) ∧ (p = ptpPort s ↑n) ∧ ∃ d : Byte, ∃ q : BitVec 16, ∃ x : BitVec 48, ∃ ns : BitVec 32, ∃ c : ℤ, ∃ two : Bool, ∃ m : PtpMsg, (islandPowered s 19 = true) ∧ (portOn s ↑n = true) ∧ (ptpSends s ↑n = true) ∧ (BitVec.toNat d = p.domain) ∧ ∃ t1 : ℤ, (p.t1 = some t1) ∧ (2 ≤ p.proto) ∧ (q.toNat = (p.seqPdly + 65535) % 65536))
    ∧ (∃ port : Fin 4, ∃ cls : Fin 8, ∃ q : BbQueued, ∃ m : PtpMsg, ∃ f : PtpMsg, ∃ s : State, (queueHead s ↑port ↑cls = some q) ∧ (q.launch = none) ∧ (q.msg = some m) ∧ (m.kind = 0) ∧ (portOn s ↑port = true) ∧ (mayStart s q = true) ∧ (outranked s ↑port ↑cls = false) ∧ (f = ptpMake (ptpPort s ↑port) 8 m.domain m.seq (stampFields (egressStamp s ↑port))) ∧ (m.oneStep = true))
    ∧ (∃ port : Fin 4, ∃ cls : Fin 8, ∃ q : BbQueued, ∃ m : PtpMsg, ∃ f : PtpMsg, ∃ s : State, (queueHead s ↑port ↑cls = some q) ∧ (q.launch = none) ∧ (q.msg = some m) ∧ (m.kind = 0) ∧ (portOn s ↑port = true) ∧ (mayStart s q = true) ∧ (outranked s ↑port ↑cls = false) ∧ (f = ptpMake (ptpPort s ↑port) 8 m.domain m.seq (stampFields (egressStamp s ↑port))) ∧ (m.oneStep = false) ∧ (bufferRoom (queueDrop q s) 7 (bbSize (ptpFrame s f)) = true))
    ∧ (∃ n : Fin 4, ∃ d : Byte, ∃ q : BitVec 16, ∃ x : BitVec 48, ∃ ns : BitVec 32, ∃ c : ℤ, ∃ two : Bool, ∃ s : State, (s.tim.ports.length = 4) ∧ (islandPowered s 19 = true) ∧ (portOn s ↑n = true) ∧ ((ptpPort s ↑n).foreignSec ≠ rd s TIM_SEC + 1) ∧ (evcOn s))
    ∧ (∃ n : Fin 4, ∃ d : Byte, ∃ q : BitVec 16, ∃ x : BitVec 48, ∃ ns : BitVec 32, ∃ c : ℤ, ∃ two : Bool, ∃ s : State, (s.tim.ports.length = 4) ∧ (islandPowered s 19 = true) ∧ (portOn s ↑n = true) ∧ ((ptpPort s ↑n).foreignSec = rd s TIM_SEC + 1))
    ∧ (∃ n : Fin 4, ∃ s : State, (s.tim.ports.length = 4))
    ∧ (∃ w : Sys2Proof.Writer, ∃ n : Fin 4, ∃ safeOff : Bool, ∃ level : Bool, ∃ width : BitVec 16, ∃ s : State, (s.tim.te.length = 4) ∧ (WriteTaken w (TIM_TE_CTRL_ARM ↑n) 1 s) ∧ (now s + 100 ≤ teTime s ↑n) ∧ (width ≠ 0))
    ∧ (∃ w : Sys2Proof.Writer, ∃ n : Fin 4, ∃ safeOff : Bool, ∃ level : Bool, ∃ width : BitVec 16, ∃ s : State, (s.tim.te.length = 4) ∧ (WriteTaken w (TIM_TE_CTRL_ARM ↑n) 1 s) ∧ (rd s (TIM_TE_PERIOD_PERIOD ↑n) < 8 * max 1 width.toNat + 16))
    ∧ (∃ n : Fin 4, ∃ d : ℕ, ∃ s : State, (s.tim.te.length = 4) ∧ ((tePin s ↑n).old = []) ∧ ((tePin s ↑n).next = some d) ∧ (d ≤ now s + 8) ∧ (on s CYC_STATE_SAFEOUT = false) ∧ (rd s (TIM_TE_CTRL_MODE ↑n) = 1))
    ∧ (∃ n : Fin 4, ∃ d : ℕ, ∃ s : State, (s.tim.te.length = 4) ∧ ((tePin s ↑n).old = []) ∧ ((tePin s ↑n).next = some d) ∧ (d ≤ now s + 8) ∧ (on s CYC_STATE_SAFEOUT = false) ∧ (rd s (TIM_TE_CTRL_MODE ↑n) = 2))
    ∧ (∃ n : Fin 4, ∃ d : ℕ, ∃ s : State, (s.tim.te.length = 4) ∧ ((tePin s ↑n).old = []) ∧ ((tePin s ↑n).next = some d) ∧ (now s + 8 < d))
    ∧ (∃ s : State, (on s TIM_CTRL_PPSOUT_EN = true) ∧ ((now s + 8) % nsPerS ≤ 16)) :=
  ⟨⟨3, ⟨(ptpPort st0 3), ⟨st0, ⟨by decide +kernel, ⟨by decide +kernel, ⟨(ptpMake (ptpPort st0 3) 0x0 (ptpPort st0 3).domain (ptpPort st0 3).seqSync []), by decide +kernel⟩⟩⟩⟩⟩⟩,
   ⟨3, ⟨(ptpPort st1 3), ⟨st1, ⟨by decide +kernel, ⟨by decide +kernel, ⟨(ptpMake (ptpPort st1 3) 0xB (ptpPort st1 3).domain (ptpPort st1 3).seqAnn (announceFields st1)), by decide +kernel⟩⟩⟩⟩⟩⟩,
   ⟨3, ⟨(ptpPort st2 3), ⟨st2, ⟨by decide +kernel, ⟨by decide +kernel, ⟨(ptpMake (ptpPort st2 3) 0x2 (ptpPort st2 3).domain (ptpPort st2 3).seqPdly []), by decide +kernel⟩⟩⟩⟩⟩⟩,
   ⟨2, ⟨(ptpPort st0 2), ⟨st0, by decide +kernel⟩⟩⟩,
   ⟨3, ⟨(ptpPort st0 3), ⟨st0, ⟨by decide +kernel, ⟨by decide +kernel, ⟨7, ⟨0xFFFF, ⟨9, ⟨3, ⟨5, ⟨true, ⟨(ptpMake (ptpPort st0 3) 0x9 7 0xFFFF (stampFields (ingressStamp st0 3) ++ [(ptpPort st0 3).logDreq])), by decide +kernel⟩⟩⟩⟩⟩⟩⟩⟩⟩⟩⟩⟩,
   ⟨3, ⟨(ptpPort st2 3), ⟨st2, ⟨by decide +kernel, ⟨by decide +kernel, ⟨7, ⟨0xFFFF, ⟨9, ⟨3, ⟨5, ⟨true, ⟨(ptpMake (ptpPort st2 3) 0x3 7 0xFFFF (stampFields (ingressStamp st2 3))), by decide +kernel⟩⟩⟩⟩⟩⟩⟩⟩⟩⟩⟩⟩,
   ⟨3, ⟨(ptpPort st2 3), ⟨st2, ⟨by decide +kernel, ⟨by decide +kernel, ⟨7, ⟨7, ⟨9, ⟨3, ⟨5, ⟨true, ⟨msgS, ⟨by decide +kernel, ⟨by decide +kernel, ⟨by decide +kernel, ⟨by decide +kernel, ⟨65536, by decide +kernel⟩⟩⟩⟩⟩⟩⟩⟩⟩⟩⟩⟩⟩⟩⟩⟩⟩,
   ⟨3, ⟨7, ⟨(bqm msgS), ⟨msgS, ⟨(ptpMake (ptpPort stQ1 3) 0x8 7 9 (stampFields (egressStamp stQ1 3))), ⟨stQ1, by decide +kernel⟩⟩⟩⟩⟩⟩,
   ⟨3, ⟨7, ⟨(bqm msgT), ⟨msgT, ⟨(ptpMake (ptpPort stQ2 3) 0x8 7 9 (stampFields (egressStamp stQ2 3))), ⟨stQ2, by decide +kernel⟩⟩⟩⟩⟩⟩,
   ⟨3, ⟨9, ⟨3, ⟨9, ⟨3, ⟨5, ⟨true, ⟨(pt (fun p => p) (ws bb)), by decide +kernel⟩⟩⟩⟩⟩⟩⟩⟩,
   ⟨3, ⟨9, ⟨3, ⟨9, ⟨3, ⟨5, ⟨true, ⟨(pt (fun p => { p with foreignSec := 101 }) (ws (bb ++ [(TIM_SEC, 100)]))), by decide +kernel⟩⟩⟩⟩⟩⟩⟩⟩,
   ⟨3, ⟨(pt (fun p => p) (ws (bb ++ [(TIM_PTP_EN 3, 1), (TIM_PTP_PROTO 3, 2)]))), by decide +kernel⟩⟩,
   ⟨.host, ⟨3, ⟨false, ⟨false, ⟨9, ⟨(ws (bb ++ [(TIM_TE_TIME_SEC 3, 100), (TIM_TE_TIME_NSEC 3, 120)])), by decide +kernel⟩⟩⟩⟩⟩⟩,
   ⟨.host, ⟨3, ⟨false, ⟨false, ⟨9, ⟨(ws (bb ++ [(TIM_TE_PERIOD_PERIOD 3, 87)])), by decide +kernel⟩⟩⟩⟩⟩⟩,
   ⟨3, ⟨100000000028, ⟨(te4 (fun _ => ⟨some 100000000028, [], false⟩) (ws (bb ++ [(TIM_TE_CTRL_MODE 3, 1), (TIM_TE_CTRL_WIDTH 3, 6)]))), by decide +kernel⟩⟩⟩,
   ⟨3, ⟨100000000028, ⟨(te4 (fun _ => ⟨some 100000000028, [], false⟩) (ws (bb ++ [(TIM_TE_CTRL_MODE 3, 2), (TIM_TE_CTRL_WIDTH 3, 6), (TIM_TE_PERIOD_PERIOD 3, 87)]))), by decide +kernel⟩⟩⟩,
   ⟨3, ⟨100000000029, ⟨(te4 (fun _ => ⟨some 100000000029, [], false⟩) (ws (bb ++ [(TIM_TE_CTRL_MODE 3, 1), (TIM_TE_CTRL_WIDTH 3, 6)]))), by decide +kernel⟩⟩⟩,
   ⟨(ws (bb ++ [(TIM_CTRL_PPSOUT_EN, 1), (TIM_NSEC, 8)])), by decide +kernel⟩⟩

/-- Hypotheses of BackboneFrames, clause by clause: each holds together somewhere. -/
theorem wit_BackboneFrames :
    (∃ n : Fin 4, ∃ f : BbFrame, ∃ s : State, (portOn s ↑n = true) ∧ (2000 < bbSize f))
    ∧ (∃ n : Fin 4, ∃ f : BbFrame, ∃ vid : ℕ, ∃ s : State, (portOn s ↑n = true) ∧ (bbSize f ≤ 2000) ∧ (f.kind ≠ BbKind.ptp) ∧ (vid = frameVid f (rd s (BBS_PORT_PVID ↑n))) ∧ ((mgmtKind s f.kind && bit (destMask s f vid (↑n) false) 4) = false) ∧ (on s (BBS_QUENCH_INDROP ↑n) = true))
    ∧ (∃ n : Fin 4, ∃ f : BbFrame, ∃ vid : ℕ, ∃ s : State, (portOn s ↑n = true) ∧ (bbSize f ≤ 2000) ∧ (f.kind ≠ BbKind.ptp) ∧ (vid = frameVid f (rd s (BBS_PORT_PVID ↑n))) ∧ ((mgmtKind s f.kind && bit (destMask s f vid (↑n) false) 4) = false) ∧ (on s (BBS_QUENCH_INDROP ↑n) = false) ∧ (bit (vlanOf s vid).member ↑n = false))
    ∧ (∃ n : Fin 4, ∃ p : Fin 4, ∃ f : BbFrame, ∃ g : BbFrame, ∃ vid : ℕ, ∃ pcp : ℕ, ∃ i : ℕ, ∃ s : State, (portOn s ↑n = true) ∧ (bbSize f ≤ 2000) ∧ (f.kind ≠ BbKind.ptp) ∧ (vid = frameVid f (rd s (BBS_PORT_PVID ↑n))) ∧ (pcp = framePcp f (rd s (BBS_PORT_DEFPCP ↑n))) ∧ (bit (vlanOf s vid).member ↑n = true) ∧ (destMask s f vid (↑n) false = 2 ^ p.val) ∧ (on s (BBS_QUENCH_INDROP ↑n) = false) ∧ (on s (BBS_PORT_LEARN ↑n) = true) ∧ (bit (f.src / 2 ^ 40) 0 = false) ∧ (fdbFind s f.src vid = none) ∧ (fdbFree s = some i) ∧ (s.bbs.streams = []) ∧ (g = { dst := f.dst, src := f.src, tag := if bit (vlanOf s vid).untag ↑p = true then none else some (pcp, vid), rtag := f.rtag, kind := f.kind, rest := f.rest }) ∧ (bufferRoom s (min pcp 6) (bbSize g) = true))
    ∧ (∃ port : Fin 4, ∃ cls : Fin 8, ∃ q : BbQueued, ∃ s : State, (queueHead s ↑port ↑cls = some q) ∧ (q.launch = none) ∧ (q.back = none) ∧ (q.msg = none) ∧ (portOn s ↑port = true) ∧ (mayStart s q = true) ∧ (outranked s ↑port ↑cls = false))
    ∧ (∃ port : Fin 4, ∃ cls : Fin 8, ∃ q : BbQueued, ∃ s : State, (queueHead s ↑port ↑cls = some q) ∧ (q.launch = none) ∧ (q.back = none) ∧ (q.msg = none) ∧ (portOn s ↑port = false ∨ mayStart s q = false ∨ outranked s ↑port ↑cls = true))
    ∧ (∃ port : Fin 4, ∃ cls : Fin 8, ∃ q : BbQueued, ∃ l : ℕ, ∃ s : State, (queueHead s ↑port ↑cls = some q) ∧ (q.launch = some l) ∧ (q.back = none) ∧ (q.msg = none) ∧ (bbsOn s = true) ∧ (evcOn s) ∧ (now s + nsPerS < l))
    ∧ (∃ port : Fin 4, ∃ cls : Fin 8, ∃ q : BbQueued, ∃ l : ℕ, ∃ s : State, (queueHead s ↑port ↑cls = some q) ∧ (q.launch = some l) ∧ (q.back = none) ∧ (q.msg = none) ∧ (bbsOn s = true) ∧ (evcOn s) ∧ (l + 1000 * rd s TIM_LAUNCH_LATEWIN < now s))
    ∧ (∃ port : Fin 4, ∃ cls : Fin 8, ∃ q : BbQueued, ∃ l : ℕ, ∃ s : State, (queueHead s ↑port ↑cls = some q) ∧ (q.launch = some l) ∧ (q.back = none) ∧ (q.msg = none) ∧ (bbsOn s = true) ∧ (evcOn s) ∧ (l ≤ now s) ∧ (now s ≤ l + 1000 * rd s TIM_LAUNCH_LATEWIN) ∧ (portOn s ↑port = true) ∧ (mayStart s q = true) ∧ (outranked s ↑port ↑cls = false))
    ∧ (∃ port : Fin 4, ∃ cls : Fin 8, ∃ q : BbQueued, ∃ l : ℕ, ∃ s : State, (queueHead s ↑port ↑cls = some q) ∧ (q.launch = some l) ∧ (q.back = none) ∧ (q.msg = none) ∧ (bbsOn s = true) ∧ (evcOn s) ∧ (now s < l) ∧ (l ≤ now s + nsPerS))
    ∧ (∃ w : Sys2Proof.Writer, ∃ c : Fin 8, ∃ tail : BitVec 12, ∃ s : State, (s.bbs.txHead.length = 8) ∧ (WriteTaken w (BBS_TXTAIL_TAIL ↑c) tail.toNat s) ∧ (bbsOn s = true) ∧ (tail.toNat < rd s (BBS_TXRING_ENTRIES ↑c))) :=
  ⟨⟨3, ⟨frBig, ⟨(ws bb), by decide +kernel⟩⟩⟩,
   ⟨3, ⟨fr, ⟨5, ⟨(vl (ws (bb ++ [(BBS_QUENCH_INDROP 3, 1)]))), by decide +kernel⟩⟩⟩⟩,
   ⟨3, ⟨fr, ⟨5, ⟨(ws bb), by decide +kernel⟩⟩⟩⟩,
   ⟨3, ⟨1, ⟨fr, ⟨({ fr with tag := none } : BbFrame), ⟨5, ⟨6, ⟨1, ⟨(vl (ws bb)), by decide +kernel⟩⟩⟩⟩⟩⟩⟩⟩,
   ⟨3, ⟨5, ⟨bq, ⟨(qd bq (ws bb)), by decide +kernel⟩⟩⟩⟩,
   ⟨3, ⟨5, ⟨bq, ⟨(qd bq (ws (bb ++ [(BBS_PORT_EN 3, 0)]))), by decide +kernel⟩⟩⟩⟩,
   ⟨3, ⟨5, ⟨(bql 101000000021), ⟨101000000021, ⟨(qd (bql 101000000021) (ws bb)), by decide +kernel⟩⟩⟩⟩⟩,
   ⟨3, ⟨5, ⟨(bql 99000000000), ⟨99000000000, ⟨(qd (bql 99000000000) (ws (bb ++ [(TIM_LAUNCH_LATEWIN, 100)]))), by decide +kernel⟩⟩⟩⟩⟩,
   ⟨3, ⟨5, ⟨(bql 100000000020), ⟨100000000020, ⟨(qd (bql 100000000020) (ws (bb ++ [(TIM_LAUNCH_LATEWIN, 0)]))), by decide +kernel⟩⟩⟩⟩⟩,
   ⟨3, ⟨5, ⟨(bql 100000000021), ⟨100000000021, ⟨(qd (bql 100000000021) (ws (bb ++ [(TIM_LAUNCH_LATEWIN, 0)]))), by decide +kernel⟩⟩⟩⟩⟩,
   ⟨.host, ⟨7, ⟨3, ⟨(ws (bb ++ [(BBS_TXRING_ENTRIES 7, 4)])), by decide +kernel⟩⟩⟩⟩⟩

/-- Hypotheses of GateLists, clause by clause: each holds together somewhere. -/
theorem wit_GateLists :
    (∃ w : Sys2Proof.Writer, ∃ n : Fin 4, ∃ len : BitVec 9, ∃ s : State, (WriteTaken w (BBS_GCL_CTRL_GO ↑n) 1 s) ∧ (evcOn s) ∧ (rd s (BBS_GCL_CYCLE_CYCLE ↑n) < 10000 ∨ 1000000000 < rd s (BBS_GCL_CYCLE_CYCLE ↑n)))
    ∧ (∃ w : Sys2Proof.Writer, ∃ n : Fin 4, ∃ len : BitVec 9, ∃ s : State, (WriteTaken w (BBS_GCL_CTRL_GO ↑n) 1 s) ∧ (evcOn s) ∧ ∃ e : ℕ, (e < clampNat 1 256 len.toNat) ∧ ((gateEntry s (↑n) (1 - rd s (BBS_GCL_CTRL_OPERBANK ↑n)) e).2 < 1000))
    ∧ (∃ w : Sys2Proof.Writer, ∃ n : Fin 4, ∃ len : BitVec 9, ∃ s : State, (WriteTaken w (BBS_GCL_CTRL_GO ↑n) 1 s) ∧ (evcOn s) ∧ (10000 ≤ rd s (BBS_GCL_CYCLE_CYCLE ↑n)) ∧ (rd s (BBS_GCL_CYCLE_CYCLE ↑n) ≤ 1000000000) ∧ (2000 * rd s BBS_MGMT_MGMTWIN ≤ rd s (BBS_GCL_CYCLE_CYCLE ↑n)) ∧ (s.bbs.pend.length = 4) ∧ (∀ e < clampNat 1 256 len.toNat, 1000 ≤ (gateEntry s (↑n) (1 - rd s (BBS_GCL_CTRL_OPERBANK ↑n)) e).2))
    ∧ (∃ n : Fin 4, ∃ g : GateList, ∃ s : State, (s.bbs.pend.getD (↑n) none = some g) ∧ (bbsOn s = true))
    ∧ (∃ n : Fin 4, ∃ s : State, (on s (BBS_GCL_CTRL_GATEEN ↑n) = true) ∧ (bbsOn s = true))
    ∧ (∃ w : Sys2Proof.Writer, ∃ n : Fin 4, ∃ d : Bool, ∃ c : BitVec 7, ∃ s : State, (WriteTaken w (BBS_QUENCH_INDROP ↑n) (b2n d) s) ∧ (fieldCode s w (BBS_QUENCH_CLASSES ↑n) c.toNat = fOK) ∧ (evcOn s) ∧ (on s (BBS_QUENCH_INDROP ↑n) ≠ d ∨ rd s (BBS_QUENCH_CLASSES ↑n) ≠ c.toNat)) :=
  ⟨⟨.host, ⟨3, ⟨2, ⟨(ws (bb ++ [(BBS_GCL_CYCLE_CYCLE 3, 9999)])), by decide +kernel⟩⟩⟩⟩,
   ⟨.host, ⟨3, ⟨2, ⟨(ws (bb ++ [(BBS_GCL_CTRL_OPERBANK 3, 0), (BBS_GCLE_ENTRY 3 1 1, 999), (BBS_GCL_CYCLE_CYCLE 3, 20000)])), ⟨by decide +kernel, ⟨by decide +kernel, ⟨1, by decide +kernel⟩⟩⟩⟩⟩⟩⟩,
   ⟨.host, ⟨3, ⟨2, ⟨(ws (bb ++ [(BBS_GCL_CTRL_OPERBANK 3, 0), (BBS_GCLE_ENTRY 3 1 1, 1000), (BBS_GCLE_ENTRY 3 1 0, 1000), (BBS_GCL_CYCLE_CYCLE 3, 20000), (BBS_MGMT_MGMTWIN, 10)])), by decide +kernel⟩⟩⟩⟩,
   ⟨3, ⟨gl, ⟨(let s := ws bb; { s with bbs := { s.bbs with pend := [none, none, none, some gl] } }), by decide +kernel⟩⟩⟩,
   ⟨3, ⟨(let s := ws (bb ++ [(BBS_GCL_CTRL_GATEEN 3, 1), (BBS_GCLE_ENTRY 3 0 0, 4000)]); { s with bbs := { s.bbs with oper := [gl, gl, gl, gl] } }), by decide +kernel⟩⟩,
   ⟨.host, ⟨3, ⟨true, ⟨0x7F, ⟨(ws bb), by decide +kernel⟩⟩⟩⟩⟩⟩

/-- Hypotheses of BackboneTables, clause by clause: each holds together somewhere. -/
theorem wit_BackboneTables :
    (∃ w : Sys2Proof.Writer, ∃ tb : Fin 4, ∃ i : BitVec 14, ∃ s : State, (WriteTaken w BBS_TBLCMD_GO 1 s) ∧ (i.toNat < tableSize ↑tb))
    ∧ (∃ w : Sys2Proof.Writer, ∃ tb : Fin 4, ∃ i : BitVec 14, ∃ s : State, (WriteTaken w BBS_TBLCMD_GO 1 s) ∧ (i.toNat < tableSize ↑tb) ∧ (Assoc.sorted s.bbs.vlan = true) ∧ (Assoc.sorted s.bbs.fdb = true) ∧ (Assoc.sorted s.bbs.streams = true))
    ∧ (∃ w : Sys2Proof.Writer, ∃ tb : Fin 4, ∃ i : BitVec 14, ∃ s : State, (WriteTaken w BBS_TBLCMD_GO 1 s) ∧ (i.toNat < tableSize ↑tb) ∧ (tableRefused s (↑tb) i.toNat = true) ∧ (evcOn s))
    ∧ (∃ w : Sys2Proof.Writer, ∃ tb : Fin 4, ∃ i : BitVec 14, ∃ s : State, (WriteTaken w BBS_TBLCMD_GO 1 s) ∧ (i.toNat < tableSize ↑tb) ∧ (↑tb = 0) ∧ (tableRefused s 0 i.toNat = false))
    ∧ (∃ w : Sys2Proof.Writer, ∃ s : State, (WriteTaken w BBS_TBLCMD_GO 1 s) ∧ ∃ i : ℕ, ∃ e : FdbEntry, (i < 16384) ∧ (fdbFind s (rd s (BBS_TBLDATA_DATA 0) * 2 ^ 16 + bits (rd s (BBS_TBLDATA_DATA 1)) 16 16) (bits (rd s (BBS_TBLDATA_DATA 1)) 0 12) = some (i, e)))
    ∧ (∃ w : Sys2Proof.Writer, ∃ s : State, (WriteTaken w BBS_TBLCMD_GO 1 s) ∧ (fdbFind s (rd s (BBS_TBLDATA_DATA 0) * 2 ^ 16 + bits (rd s (BBS_TBLDATA_DATA 1)) 16 16) (bits (rd s (BBS_TBLDATA_DATA 1)) 0 12) = none))
    ∧ (∃ i : BitVec 14, ∃ e : FdbEntry, ∃ s : State, (Assoc.sorted s.bbs.fdb = true) ∧ (Assoc.find i.toNat s.bbs.fdb = some e) ∧ (bbsOn s = true) ∧ (e.static = false) ∧ (rd s BBS_AGE ≠ 0) ∧ (e.at_ + rd s BBS_AGE * nsPerS ≤ upNow s))
    ∧ (∃ i : BitVec 14, ∃ e : FdbEntry, ∃ s : State, (Assoc.sorted s.bbs.fdb = true) ∧ (Assoc.find i.toNat s.bbs.fdb = some e) ∧ (e.static = true ∨ upNow s < e.at_ + rd s BBS_AGE * nsPerS))
    ∧ (∃ n : Fin 256, ∃ e : StreamEntry, ∃ s : State, (Assoc.find (↑n) s.bbs.streams = some e) ∧ (e.valid = true) ∧ (e.rec_ = true) ∧ (bbsOn s = true) ∧ (evcOn s) ∧ (e.last.isSome = true) ∧ (e.kept + e.resetMs * 1000000 ≤ upNow s))
    ∧ (∃ n : Fin 256, ∃ e : StreamEntry, ∃ s : State, (Assoc.find (↑n) s.bbs.streams = some e) ∧ (e.valid = true) ∧ (e.rec_ = true) ∧ (bbsOn s = true) ∧ (evcOn s) ∧ (e.runPort.isSome = true) ∧ (e.silent = false) ∧ (e.runSince + nsPerS ≤ upNow s))
    ∧ (∃ n : Fin 4, ∃ up : Bool, ∃ s : State, (bit (rd s BBS_STATUS_LINK) ↑n ≠ up) ∧ (islandPowered s 11 = true) ∧ (evcOn s) ∧ (up = true → ↑n ≤ 1 → bit (rd s BBS_STATUS_SFPREF) ↑n = false))
    ∧ (∃ n : Fin 2, ∃ baseR : Bool, ∃ mw : ℕ, ∃ s : State, (baseR = true) ∧ (mw ≤ 1000))
    ∧ (∃ n : Fin 2, ∃ baseR : Bool, ∃ mw : ℕ, ∃ s : State, (baseR = false ∨ 1000 < mw) ∧ (evcOn s)) :=
  ⟨⟨.host, ⟨1, ⟨0, ⟨(vl (ws bb)), by decide +kernel⟩⟩⟩⟩,
   ⟨.host, ⟨0, ⟨5, ⟨(vl (ws bb)), by decide +kernel⟩⟩⟩⟩,
   ⟨.host, ⟨0, ⟨4095, ⟨(ws bb), by decide +kernel⟩⟩⟩⟩,
   ⟨.host, ⟨0, ⟨5, ⟨(ws (bb ++ [(BBS_TBLDATA_DATA 0, 0x8003001F)])), by decide +kernel⟩⟩⟩⟩,
   ⟨.host, ⟨(vl (ws (bb ++ [(BBS_TBLDATA_DATA 0, 0x02000000), (BBS_TBLDATA_DATA 1, 0x00090005)]))), ⟨by decide +kernel, ⟨0, ⟨fdbE, by decide +kernel⟩⟩⟩⟩⟩,
   ⟨.host, ⟨(vl (ws (bb ++ [(BBS_TBLDATA_DATA 0, 0x02000000), (BBS_TBLDATA_DATA 1, 0x00090006)]))), by decide +kernel⟩⟩,
   ⟨0, ⟨fdbE, ⟨(vl (ws (bb ++ [(BBS_AGE, 9)]))), by decide +kernel⟩⟩⟩,
   ⟨0, ⟨{ fdbE with static := true }, ⟨(let s := ws bb; { s with bbs := { s.bbs with fdb := [(0, { fdbE with static := true })] } }), by decide +kernel⟩⟩⟩,
   ⟨255, ⟨stE, ⟨(let s := ws bb; { s with bbs := { s.bbs with streams := [(255, stE)] } }), by decide +kernel⟩⟩⟩,
   ⟨255, ⟨stE, ⟨(let s := ws bb; { s with bbs := { s.bbs with streams := [(255, stE)] } }), by decide +kernel⟩⟩⟩,
   ⟨0, ⟨true, ⟨(ws (bb ++ [(BBS_STATUS_LINK, 8)])), by decide +kernel⟩⟩⟩,
   ⟨1, ⟨true, ⟨1000, ⟨(ws (bb ++ [(BBS_STATUS_SFPREF, 2)])), by decide +kernel⟩⟩⟩⟩,
   ⟨1, ⟨true, ⟨1001, ⟨(ws bb), by decide +kernel⟩⟩⟩⟩⟩

/-- Hypotheses of CanChannels, clause by clause: each holds together somewhere. -/
theorem wit_CanChannels :
    (∃ w : Sys2Proof.Writer, ∃ n : Fin 2, ∃ s : State, (WriteTaken w (CGW_CH_CFG_CHEN ↑n) 1 s) ∧ (on s (CGW_CH_CFG_CHEN ↑n) = false) ∧ (canCheck s ↑n = 0))
    ∧ (∃ w : Sys2Proof.Writer, ∃ n : Fin 2, ∃ s : State, (WriteTaken w (CGW_CH_CFG_CHEN ↑n) 1 s) ∧ (on s (CGW_CH_CFG_CHEN ↑n) = false) ∧ (canCheck s ↑n ≠ 0) ∧ (evcOn s))
    ∧ (∃ w : Sys2Proof.Writer, ∃ n : Fin 2, ∃ s : State, (WriteTaken w (CGW_CH_CFG_CHEN ↑n) 0 s)) :=
  ⟨⟨.host, ⟨1, ⟨({ ws cg with mem := cgm }), by decide +kernel⟩⟩⟩,
   ⟨.host, ⟨1, ⟨({ ws (cg ++ [(IMG_SIZE0_IPL, 0)]) with mem := cgm }), by decide +kernel⟩⟩⟩,
   ⟨.host, ⟨1, ⟨({ ws (cg ++ [(CGW_CH_CFG_CHEN 1, 1)]) with mem := cgm }), by decide +kernel⟩⟩⟩⟩

/-- Hypotheses of FieldInputsAndCounters, clause by clause: each holds together somewhere. -/
theorem wit_FieldInputsAndCounters :
    (∃ levels : BitVec 8, ∃ s : State, (fioActive s = true) ∧ (evcOn s) ∧ ∃ k : Fin 8, (bit (rd s FIO_FCERR_LINE) ↑k = false) ∧ (fcMode s ↑k = 0))
    ∧ (∃ levels : BitVec 8, ∃ s : State, (fioActive s = true) ∧ (evcOn s) ∧ ∃ k : Fin 8, (bit (rd s FIO_FCERR_LINE) ↑k = false) ∧ (fcMode s ↑k = 1) ∧ (fcLevel s ↑k = false) ∧ (fcNext s levels ↑k = true))
    ∧ (∃ levels : BitVec 8, ∃ s : State, (fioActive s = true) ∧ (evcOn s) ∧ ∃ k : Fin 8, (bit (rd s FIO_FCERR_LINE) ↑k = false) ∧ (fcMode s ↑k = 1) ∧ (fcLevel s ↑k = true ∨ fcNext s levels ↑k = false))
    ∧ (∃ levels : BitVec 8, ∃ s : State, (fioActive s = true) ∧ (evcOn s) ∧ ∃ k : Fin 8, (bit (rd s FIO_FCERR_LINE) ↑k = false) ∧ (fcMode s ↑k = 2) ∧ (fcLevel s ↑k ≠ fcNext s levels ↑k))
    ∧ (∃ levels : BitVec 8, ∃ s : State, (fioActive s = true) ∧ (evcOn s) ∧ ∃ k : Fin 8, (bit (rd s FIO_FCERR_LINE) ↑k = false) ∧ (fcMode s ↑k = 3) ∧ (↑k < 4) ∧ (bit (rd s FIO_FCERR_LINE) (2 * ↑k) = false) ∧ (bit (rd s FIO_FCERR_LINE) (2 * ↑k + 1) = false) ∧ (fcLevel s (2 * ↑k) ≠ fcNext s levels (2 * ↑k)) ∧ (fcLevel s (2 * ↑k + 1) ≠ fcNext s levels (2 * ↑k + 1)))
    ∧ (∃ levels : BitVec 8, ∃ s : State, (fioActive s = true) ∧ (evcOn s) ∧ ∃ k : Fin 8, (bit (rd s FIO_FCERR_LINE) ↑k = false) ∧ (fcMode s ↑k = 4) ∧ (↑k < 4) ∧ (bit (rd s FIO_FCERR_LINE) (2 * ↑k) = false) ∧ (bit (rd s FIO_FCERR_LINE) (2 * ↑k + 1) = false) ∧ (fcLevel s (2 * ↑k) = false) ∧ (fcNext s levels (2 * ↑k) = true))
    ∧ (∃ k : Fin 8, ∃ s : State, (fioActive s = true) ∧ (bit (rd s FIO_FCERR_LINE) ↑k = false) ∧ (evcOn s))
    ∧ (∃ k : Fin 8, ∃ s : State, (fioActive s = true))
    ∧ (∃ w : Sys2Proof.Writer, ∃ k : Fin 8, ∃ v : Word, ∃ s : State, (WriteTaken w (FIO_FCSET_VALUE ↑k) (BitVec.toNat v) s))
    ∧ (∃ n : Fin 24, ∃ level : Bool, ∃ s : State, (fioActive s = true) ∧ (chMode s ↑n = 1) ∧ (on s (I.FIO_RAW ↑n) ≠ level))
    ∧ (∃ n : Fin 24, ∃ level : Bool, ∃ s : State, (fioActive s = true) ∧ (2 ≤ chMode s ↑n))
    ∧ (∃ n : Fin 24, ∃ level : Bool, ∃ s : State, (fioActive s = true) ∧ (chMode s ↑n = 0)) :=
  ⟨⟨1, ⟨(ws (ff ++ [(FIO_FCCFG_MODES, 0)])), ⟨by decide +kernel, ⟨by decide +kernel, ⟨0, by decide +kernel⟩⟩⟩⟩⟩,
   ⟨1, ⟨(ws (ff ++ [(FIO_FCCFG_MODES, 1), (FIO_FCCNT_COUNT 0, 0xFFFFFFFF), (I.FIO_FCLEVEL 0, 0)])), ⟨by decide +kernel, ⟨by decide +kernel, ⟨0, by decide +kernel⟩⟩⟩⟩⟩,
   ⟨1, ⟨(ws (ff ++ [(FIO_FCCFG_MODES, 1), (I.FIO_FCLEVEL 0, 1)])), ⟨by decide +kernel, ⟨by decide +kernel, ⟨0, by decide +kernel⟩⟩⟩⟩⟩,
   ⟨0, ⟨(ws (ff ++ [(FIO_FCCFG_MODES, 0x400000), (I.FIO_FCLEVEL 7, 1)])), ⟨by decide +kernel, ⟨by decide +kernel, ⟨7, by decide +kernel⟩⟩⟩⟩⟩,
   ⟨0x30, ⟨(ws (ff ++ [(FIO_FCCFG_MODES, 0xC0), (I.FIO_FCLEVEL 4, 0), (I.FIO_FCLEVEL 5, 0)])), ⟨by decide +kernel, ⟨by decide +kernel, ⟨2, by decide +kernel⟩⟩⟩⟩⟩,
   ⟨0x10, ⟨(ws (ff ++ [(FIO_FCCFG_MODES, 0x100), (I.FIO_FCLEVEL 4, 0), (I.FIO_FCLEVEL 5, 1), (FIO_FCCNT_COUNT 2, 0)])), ⟨by decide +kernel, ⟨by decide +kernel, ⟨2, by decide +kernel⟩⟩⟩⟩⟩,
   ⟨7, ⟨(ws ff), by decide +kernel⟩⟩,
   ⟨7, ⟨(ws (ff ++ [(FIO_FCERR_LINE, 0x80)])), by decide +kernel⟩⟩,
   ⟨.host, ⟨7, ⟨0xFFFFFFFF, ⟨(ws ff), by decide +kernel⟩⟩⟩⟩,
   ⟨23, ⟨true, ⟨(ws (ff ++ [(FIO_CHCFG_MODE 23, 1), (I.FIO_RAW 23, 0), (I.FIO_RAWT 23, 99999999999)])), by decide +kernel⟩⟩⟩,
   ⟨20, ⟨true, ⟨(ws (ff ++ [(FIO_CHCFG_MODE 20, 2)])), by decide +kernel⟩⟩⟩,
   ⟨0, ⟨true, ⟨(ws (ff ++ [(FIO_CHCFG_MODE 0, 0)])), by decide +kernel⟩⟩⟩⟩

/-- Hypotheses of FieldOutputs, clause by clause: each holds together somewhere. -/
theorem wit_FieldOutputs :
    (∃ n : Fin 24, ∃ s : State, (bit (rd s FIO_OUT) ↑n = true) ∧ (on s (I.FIO_OVLNOW ↑n) = false))
    ∧ (∃ w : Sys2Proof.Writer, ∃ n : Fin 24, ∃ s : State, (WriteTaken w (FIO_CHSTAT_CLR ↑n) 1 s) ∧ (on s (FIO_CHSTAT_LATCH ↑n) = true))
    ∧ (∃ n : Fin 24, ∃ s : State, (openApplies s ↑n = true) ∧ (on s (FIO_CHSTAT_OPEN ↑n) = false) ∧ (evcOn s))
    ∧ (∃ n : Fin 24, ∃ s : State, (fioActive s = true) ∧ (chMode s ↑n = 2 ∨ chMode s ↑n = 3) ∧ (bit (rd s FIO_OUT) ↑n = false) ∧ (on s (FIO_CHSTAT_EXTV ↑n) = false) ∧ (evcOn s))
    ∧ (∃ n : Fin 24, ∃ s : State, (fioActive s = true) ∧ (chMode s ↑n = 2) ∧ (on s (FIO_CHSTAT_OTEMP ↑n) = false) ∧ (evcOn s))
    ∧ (∃ l2 : Bool, ∃ present : Bool, ∃ f : Fld, ∃ s : State, (f = if l2 = true then FIO_STATUS_L2OK else FIO_STATUS_L1OK) ∧ (on s f ≠ present) ∧ (rd s SYS_IDENT_VARIANT ≠ 2) ∧ (evcOn s) ∧ ∃ p : Fin 4, (l2 = true) ∧ (present = false) ∧ (fioActive s = true) ∧ (pairUsed s ↑p = true) ∧ (on s (FIO_PAIRSTAT_DEMAND ↑p) = true) ∧ (on s (FIO_PAIRSTAT_LATCHED ↑p) = false))
    ∧ (∃ l2 : Bool, ∃ present : Bool, ∃ f : Fld, ∃ s : State, (f = if l2 = true then FIO_STATUS_L2OK else FIO_STATUS_L1OK) ∧ (on s f ≠ present) ∧ (rd s SYS_IDENT_VARIANT ≠ 2) ∧ (evcOn s))
    ∧ (∃ w : Sys2Proof.Writer, ∃ s : State, (WriteTaken w FIO_CTRL_EN 1 s) ∧ (on s FIO_CTRL_EN = false) ∧ (on s FIO_CTRL_BUSY_OFF = false) ∧ (fioCheck s = 0))
    ∧ (∃ w : Sys2Proof.Writer, ∃ s : State, (WriteTaken w FIO_CTRL_EN 1 s) ∧ (on s FIO_CTRL_EN = false) ∧ (on s FIO_CTRL_BUSY_OFF = false) ∧ (fioCheck s ≠ 0) ∧ (evcOn s))
    ∧ (∃ w : Sys2Proof.Writer, ∃ s : State, (WriteTaken w FIO_CTRL_EN 1 s) ∧ (on s FIO_CTRL_EN = false) ∧ (on s FIO_CTRL_BUSY_OFF = true))
    ∧ (∃ w : Sys2Proof.Writer, ∃ s : State, (WriteTaken w FIO_CTRL_EN 0 s) ∧ (on s FIO_CTRL_EN = true))
    ∧ (∃ s : State, (fioActive s = true) ∧ (on s CYC_STATE_SAFEOUT = false) ∧ (on s FIO_STATUS_WDEXP = false) ∧ (upNow s < rd s I.FIO_REFT + watchdogTime s))
    ∧ (∃ s : State, (fioActive s = true) ∧ (on s CYC_STATE_SAFEOUT = false) ∧ (on s FIO_STATUS_WDEXP = false) ∧ (rd s I.FIO_REFT + watchdogTime s ≤ upNow s) ∧ (evcOn s))
    ∧ (∃ n : Fin 24, ∃ s : State, (on s (I.FIO_OVLNOW ↑n) = true) ∧ (evcOn s) ∧ (upNow s < rd s (I.FIO_OVLT ↑n) + 200000))
    ∧ (∃ n : Fin 24, ∃ s : State, (on s (I.FIO_OVLNOW ↑n) = true) ∧ (evcOn s) ∧ (chMode s ↑n = 2) ∧ (rd s (I.FIO_OVLT ↑n) + 200000 ≤ upNow s) ∧ (2 ≤ rd s (I.FIO_CONSEC ↑n)))
    ∧ (∃ n : Fin 24, ∃ s : State, (on s (I.FIO_OVLNOW ↑n) = true) ∧ (evcOn s) ∧ (chMode s ↑n = 2) ∧ (rd s (I.FIO_OVLT ↑n) + 200000 ≤ upNow s) ∧ (rd s (I.FIO_CONSEC ↑n) < 2))
    ∧ (∃ n : Fin 24, ∃ s : State, (on s (I.FIO_OVLNOW ↑n) = true) ∧ (evcOn s) ∧ (chMode s ↑n = 3) ∧ (16 ≤ ↑n) ∧ (rd s (I.FIO_OVLT ↑n) + 200000 ≤ upNow s) ∧ (on s (FIO_PAIRSTAT_LATCHED ((↑n - 16) / 2)) = false))
    ∧ (∃ n : Fin 24, ∃ s : State, (chMode s ↑n = 2) ∧ (on s (FIO_CHSTAT_OVL ↑n) = true) ∧ (on s (FIO_CHSTAT_LATCH ↑n) = false) ∧ (bit (rd s I.FIO_CMD) ↑n = false ∨ upNow s < rd s (I.FIO_OFFT ↑n) + 1000000 * rd s FIO_RETRY))
    ∧ (∃ n : Fin 24, ∃ s : State, (chMode s ↑n = 2) ∧ (on s (FIO_CHSTAT_OVL ↑n) = true) ∧ (on s (FIO_CHSTAT_LATCH ↑n) = false) ∧ (bit (rd s I.FIO_CMD) ↑n = true) ∧ (outWanted s ↑n = true) ∧ (rd s (I.FIO_OFFT ↑n) + 1000000 * rd s FIO_RETRY ≤ upNow s) ∧ (groupOk s ↑n = true) ∧ (fioActive s = true) ∧ (on s (FIO_CHSTAT_OTEMP ↑n) = false) ∧ (row3Now s = on s I.FIO_ROW3))
    ∧ (∃ n : Fin 24, ∃ s : State, (chMode s ↑n = 2) ∧ (on s (FIO_CHSTAT_OVL ↑n) = true) ∧ (on s (FIO_CHSTAT_LATCH ↑n) = false) ∧ (bit (rd s I.FIO_CMD) ↑n = true) ∧ (rd s (I.FIO_OFFT ↑n) + 1000000 * rd s FIO_RETRY ≤ upNow s) ∧ (on s FIO_STATUS_WDEXP = true) ∧ (rd s (FIO_CHCFG_SAFE ↑n) = 0)) :=
  ⟨⟨23, ⟨(ws (ff ++ [(FIO_OUT, 0x800000), (I.FIO_OVLNOW 23, 0)])), by decide +kernel⟩⟩,
   ⟨.host, ⟨3, ⟨(ws (ff ++ [(FIO_CHSTAT_LATCH 3, 1)])), by decide +kernel⟩⟩⟩,
   ⟨3, ⟨(ws (ff ++ [(FIO_CHCFG_MODE 3, 1), (FIO_CHCFG_ODET 3, 1), (FIO_CHSTAT_OPEN 3, 0)])), by decide +kernel⟩⟩,
   ⟨3, ⟨(ws (ff ++ [(FIO_CHCFG_MODE 3, 2), (FIO_CHSTAT_EXTV 3, 0)])), by decide +kernel⟩⟩,
   ⟨3, ⟨(ws (ff ++ [(FIO_CHCFG_MODE 3, 2), (FIO_CHSTAT_OTEMP 3, 0), (FIO_OUT, 8)])), by decide +kernel⟩⟩,
   ⟨true, ⟨false, ⟨FIO_STATUS_L2OK, ⟨(ws pp), ⟨by decide +kernel, ⟨by decide +kernel, ⟨by decide +kernel, ⟨by decide +kernel, ⟨1, by decide +kernel⟩⟩⟩⟩⟩⟩⟩⟩⟩,
   ⟨false, ⟨true, ⟨FIO_STATUS_L1OK, ⟨(ws (pp ++ [(FIO_STATUS_L1OK, 0)])), by decide +kernel⟩⟩⟩⟩,
   ⟨.host, ⟨(ws (ff ++ [(FIO_CTRL_EN, 0)])), by decide +kernel⟩⟩,
   ⟨.host, ⟨(ws (ff ++ [(FIO_CTRL_EN, 0), (FIO_CHCFG_MODE 17, 3)])), by decide +kernel⟩⟩,
   ⟨.host, ⟨(ws (ff ++ [(FIO_CTRL_EN, 0), (FIO_CTRL_BUSY_OFF, 1)])), by decide +kernel⟩⟩,
   ⟨.host, ⟨(ws (ff ++ [(FIO_OUT, 0xFFFFFF), (FIO_CHCFG_MODE 1, 2)])), by decide +kernel⟩⟩,
   ⟨(ws (ff ++ [(FIO_CHCFG_MODE 3, 2), (FIO_CHCFG_SAFE 3, 0), (FIO_OUT, 8), (I.FIO_REFT, 99999999999)])), by decide +kernel⟩,
   ⟨(ws (ff ++ [(FIO_CHCFG_MODE 3, 2), (FIO_CHCFG_SAFE 3, 0), (FIO_OUT, 8)])), by decide +kernel⟩,
   ⟨23, ⟨(ws (ff ++ [(FIO_CHCFG_MODE 23, 2), (I.FIO_OVLNOW 23, 1), (I.FIO_OVLT 23, 99999999999), (FIO_OUT, 0x800000)])), by decide +kernel⟩⟩,
   ⟨23, ⟨(ws (ff ++ [(FIO_CHCFG_MODE 23, 2), (I.FIO_OVLNOW 23, 1), (I.FIO_CONSEC 23, 2), (FIO_OUT, 0x800000)])), by decide +kernel⟩⟩,
   ⟨23, ⟨(ws (ff ++ [(FIO_CHCFG_MODE 23, 2), (I.FIO_OVLNOW 23, 1), (I.FIO_CONSEC 23, 1), (FIO_OUT, 0x800000)])), by decide +kernel⟩⟩,
   ⟨18, ⟨(ws (pp ++ [(I.FIO_OVLNOW 18, 1)])), by decide +kernel⟩⟩,
   ⟨3, ⟨(ws (ff ++ [(FIO_CHCFG_MODE 3, 2), (FIO_CHSTAT_OVL 3, 1), (FIO_CHSTAT_LATCH 3, 0), (I.FIO_WANT, 0), (I.FIO_CMD, 0)])), by decide +kernel⟩⟩,
   ⟨3, ⟨(ws (ff ++ [(FIO_CHCFG_MODE 3, 2), (FIO_CHSTAT_OVL 3, 1), (FIO_CHSTAT_LATCH 3, 0), (I.FIO_WANT, 8), (I.FIO_CMD, 8), (FIO_CHSTAT_OTEMP 3, 0)])), by decide +kernel⟩⟩,
   ⟨3, ⟨(ws (ff ++ [(FIO_CHCFG_MODE 3, 2), (FIO_CHSTAT_OVL 3, 1), (FIO_CHSTAT_LATCH 3, 0), (I.FIO_CMD, 8), (FIO_CHSTAT_OTEMP 3, 0), (FIO_STATUS_WDEXP, 1), (FIO_CHCFG_SAFE 3, 0)])), by decide +kernel⟩⟩⟩

/-- Hypotheses of SafeOutputPairs, clause by clause: each holds together somewhere. -/
theorem wit_SafeOutputPairs :
    (∃ p : Fin 4, ∃ e : ℕ, ∃ s : State, (on s (FIO_PAIRSTAT_ON ↑p) = true) ∧ (e = upNow s / (125000 * max 1 (rd s FIO_PAIRTP_TPP))) ∧ (e % 8 ≠ ↑p) ∧ (e % 8 ≠ ↑p + 4))
    ∧ (∃ p : Fin 4, ∃ e : ℕ, ∃ s : State, (on s (FIO_PAIRSTAT_ON ↑p) = true) ∧ (e = upNow s / (125000 * max 1 (rd s FIO_PAIRTP_TPP))) ∧ (e % 4 = ↑p) ∧ (rd s (I.FIO_TPT ↑p) = e + 1))
    ∧ (∃ p : Fin 4, ∃ e : ℕ, ∃ s : State, (on s (FIO_PAIRSTAT_ON ↑p) = true) ∧ (e = upNow s / (125000 * max 1 (rd s FIO_PAIRTP_TPP))) ∧ (e % 4 = ↑p) ∧ (rd s (I.FIO_TPT ↑p) ≠ e + 1) ∧ (e % 8 = ↑p))
    ∧ (∃ p : Fin 4, ∃ e : ℕ, ∃ s : State, (on s (FIO_PAIRSTAT_ON ↑p) = true) ∧ (e = upNow s / (125000 * max 1 (rd s FIO_PAIRTP_TPP))) ∧ (e % 4 = ↑p) ∧ (rd s (I.FIO_TPT ↑p) ≠ e + 1) ∧ (e % 8 = ↑p + 4))
    ∧ (∃ p : Fin 4, ∃ e : ℕ, ∃ s : State, (on s (FIO_PAIRSTAT_ON ↑p) = true) ∧ (e = upNow s / (125000 * max 1 (rd s FIO_PAIRTP_TPP))) ∧ (e % 4 = ↑p) ∧ (rd s (I.FIO_TPT ↑p) ≠ e + 1) ∧ (on s (FIO_PAIRSTAT_LATCHED ↑p) = false) ∧ (evcOn s))
    ∧ (∃ p : Fin 4, ∃ s : State, (on s (FIO_PAIRSTAT_LATCHED ↑p) = false) ∧ (evcOn s) ∧ ∃ code : Fin 8, (pairFaultApplies s ↑p ↑code = true))
    ∧ (∃ p : Fin 4, ∃ s : State, (on s (FIO_PAIRSTAT_LATCHED ↑p) = false) ∧ (evcOn s) ∧ (fioActive s = true) ∧ (pairUsed s ↑p = true) ∧ (on s (FIO_PAIRSTAT_DEMAND ↑p) = true) ∧ (rd s (I.FIO_DEMT ↑p) + 1000000 * rd s FIO_PAIRCFG_PWDT ≤ upNow s))
    ∧ (∃ w : Sys2Proof.Writer, ∃ p : Fin 4, ∃ s : State, (WriteTaken w (FIO_PAIRSTAT_CLR ↑p) 1 s) ∧ (on s (FIO_PAIRSTAT_DEMAND ↑p) = false) ∧ (on s (FIO_PAIRSTAT_LATCHED ↑p) = true))
    ∧ (∃ w : Sys2Proof.Writer, ∃ p : Fin 4, ∃ s : State, (WriteTaken w (FIO_PAIRSTAT_CLR ↑p) 1 s) ∧ (on s (FIO_PAIRSTAT_DEMAND ↑p) = true ∨ on s (FIO_PAIRSTAT_LATCHED ↑p) = false)) :=
  ⟨⟨1, ⟨8000, ⟨(ws pp), by decide +kernel⟩⟩⟩,
   ⟨1, ⟨8001, ⟨(ws (pp ++ [(TIM_NSEC, 12500000), (I.FIO_TPT 1, 8002)])), by decide +kernel⟩⟩⟩,
   ⟨1, ⟨8001, ⟨(ws (pp ++ [(TIM_NSEC, 12500000)])), by decide +kernel⟩⟩⟩,
   ⟨1, ⟨8005, ⟨(ws (pp ++ [(TIM_NSEC, 62500000)])), by decide +kernel⟩⟩⟩,
   ⟨1, ⟨8005, ⟨(ws (pp ++ [(TIM_NSEC, 62500000)])), by decide +kernel⟩⟩⟩,
   ⟨1, ⟨(ws pp), ⟨by decide +kernel, ⟨by decide +kernel, ⟨1, by decide +kernel⟩⟩⟩⟩⟩,
   ⟨1, ⟨(ws pp), by decide +kernel⟩⟩,
   ⟨.host, ⟨1, ⟨(ws (pp ++ [(FIO_PAIRSTAT_DEMAND 1, 0), (FIO_PAIRSTAT_LATCHED 1, 1), (FIO_PAIRSTAT_CODE 1, 4)])), by decide +kernel⟩⟩⟩,
   ⟨.host, ⟨1, ⟨(ws (pp ++ [(FIO_PAIRSTAT_LATCHED 1, 1), (FIO_PAIRSTAT_CODE 1, 4)])), by decide +kernel⟩⟩⟩⟩

/-- Hypotheses of SafeguardCarriers, clause by clause: each holds together somewhere. -/
theorem wit_SafeguardCarriers :
    (∃ port : Fin 4, ∃ udp : ℕ, ∃ bs : List Byte, ∃ s : State, (on s SFU_CTRL_EN = true) ∧ (udp = rd s SFU_BBCFG_PORT ∨ udp = rd s SFU_BBCFG_JX5PORT) ∧ (dgramMatch s (↑port) udp bs = none) ∧ (evcOn s))
    ∧ (∃ port : Fin 4, ∃ udp : ℕ, ∃ bs : List Byte, ∃ s : State, (on s SFU_CTRL_EN = true) ∧ (udp = rd s SFU_BBCFG_PORT ∨ udp = rd s SFU_BBCFG_JX5PORT) ∧ ∃ c : ℕ, ∃ p : ℕ, (dgramMatch s (↑port) udp bs = some (c, p)) ∧ (∀ d ∈ s.dgrams, replaced s c p d = false))
    ∧ (∃ port : Fin 4, ∃ udp : ℕ, ∃ bs : List Byte, ∃ s : State, (on s SFU_CTRL_EN = true) ∧ (udp = rd s SFU_BBCFG_PORT ∨ udp = rd s SFU_BBCFG_JX5PORT) ∧ ∃ c : ℕ, ∃ p : ℕ, (dgramMatch s (↑port) udp bs = some (c, p)) ∧ (evcOn s) ∧ (∃ d ∈ s.dgrams, replaced s c p d = true))
    ∧ (∃ s : State, (publishDue s = false))
    ∧ (∃ s : State, (on s SFU_CTRL_EN = true) ∧ (publishDue s = true) ∧ (sfuWithheld s = true) ∧ (fioActive s = true))
    ∧ (∃ s : State, (on s SFU_CTRL_EN = true) ∧ (publishDue s = true) ∧ (sfuWithheld s = true))
    ∧ (∃ s : State, (on s SFU_CTRL_EN = true) ∧ (publishDue s = true) ∧ (sfuWithheld s = false))
    ∧ (∃ s : State, ∃ b : ℕ, (b < 65534) ∧ ((connOf s (b / 512)).state = 2) ∧ ((connOf s (b / 512)).fsv = false))
    ∧ (∃ s : State, ∃ b : ℕ, (b < 65534) ∧ ((connOf s (b / 512)).state ≠ 2 ∨ (connOf s (b / 512)).fsv = true))
    ∧ (∃ c : Fin 128, ∃ s : State, (rd s SFU_STATUS_STATE = 4) ∧ ((connOf s ↑c).state = 2 ∨ (connOf s ↑c).state = 4) ∧ (connExpired sfArea (↑c) s = false))
    ∧ (∃ c : Fin 128, ∃ s : State, (rd s SFU_STATUS_STATE = 4) ∧ ((connOf s ↑c).state = 2 ∨ (connOf s ↑c).state = 4) ∧ (connExpired sfArea (↑c) s = true) ∧ (evcOn s))
    ∧ (∃ a : Fin 64, ∃ s : State, (rd s SFU_STATUS_STATE = 4) ∧ ((axisOf s ↑a).resp = 2) ∧ (axisLasts s (↑a) (axCfg s sfArea ↑a).tss1 = true))
    ∧ (∃ a : Fin 64, ∃ s : State, (rd s SFU_STATUS_STATE = 4) ∧ ((axisOf s ↑a).resp ≠ 2 ∨ axisLasts s (↑a) (axCfg s sfArea ↑a).tss1 = false))
    ∧ (∃ a : Fin 64, ∃ s : State, (rd s SFU_STATUS_STATE = 4) ∧ ((axisOf s ↑a).resp = 1) ∧ ((axisOf s ↑a).still = none) ∧ (axisLasts s (↑a) (axCfg s sfArea ↑a).tss2 = true))
    ∧ (∃ c : Fin 128, ∃ s : State, (rd s SFU_STATUS_STATE = 4) ∧ ((connOf s ↑c).state ≠ 0) ∧ ((cnCfg s sfArea ↑c).transport = 2) ∧ (evcOn s) ∧ ((connOf s ↑c).lost1 = false) ∧ ((connOf s ↑c).at1 + 1000000 * (cnCfg s sfArea ↑c).wdm ≤ sfT0 s))
    ∧ (∃ c : Fin 128, ∃ s : State, (rd s SFU_STATUS_STATE = 4) ∧ ((connOf s ↑c).state ≠ 0) ∧ ((cnCfg s sfArea ↑c).transport = 2) ∧ (evcOn s) ∧ ((connOf s ↑c).lost2 = false) ∧ ((connOf s ↑c).at2 + 1000000 * (cnCfg s sfArea ↑c).wdm ≤ sfT0 s)) :=
  ⟨⟨2, ⟨5000, ⟨[0x22, 0, 0, 7], ⟨(sm sf), by decide +kernel⟩⟩⟩⟩,
   ⟨0, ⟨5000, ⟨[0x22, 0, 0, 7], ⟨(sm sf), ⟨by decide +kernel, ⟨by decide +kernel, ⟨0, ⟨0, by decide +kernel⟩⟩⟩⟩⟩⟩⟩⟩,
   ⟨0, ⟨5000, ⟨[0x22, 0, 0, 7], ⟨(let s := sm sf; { s with dgrams := [⟨0, 0, 7, [1]⟩] }), ⟨by decide +kernel, ⟨by decide +kernel, ⟨0, ⟨0, by decide +kernel⟩⟩⟩⟩⟩⟩⟩⟩,
   ⟨(sm (sf ++ [(I.SFU_PUBDUE, 0)])), by decide +kernel⟩,
   ⟨(let s := sm (sf ++ [(I.SFU_PUBDUE, 1)]); { s with mem := rec0 sfArea ++ cells sfStamp 8 8 }), by decide +kernel⟩,
   ⟨(sm (sf ++ pp ++ [(SFU_CTRL_EN, 1), (SFU_STATUS_STATE, 3), (I.SFU_PUBDUE, 1)])), by decide +kernel⟩,
   ⟨(sm (pp ++ sf ++ [(FIO_PAIRCFG_PEN, 15), (FIO_CHCFG_MODE 18, 3), (FIO_CHCFG_MODE 19, 3), (I.SFU_PUBDUE, 1)])), by decide +kernel⟩,
   ⟨(kn 2 sf), ⟨512, by decide +kernel⟩⟩,
   ⟨(kn 3 sf), ⟨0xFFFD, by decide +kernel⟩⟩,
   ⟨1, ⟨(let s := kn 2 sf; putConn 1 { Conn.off with state := 2, wd := 5 } s), by decide +kernel⟩⟩,
   ⟨1, ⟨(kn 2 sf), by decide +kernel⟩⟩,
   ⟨5, ⟨(let s := kn 2 sf; { s with safe := { s.safe with axes := [(5, { Axis.idle with resp := 2 })] } }), by decide +kernel⟩⟩,
   ⟨63, ⟨(kn 2 sf), by decide +kernel⟩⟩,
   ⟨5, ⟨(kn 2 sf), by decide +kernel⟩⟩,
   ⟨1, ⟨(kn 1 sf), by decide +kernel⟩⟩,
   ⟨1, ⟨(kn 3 sf), by decide +kernel⟩⟩⟩

/-- Hypotheses of SafetyCommissioning, clause by clause: each holds together somewhere. -/
theorem wit_SafetyCommissioning :
    (∃ w : Sys2Proof.Writer, ∃ b : ℕ, ∃ s : State, (WriteTaken w SFU_CFGCTL_LOAD 1 s) ∧ (b = 16 * rd s SFU_CFGBASE_BASE) ∧ (evcOn s) ∧ (loadResult s b ≠ 0))
    ∧ (∃ w : Sys2Proof.Writer, ∃ b : ℕ, ∃ s : State, (WriteTaken w SFU_CFGCTL_LOAD 1 s) ∧ (b = 16 * rd s SFU_CFGBASE_BASE) ∧ (evcOn s) ∧ (loadResult s b = 0) ∧ (Sys2Proof.Inv s))
    ∧ (∃ w : Sys2Proof.Writer, ∃ s : State, (WriteTaken w SFU_CFGCTL_COMMISSION 1 s) ∧ (evcOn s) ∧ (rd s SFU_STATUS_STATE = 0 ∨ rd s SFU_STATUS_STATE = 2))
    ∧ (∃ w : Sys2Proof.Writer, ∃ s : State, (WriteTaken w SFU_CFGCTL_COMMISSION 1 s) ∧ (evcOn s) ∧ (rd s SFU_STATUS_STATE ≠ 0) ∧ (rd s SFU_STATUS_STATE ≠ 2) ∧ (rd s SFU_CMTCV ≠ rd s SFU_CFGCV_CV))
    ∧ (∃ w : Sys2Proof.Writer, ∃ s : State, (WriteTaken w SFU_CFGCTL_COMMISSION 1 s) ∧ (evcOn s) ∧ (rd s SFU_STATUS_STATE = 1) ∧ (rd s SFU_CMTCV = rd s SFU_CFGCV_CV) ∧ (rd s CYC_STATE ≠ 1))
    ∧ (∃ w : Sys2Proof.Writer, ∃ s : State, (WriteTaken w SFU_CFGCTL_DECOMMISSION 1 s) ∧ (evcOn s) ∧ (rd s CYC_STATE = 0) ∧ (rd s SFU_STATUS_STATE ≠ 0))
    ∧ (∃ w : Sys2Proof.Writer, ∃ s : State, (WriteTaken w SFU_CFGCTL_DECOMMISSION 1 s) ∧ (evcOn s) ∧ (rd s CYC_STATE ≠ 0 ∨ rd s SFU_STATUS_STATE = 0)) :=
  ⟨⟨.host, ⟨0x100000, ⟨(ws (sf ++ [(SFU_CFGBASE_BASE, 0x10000), (SFU_CFGBASE_LEN, 0x40)])), by decide +kernel⟩⟩⟩,
   ⟨.host, ⟨0x100000, ⟨{ (ws (sf ++ [(SFU_CFGBASE_BASE, 0x10000), (SFU_CFGBASE_LEN, 0x40), (I.SFU_RTID, 5)])) with mem := cells 0x100000 12 0x50000000000000001 }, by decide +kernel⟩⟩⟩,
   ⟨.host, ⟨(ws (sf ++ [(SFU_STATUS_STATE, 0)])), by decide +kernel⟩⟩,
   ⟨.host, ⟨(ws (sf ++ [(SFU_STATUS_STATE, 3), (SFU_CMTCV, 1), (SFU_CFGCV_CV, 2)])), by decide +kernel⟩⟩,
   ⟨.host, ⟨(ws (sf ++ [(SFU_STATUS_STATE, 1), (SFU_CMTCV, 2), (SFU_CFGCV_CV, 2)])), by decide +kernel⟩⟩,
   ⟨.host, ⟨(ws sf), by decide +kernel⟩⟩,
   ⟨.host, ⟨(ws (sf ++ [(CYC_STATE, 1)])), by decide +kernel⟩⟩⟩

/-- Hypotheses of RefereePolls, clause by clause: each holds together somewhere. -/
theorem wit_RefereePolls :
    (∃ id : BitVec 16, ∃ e : BitVec 32, ∃ a : Fin 3, ∃ s : State, (inPair s = true) ∧ (id.toNat ≠ rd s PAIR_CTRL_PAIRID))
    ∧ (∃ id : BitVec 16, ∃ e : BitVec 32, ∃ a : Fin 3, ∃ s : State, (inPair s = true) ∧ (id.toNat = rd s PAIR_CTRL_PAIRID) ∧ (evcOn s) ∧ (pollAccepted s e.toNat ↑a = false))
    ∧ (∃ id : BitVec 16, ∃ e : BitVec 32, ∃ a : Fin 3, ∃ s : State, (inPair s = true) ∧ (id.toNat = rd s PAIR_CTRL_PAIRID) ∧ (evcOn s) ∧ (pollAccepted s e.toNat ↑a = true) ∧ (3 ≤ rd s PAIR_STATUS_MISSED))
    ∧ (∃ id : BitVec 16, ∃ e : BitVec 32, ∃ a : Fin 3, ∃ s : State, (inPair s = true) ∧ (id.toNat = rd s PAIR_CTRL_PAIRID) ∧ (evcOn s) ∧ (pollAccepted s e.toNat ↑a = true) ∧ (prState s = prREADY) ∧ (↑a = prPos s))
    ∧ (∃ id : BitVec 16, ∃ e : BitVec 32, ∃ a : Fin 3, ∃ s : State, (inPair s = true) ∧ (id.toNat = rd s PAIR_CTRL_PAIRID) ∧ (evcOn s) ∧ (pollAccepted s e.toNat ↑a = true) ∧ (prState s = prACTIVE) ∧ (↑a = prPos s))
    ∧ (∃ id : BitVec 16, ∃ e : BitVec 32, ∃ a : Fin 3, ∃ s : State, (inPair s = true) ∧ (id.toNat = rd s PAIR_CTRL_PAIRID) ∧ (evcOn s) ∧ (pollAccepted s e.toNat ↑a = true) ∧ (prState s = prSYNC) ∧ (↑a = prPos s))
    ∧ (∃ id : BitVec 16, ∃ e : BitVec 32, ∃ a : Fin 3, ∃ s : State, (inPair s = true) ∧ (id.toNat = rd s PAIR_CTRL_PAIRID) ∧ (evcOn s) ∧ (pollAccepted s e.toNat ↑a = true) ∧ (prState s = prACTIVE) ∧ (↑a ≠ prPos s) ∧ (on s I.UPD_WARM = false))
    ∧ (∃ s : State, (inPair s = true) ∧ (rd s I.PAIR_HBT + 990000 ≤ upNow s) ∧ (evcOn s) ∧ (rd s PAIR_STATUS_MISSED < 255) ∧ (rd s PAIR_STATUS_MISSED = 2))
    ∧ (∃ s : State, (inPair s = true) ∧ (rd s I.PAIR_HBT + 990000 ≤ upNow s) ∧ (evcOn s) ∧ (rd s PAIR_STATUS_MISSED < 255) ∧ (prState s = prACTIVE) ∧ (1 ≤ rd s PAIR_STATUS_MISSED) ∧ (on s PAIR_STATUS_PLINK = false) ∧ (on s I.UPD_WARM = false))
    ∧ (∃ s : State, (inPair s = true) ∧ (rd s I.PAIR_HBT + 990000 ≤ upNow s) ∧ (evcOn s) ∧ (rd s PAIR_STATUS_MISSED < 255) ∧ (prState s ≠ prACTIVE ∨ rd s PAIR_STATUS_MISSED = 0 ∨ on s PAIR_STATUS_PLINK = true))
    ∧ (∃ s : State, (s.pending = []) ∧ (s.heldAcc = []) ∧ (s.regq = []) ∧ (prState s = prPROMOTING) ∧ (rd s I.PWR_LAMP = 0) ∧ (rd s SLC_READMIT_PHASE = 0) ∧ (upNow (when (islandPowered s 19) timTick s) < rd s I.PAIR_PROMT + 20000))
    ∧ (∃ s : State, (s.pending = []) ∧ (s.heldAcc = []) ∧ (s.regq = []) ∧ (prState s = prPROMOTING) ∧ (rd s I.PWR_LAMP = 0) ∧ (rd s SLC_READMIT_PHASE = 0) ∧ (on s I.PAIR_PROM2 = false) ∧ (rd s I.PAIR_PROMT + 60000 ≤ upNow (when (islandPowered s 19) timTick s)) ∧ (startBlocked s = false) ∧ (on s PWR_SUPPLY_HOLDUP_RDY = true))
    ∧ (∃ s : State, (s.pending = []) ∧ (s.heldAcc = []) ∧ (s.regq = []) ∧ (prState s = prPROMOTING) ∧ (rd s I.PWR_LAMP = 0) ∧ (rd s SLC_READMIT_PHASE = 0) ∧ (on s I.PAIR_PROM2 = false) ∧ (rd s I.PAIR_PROMT + 60000 ≤ upNow (when (islandPowered s 19) timTick s)) ∧ (startBlocked s = false) ∧ (on s PWR_SUPPLY_HOLDUP_RDY = false))
    ∧ (∃ s : State, (s.pending = []) ∧ (s.heldAcc = []) ∧ (s.regq = []) ∧ (prState s = prPROMOTING) ∧ (rd s I.PWR_LAMP = 0) ∧ (rd s SLC_READMIT_PHASE = 0) ∧ (on s I.PAIR_PROM2 = false) ∧ (rd s I.PAIR_PROMT + 60000 ≤ upNow (when (islandPowered s 19) timTick s)) ∧ (startBlocked s = true))
    ∧ (∃ id : BitVec 16, ∃ e : BitVec 32, ∃ a : Fin 3, ∃ s : State, (inPair s = true) ∧ (id.toNat = rd s PAIR_CTRL_PAIRID) ∧ (on s PAIR_STATUS_PLINK = true) ∧ (pollHere s = true))
    ∧ (∃ id : BitVec 16, ∃ e : BitVec 32, ∃ a : Fin 3, ∃ s : State, (inPair s = true) ∧ (id.toNat = rd s PAIR_CTRL_PAIRID) ∧ (on s PAIR_STATUS_PLINK = true) ∧ (pollHere s = false) ∧ (pollAccepted s e.toNat ↑a = true) ∧ (evcOn s))
    ∧ (∃ s : State, (upNow s < rd s I.PAIR_HBT + 990000))
    ∧ (∃ s : State, (inPair s = true) ∧ (on s PAIR_STATUS_REFOK = true) ∧ (on s I.PAIR_STSENT = false) ∧ (inStatusSlot s (prPos s) = true) ∧ (on s I.PAIR_RESIGN = false))
    ∧ (∃ s : State, (inPair s = true) ∧ (on s PAIR_STATUS_REFOK = true) ∧ (on s I.PAIR_STSENT = false) ∧ (inStatusSlot s (prPos s) = true) ∧ (on s I.PAIR_RESIGN = true) ∧ (on s I.PAIR_RESIGNSENT = false) ∧ (evcOn s))
    ∧ (∃ s : State, (inPair s = true) ∧ (on s PAIR_STATUS_REFOK = true) ∧ (on s I.PAIR_STSENT = true ∨ inStatusSlot s (prPos s) = false))
    ∧ (∃ s : State, (inPair s = true) ∧ (on s PAIR_STATUS_REFOK = false) ∧ (on s PAIR_STATUS_RELAY = true) ∧ (on s PAIR_STATUS_PLINK = true) ∧ (on s I.PAIR_RESIGN = false ∨ on s I.PAIR_RESIGNSENT = true))
    ∧ (∃ s : State, (inPair s = true) ∧ (on s PAIR_STATUS_REFOK = false) ∧ (on s PAIR_STATUS_RELAY = true) ∧ (on s PAIR_STATUS_PLINK = true) ∧ (on s I.PAIR_RESIGN = true) ∧ (on s I.PAIR_RESIGNSENT = false) ∧ (evcOn s))
    ∧ (∃ s : State, (inPair s = true) ∧ ∃ p : List Byte, (on s PAIR_STATUS_REFOK = true) ∧ (on s PAIR_STATUS_PLINK = true) ∧ (on s I.PAIR_PARTREF = false) ∧ (on s I.PAIR_STPART = false) ∧ (inStatusSlot s (3 - prPos s) = true)) :=
  ⟨⟨6, ⟨10, ⟨1, ⟨(ws pr), by decide +kernel⟩⟩⟩⟩,
   ⟨5, ⟨9, ⟨1, ⟨(ws pr), by decide +kernel⟩⟩⟩⟩,
   ⟨5, ⟨10, ⟨0, ⟨(ws (pr ++ [(PAIR_STATUS_MISSED, 3)])), by decide +kernel⟩⟩⟩⟩,
   ⟨5, ⟨10, ⟨1, ⟨(ws (pr ++ [(PAIR_STATUS_STATE, 2)])), by decide +kernel⟩⟩⟩⟩,
   ⟨5, ⟨10, ⟨1, ⟨(ws (pr ++ [(PAIR_STATUS_STATE, 3)])), by decide +kernel⟩⟩⟩⟩,
   ⟨5, ⟨0xFFFFFFFF, ⟨1, ⟨(ws pr), by decide +kernel⟩⟩⟩⟩,
   ⟨5, ⟨9, ⟨2, ⟨(ws (pr ++ [(PAIR_STATUS_STATE, 3), (CYC_STATE, 1)])), by decide +kernel⟩⟩⟩⟩,
   ⟨(ws (pr ++ [(PAIR_STATUS_MISSED, 2)])), by decide +kernel⟩,
   ⟨(ws (pr ++ [(PAIR_STATUS_STATE, 3), (PAIR_STATUS_MISSED, 1), (PAIR_STATUS_PLINK, 0)])), by decide +kernel⟩,
   ⟨(ws (pr ++ [(PAIR_STATUS_STATE, 3), (PAIR_STATUS_MISSED, 0), (PAIR_STATUS_PLINK, 0)])), by decide +kernel⟩,
   ⟨(ws (pr ++ [(PAIR_STATUS_STATE, 8), (I.PWR_LAMP, 0), (SLC_READMIT_PHASE, 0), (I.PAIR_PROMT, 99999999999)])), by decide +kernel⟩,
   ⟨(ws (pr ++ [(PAIR_STATUS_STATE, 8), (I.PWR_LAMP, 0), (SLC_READMIT_PHASE, 0), (I.PAIR_PROMT, 0), (I.PAIR_PROM2, 0), (PWR_SUPPLY_HOLDUP_RDY, 1)])), by decide +kernel⟩,
   ⟨(ws (pr ++ [(PAIR_STATUS_STATE, 8), (I.PWR_LAMP, 0), (SLC_READMIT_PHASE, 0), (I.PAIR_PROMT, 0), (I.PAIR_PROM2, 0), (PWR_SUPPLY_HOLDUP_RDY, 0)])), by decide +kernel⟩,
   ⟨(ws (pr ++ [(PAIR_STATUS_STATE, 8), (I.PWR_LAMP, 0), (SLC_READMIT_PHASE, 0), (I.PAIR_PROMT, 0), (I.PAIR_PROM2, 0), (CYC_STATE_RSTBLOCK, 1)])), by decide +kernel⟩,
   ⟨5, ⟨10, ⟨2, ⟨(ws (pr ++ [(I.PAIR_POLLT, 100000000010)])), by decide +kernel⟩⟩⟩⟩,
   ⟨5, ⟨10, ⟨2, ⟨(ws pr), by decide +kernel⟩⟩⟩⟩,
   ⟨(ws (pr ++ [(I.PAIR_HBT, 99999999999)])), by decide +kernel⟩,
   ⟨(ws (pr ++ [(I.PAIR_POLLT, 99999970021), (I.PAIR_STSENT, 0)])), by decide +kernel⟩,
   ⟨(ws (pr ++ [(I.PAIR_RESIGN, 1), (I.PAIR_POLLT, 99999975021), (I.PAIR_STSENT, 0)])), by decide +kernel⟩,
   ⟨(ws (pr ++ [(I.PAIR_STSENT, 1)])), by decide +kernel⟩,
   ⟨(ws (pr ++ [(PAIR_STATUS_REFOK, 0), (PAIR_STATUS_RELAY, 1)])), by decide +kernel⟩,
   ⟨(ws (pr ++ [(PAIR_STATUS_REFOK, 0), (PAIR_STATUS_RELAY, 1), (I.PAIR_RESIGN, 1), (I.PAIR_RESIGNSENT, 0)])), by decide +kernel⟩,
   ⟨(ws (pr ++ [(I.PAIR_POLLT, 99999770021)])), ⟨by decide +kernel, ⟨[1, 2, 3, 4, 5, 6, 7, 0x10, 9, 10, 11, 12, 13, 14, 15, 16, 17, 18, 19, 20], by decide +kernel⟩⟩⟩⟩

/-- Hypotheses of PairLinkAndHealth, clause by clause: each holds together somewhere. -/
theorem wit_PairLinkAndHealth :
    (∃ s : State, (on s PAIR_STATUS_PLINK = true) ∧ (evcOn s) ∧ (prJOINING ≤ prState s) ∧ (prState s ≤ prSYNC))
    ∧ (∃ s : State, (on s PAIR_STATUS_PLINK = true) ∧ (evcOn s) ∧ (prState s < prJOINING ∨ prSYNC < prState s))
    ∧ (∃ s : State, (inPair s = true) ∧ (on s PAIR_STATUS_PLINK = false) ∧ (evcOn s))
    ∧ (∃ s : State, (inPair s = true) ∧ (on s PAIR_STATUS_PLINK = false) ∧ (evcOn s) ∧ (prState s = prJOINING))
    ∧ (∃ s : State, (inPair s = true))
    ∧ (∃ ok : Bool, ∃ s : State, (pairStandby s = true) ∧ (rd s I.PAIR_SELFT + 10000000000 ≤ upNow s))
    ∧ (∃ s : State, (inPair s = true) ∧ (rd s I.PAIR_HEALTHT + 10000000 ≤ upNow s))
    ∧ (∃ st : Fin 10, ∃ ref : Bool, ∃ h : BitVec 32, ∃ s : State, (inPair s = true) ∧ (on s PAIR_STATUS_PLINK = true))
    ∧ (∃ w : Sys2Proof.Writer, ∃ s : State, (WriteTaken w PAIR_CTRL_SWITCH 1 s) ∧ (prState s = prACTIVE) ∧ (rd s I.PAIR_PARTNER = prSYNC))
    ∧ (∃ w : Sys2Proof.Writer, ∃ s : State, (WriteTaken w PAIR_CTRL_SWITCH 1 s) ∧ (prState s ≠ prACTIVE ∨ rd s I.PAIR_PARTNER ≠ prSYNC))
    ∧ (∃ w : Sys2Proof.Writer, ∃ s : State, (WriteTaken w PAIR_CTRL_REJOIN 1 s) ∧ (prState s = prSTALE) ∧ (rd s PAIR_REFACT_ACTIVE ≠ 0) ∧ (rd s PAIR_REFACT_ACTIVE ≠ prPos s) ∧ (on s PAIR_STATUS_PLINK = true))
    ∧ (∃ w : Sys2Proof.Writer, ∃ s : State, (WriteTaken w PAIR_CTRL_REJOIN 1 s) ∧ (prState s ≠ prSTALE))
    ∧ (∃ t1 : ℤ, ∃ t2 : ℤ, ∃ t3 : ℤ, ∃ t4 : ℤ, ∃ ofs : ℤ, ∃ lamp : Fin 8, ∃ s : State, (on s PAIR_STATUS_PLINK = true) ∧ (ofs = (t2 - t1 - (t4 - t3)) / 2) ∧ (prState s = prACTIVE))
    ∧ (∃ t1 : ℤ, ∃ t2 : ℤ, ∃ t3 : ℤ, ∃ t4 : ℤ, ∃ ofs : ℤ, ∃ lamp : Fin 8, ∃ s : State, (on s PAIR_STATUS_PLINK = true) ∧ (ofs = (t2 - t1 - (t4 - t3)) / 2) ∧ (pairStandby s = true) ∧ (-2 ^ 31 ≤ ofs) ∧ (ofs < 2 ^ 31) ∧ (timState s ≠ tmPAIR))
    ∧ (∃ t1 : ℤ, ∃ t2 : ℤ, ∃ t3 : ℤ, ∃ t4 : ℤ, ∃ ofs : ℤ, ∃ lamp : Fin 8, ∃ s : State, (on s PAIR_STATUS_PLINK = true) ∧ (ofs = (t2 - t1 - (t4 - t3)) / 2) ∧ (pairStandby s = true) ∧ (-2 ^ 31 ≤ ofs) ∧ (ofs < 2 ^ 31) ∧ (timState s = tmPAIR) ∧ (on s I.TIM_PAIRSTEP = false))
    ∧ (∃ t1 : ℤ, ∃ t2 : ℤ, ∃ t3 : ℤ, ∃ t4 : ℤ, ∃ ofs : ℤ, ∃ lamp : Fin 8, ∃ s : State, (on s PAIR_STATUS_PLINK = true) ∧ (ofs = (t2 - t1 - (t4 - t3)) / 2) ∧ (pairStandby s = true) ∧ (-2 ^ 31 ≤ ofs) ∧ (ofs < 2 ^ 31) ∧ (timState s = tmPAIR) ∧ (on s I.TIM_PAIRSTEP = true) ∧ (evcOn s) ∧ (ofs ≤ ↑(now s)) ∧ (↑(now s) - ofs < 2 ^ 64 * ↑nsPerS)) :=
  ⟨⟨(ws pr), by decide +kernel⟩,
   ⟨(ws (pr ++ [(PAIR_STATUS_STATE, 3)])), by decide +kernel⟩,
   ⟨(ws (pr ++ [(PAIR_STATUS_PLINK, 0)])), by decide +kernel⟩,
   ⟨(ws (pr ++ [(PAIR_STATUS_PLINK, 0), (PAIR_STATUS_STATE, 4)])), by decide +kernel⟩,
   ⟨(ws pr), by decide +kernel⟩,
   ⟨true, ⟨(ws (pr ++ [(I.PAIR_SELFPASS, 255)])), by decide +kernel⟩⟩,
   ⟨(ws pr), by decide +kernel⟩,
   ⟨9, ⟨true, ⟨0xFFFFFFFF, ⟨(ws pr), by decide +kernel⟩⟩⟩⟩,
   ⟨.host, ⟨(ws (pr ++ [(PAIR_STATUS_STATE, 3), (I.PAIR_PARTNER, 6)])), by decide +kernel⟩⟩,
   ⟨.host, ⟨(ws (pr ++ [(PAIR_STATUS_STATE, 3), (I.PAIR_PARTNER, 5)])), by decide +kernel⟩⟩,
   ⟨.host, ⟨(ws (pr ++ [(PAIR_STATUS_STATE, 7), (I.PAIR_NOJOIN, 1)])), by decide +kernel⟩⟩,
   ⟨.host, ⟨(ws pr), by decide +kernel⟩⟩,
   ⟨0, ⟨20, ⟨100, ⟨110, ⟨5, ⟨3, ⟨(ws (pr ++ [(PAIR_STATUS_STATE, 3)])), by decide +kernel⟩⟩⟩⟩⟩⟩⟩,
   ⟨0x100000000, ⟨0, ⟨0, ⟨0, ⟨(-0x80000000), ⟨5, ⟨(ws (pr ++ [(TIM_STATUS_STATE, 3)])), by decide +kernel⟩⟩⟩⟩⟩⟩⟩,
   ⟨0, ⟨0xFFFFFFFF, ⟨7, ⟨7, ⟨0x7FFFFFFF, ⟨5, ⟨(ws (pr ++ [(I.TIM_PAIRSTEP, 0)])), by decide +kernel⟩⟩⟩⟩⟩⟩⟩,
   ⟨0, ⟨0xFFFFFFFF, ⟨7, ⟨7, ⟨0x7FFFFFFF, ⟨5, ⟨(ws (pr ++ [(I.TIM_PAIRSTEP, 1)])), by decide +kernel⟩⟩⟩⟩⟩⟩⟩⟩

/-- Hypotheses of StandbyFollows, clause by clause: each holds together somewhere. -/
theorem wit_StandbyFollows :
    (∃ ver : Byte, ∃ issue : ℕ, ∃ variant : ℕ, ∃ id : BitVec 16, ∃ pos : Fin 3, ∃ same : Bool, ∃ rtid : BitVec 32, ∃ fault : Bool, ∃ units : BitVec 32, ∃ e : ℕ, ∃ s : State, (evcOn s) ∧ (prState s = prJOINING) ∧ (e = joinErr s (BitVec.toNat ver) issue variant id.toNat (↑pos) same rtid.toNat fault) ∧ (e = 0))
    ∧ (∃ ver : Byte, ∃ issue : ℕ, ∃ variant : ℕ, ∃ id : BitVec 16, ∃ pos : Fin 3, ∃ same : Bool, ∃ rtid : BitVec 32, ∃ fault : Bool, ∃ units : BitVec 32, ∃ e : ℕ, ∃ s : State, (evcOn s) ∧ (prState s = prJOINING) ∧ (e = joinErr s (BitVec.toNat ver) issue variant id.toNat (↑pos) same rtid.toNat fault) ∧ (e ≠ 0))
    ∧ (∃ ver : Byte, ∃ issue : ℕ, ∃ variant : ℕ, ∃ id : BitVec 16, ∃ pos : Fin 3, ∃ same : Bool, ∃ rtid : BitVec 32, ∃ fault : Bool, ∃ units : BitVec 32, ∃ e : ℕ, ∃ s : State, (evcOn s) ∧ (prState s = prACTIVE) ∧ (e = joinErr s (BitVec.toNat ver) issue variant id.toNat (↑pos) same rtid.toNat (ctlState s == stFAULT)))
    ∧ (∃ seq : BitVec 64, ∃ s : State, (prState s = prCOPYING ∨ prState s = prSYNC) ∧ (on s I.PAIR_INCOMPL = false))
    ∧ (∃ seq : BitVec 64, ∃ s : State, (prState s = prCOPYING ∨ prState s = prSYNC) ∧ (on s I.PAIR_INCOMPL = true) ∧ (evcOn s))
    ∧ (∃ d : Delta, ∃ s : State, (on s I.PAIR_INCOMPL = true) ∧ (d.seq = rd s PAIR_ANNOUNCED) ∧ (evcOn s) ∧ (prState s = prCOPYING) ∧ (on s I.PAIR_LASTBLK = true))
    ∧ (∃ d : Delta, ∃ s : State, (on s I.PAIR_INCOMPL = true) ∧ (d.seq = rd s PAIR_ANNOUNCED) ∧ (evcOn s) ∧ (prState s = prCOPYING) ∧ (on s I.PAIR_LASTBLK = false))
    ∧ (∃ d : Delta, ∃ s : State, (on s I.PAIR_INCOMPL = true) ∧ (d.seq = rd s PAIR_ANNOUNCED) ∧ (evcOn s) ∧ (prState s = prSYNC) ∧ (verifySame (verifyRun d s) (deltaApply d s) = true))
    ∧ (∃ d : Delta, ∃ s : State, (on s I.PAIR_INCOMPL = true) ∧ (d.seq = rd s PAIR_ANNOUNCED) ∧ (evcOn s) ∧ (prState s = prSYNC) ∧ (verifySame (verifyRun d s) (deltaApply d s) = false) ∧ (rd s I.PAIR_VERMISS < 2))
    ∧ (∃ d : Delta, ∃ s : State, (on s I.PAIR_INCOMPL = true) ∧ (d.seq = rd s PAIR_ANNOUNCED) ∧ (evcOn s) ∧ (prState s = prSYNC) ∧ (verifySame (verifyRun d s) (deltaApply d s) = false) ∧ (2 ≤ rd s I.PAIR_VERMISS))
    ∧ (∃ seq : BitVec 64, ∃ s : State, (prState s = prACTIVE))
    ∧ (∃ c : Fin 4, ∃ bs : List Byte, ∃ s : State, (on s (I.JLA_MIRROR ↑c) = true) ∧ (on s PAIR_STATUS_PLINK = true))
    ∧ (∃ c : Fin 4, ∃ bs : List Byte, ∃ s : State, (on s (I.JLA_MIRROR ↑c) = true) ∧ (on s PAIR_STATUS_PLINK = true) ∧ (evcOn s))
    ∧ (∃ c : Fin 4, ∃ t0 : ℤ, ∃ bytes : List Byte, ∃ slot : ℕ, ∃ s : State, (inPair s = true) ∧ (on s PAIR_STATUS_PLINK = true) ∧ (on s (JLA_CTRL_EN ↑c) = true) ∧ (jState s ↑c = jlNORMAL) ∧ ((jch s ↑c).live = true) ∧ ((jParse bytes).dst = 3617642905600 + ↑c) ∧ ((jParse bytes).ether = 34997) ∧ ((jParse bytes).hcrcOk = true) ∧ ((jParse bytes).startup = false ∨ slot ≤ 1) ∧ (jPlace s (↑c) t0 = JPlace.static slot) ∧ (inWindow s (↑c) t0 (jAp s (↑c) slot) = true) ∧ (jRest s (↑c) (typeInSlot s (↑c) slot (jParse bytes)) (some slot) (jParse bytes) = none) ∧ (quenched s (↑c) slot = false) ∧ (keptOf s (↑c) false slot = none) ∧ (s.jla.length = 4))
    ∧ (∃ a : ℕ, ∃ bs : List Byte, ∃ remain : BitVec 32, ∃ s : State, (Sys2Proof.Inv s) ∧ (copyBlock s a bs.length = true) ∧ (prState s = prCOPYING))
    ∧ (∃ a : ℕ, ∃ bs : List Byte, ∃ remain : BitVec 32, ∃ s : State, (Sys2Proof.Inv s) ∧ (copyBlock s a bs.length = true) ∧ (prState s = prACTIVE) ∧ (rd s I.PAIR_PARTNER = prCOPYING) ∧ (on s PAIR_STATUS_PLINK = true)) :=
  ⟨⟨1, ⟨3, ⟨1, ⟨5, ⟨2, ⟨true, ⟨77, ⟨false, ⟨9, ⟨0, ⟨(ws (pr ++ [(PAIR_STATUS_STATE, 4)])), by decide +kernel⟩⟩⟩⟩⟩⟩⟩⟩⟩⟩⟩,
   ⟨1, ⟨3, ⟨1, ⟨5, ⟨2, ⟨true, ⟨77, ⟨true, ⟨9, ⟨6, ⟨(ws (pr ++ [(PAIR_STATUS_STATE, 4)])), by decide +kernel⟩⟩⟩⟩⟩⟩⟩⟩⟩⟩⟩,
   ⟨1, ⟨3, ⟨1, ⟨5, ⟨2, ⟨true, ⟨77, ⟨false, ⟨9, ⟨0, ⟨(ws (pr ++ [(PAIR_STATUS_STATE, 3)])), by decide +kernel⟩⟩⟩⟩⟩⟩⟩⟩⟩⟩⟩,
   ⟨0xFFFFFFFFFFFFFFFF, ⟨(ws pr), by decide +kernel⟩⟩,
   ⟨5, ⟨(ws (pr ++ [(I.PAIR_INCOMPL, 1)])), by decide +kernel⟩⟩,
   ⟨dl, ⟨(ws (pr ++ [(I.PAIR_INCOMPL, 1), (PAIR_STATUS_STATE, 5), (I.PAIR_LASTBLK, 1)])), by decide +kernel⟩⟩,
   ⟨dl, ⟨(ws (pr ++ [(I.PAIR_INCOMPL, 1), (PAIR_STATUS_STATE, 5)])), by decide +kernel⟩⟩,
   ⟨dl, ⟨(ws (pr ++ [(I.PAIR_INCOMPL, 1)])), by decide +kernel⟩⟩,
   ⟨{ dl with lines := [(0x100040, [1])] }, ⟨(ws (pr ++ [(I.PAIR_INCOMPL, 1)])), by decide +kernel⟩⟩,
   ⟨{ dl with lines := [(0x100040, [1])] }, ⟨(ws (pr ++ [(I.PAIR_INCOMPL, 1), (I.PAIR_VERMISS, 2)])), by decide +kernel⟩⟩,
   ⟨7, ⟨(ws (pr ++ [(PAIR_STATUS_STATE, 3)])), by decide +kernel⟩⟩,
   ⟨2, ⟨[1, 2], ⟨(ws (pr ++ [(I.JLA_MIRROR 2, 1)])), by decide +kernel⟩⟩⟩,
   ⟨2, ⟨[1, 2], ⟨(ws (pr ++ [(I.JLA_MIRROR 2, 1)])), by decide +kernel⟩⟩⟩,
   ⟨2, ⟨6330, ⟨fr4, ⟨4, ⟨(jlv (ws (jl1 ++ [(PAIR_STATUS_STATE, 6), (PAIR_STATUS_POS, 2), (PAIR_STATUS_PLINK, 1), (JLA_CTRL_PATHB_EN 2, 0)]))), by decide +kernel⟩⟩⟩⟩⟩,
   ⟨0x100000, ⟨(List.replicate 64 3), ⟨0, ⟨(ws (pr ++ [(PAIR_STATUS_STATE, 5), (PAIR_RGN_BASE 0, 16), (PAIR_RGN_SIZE 0, 1)])), by decide +kernel⟩⟩⟩⟩,
   ⟨0x1000001000, ⟨(List.replicate 64 3), ⟨0, ⟨(ws (pr ++ [(PAIR_STATUS_STATE, 3), (I.PAIR_PARTNER, 5)])), by decide +kernel⟩⟩⟩⟩⟩

end Sys2Proof.Tests
end

section
/-! SUPPORT. The Sheaf instruction set: what one instruction does after its checks, lanes and masks, the program fault, the branch
stack, control, and the stores of edge instructions; with these the statements on bit logic and edges are proved, and those on the
branch stack and on control refuted. -/

namespace Sys2Proof.Proofs

open Sys2Proof.Machine R Sys2Proof.Laws

/-! Register fields that stay -/

theorem fieldsSameBut_of_regs {l : List Fld} {s t : State} (h : t.regs = s.regs) : FieldsSameBut l s t :=
  fun g _ _ => by simp only [rd, h]

theorem fieldsSameBut_wr {l : List Fld} {s t : State} (f : Fld) (v : Nat) (hf : f ∈ l) (h : FieldsSameBut l s t) :
    FieldsSameBut l s (wr f v t) :=
  fun g hg he => (rd_wr_ne t f g v (hg f hf)).trans (h g hg he)

theorem memSame_of_mem {s t : State} (h : t.mem = s.mem) : MemSame s t := fun _ => by rw [h]

/-! One instruction: its effect, then clocks, count and pc -/

/-- What follows the effect of every instruction that does not fault: solver clocks, instruction count and pc. -/
def retire (clk next : Nat) (t : State) : State :=
  t |> wr I.LSV_CLKNOW (rd t I.LSV_CLKNOW + clk) |> inc I.LSV_INSTRNOW |> wr LSV_STATUS_PC next
    |> wr I.LSV_PCOUT (b2n (decide (2 ^ 20 ≤ next)))

@[simp] theorem retire_sol (clk next : Nat) (t : State) : (retire clk next t).sol = t.sol := rfl
@[simp] theorem retire_recs (clk next : Nat) (t : State) : (retire clk next t).recs = t.recs := rfl
@[simp] theorem retire_mem (clk next : Nat) (t : State) : (retire clk next t).mem = t.mem := rfl

/-- The fields that `retire` writes. -/
abbrev retireFields : List Fld := [LSV_STATUS_PC, I.LSV_PCOUT, I.LSV_CLKNOW, I.LSV_INSTRNOW]

theorem rd_retire (clk next : Nat) (t : State) (g : Fld) (hg : ∀ f ∈ retireFields, g.key ≠ f.key) :
    rd (retire clk next t) g = rd t g := by
  simp only [List.forall_mem_cons] at hg
  obtain ⟨hpc, hout, hclk, hins, -⟩ := hg
  simp [retire, inc_eq, hpc, hout, hclk, hins]

theorem rd_retire_pc (clk next : Nat) (t : State) : rd (retire clk next t) LSV_STATUS_PC = next % 2 ^ 20 := by
  rw [retire, rd_wr_ne _ _ _ _ (by decide), rd_wr, if_pos rfl]; rfl

theorem rd_retire_instr (clk next : Nat) (t : State) :
    rd (retire clk next t) I.LSV_INSTRNOW = (rd t I.LSV_INSTRNOW + 1) % 2 ^ 32 := by
  rw [retire, rd_wr_ne _ _ _ _ (by decide), rd_wr_ne _ _ _ _ (by decide), inc_eq, rd_wr, if_pos rfl,
    rd_wr_ne _ _ _ _ (by decide)]; rfl

theorem rd_retire_clk (clk next : Nat) (t : State) :
    rd (retire clk next t) I.LSV_CLKNOW = (rd t I.LSV_CLKNOW + clk) % 2 ^ 32 := by
  rw [retire, rd_wr_ne _ _ _ _ (by decide), rd_wr_ne _ _ _ _ (by decide), inc_eq, rd_wr_ne _ _ _ _ (by decide), rd_wr,
    if_pos rfl]; rfl

/-- An effect that keeps memory, and the register fields other than those in `l`, makes a step of the solver. -/
theorem solverStep_retire {clk next : Nat} {l : List Fld} {s t : State} (hm : t.mem = s.mem) (hf : FieldsSameBut l s t)
    (hclk : ∀ f ∈ l, I.LSV_CLKNOW.key ≠ f.key) (hins : ∀ f ∈ l, I.LSV_INSTRNOW.key ≠ f.key) :
    SolverStep s (retire clk next t) clk next l := by
  have hevt : ¬ evtKey I.LSV_CLKNOW.key ∧ ¬ evtKey I.LSV_INSTRNOW.key := by
    constructor <;> (simp only [evtKey, I.LSV_CLKNOW, I.LSV_INSTRNOW, I.EVC_LATCHLOST, I.HBR_MSIXPEND, ifld, Fld.key]; omega)
  refine ⟨rd_retire_pc .., ?_, ?_, fun g hg he => ?_, memSame_of_mem hm⟩
  · rw [rd_retire_instr, hf _ hins hevt.2]
  · rw [rd_retire_clk, hf _ hclk hevt.1]
  · obtain ⟨hret, hl⟩ := List.forall_mem_append.1 hg
    exact (rd_retire _ _ _ _ hret).trans (hf g hl he)

theorem checks_first_none (c : Checks) : c.first = none ↔ c.illegal = false ∧ c.space = false ∧ c.context = false
    ∧ c.range = false ∧ c.ovf = false ∧ c.unf = false := by
  obtain ⟨i, sp, cx, rg, ov, un⟩ := c
  revert i sp cx rg ov un
  decide

/-- An instruction that passes its checks retires its effect. -/
theorem sheafStep_retires {op : Nat} {o : Opnd} {c : Checks} {clk next : Nat} {eff : State → State} {s : State}
    (hs : SolverAt op o s) (hc : c.first = none) : sheafStep op o c clk next eff s = retire clk next (eff s) :=
  sheafStep_runs op o c clk next eff s hs hc

/-- An instruction whose effect writes no memory, and register fields in `l` at most. -/
theorem sheafStep_solverStep {op : Nat} {o : Opnd} {c : Checks} {clk next : Nat} {eff : State → State} {s : State}
    {l : List Fld} (hs : SolverAt op o s) (hc : c.first = none) (hm : (eff s).mem = s.mem) (hf : FieldsSameBut l s (eff s))
    (hclk : ∀ f ∈ l, I.LSV_CLKNOW.key ≠ f.key) (hins : ∀ f ∈ l, I.LSV_INSTRNOW.key ≠ f.key) :
    (sheafStep op o c clk next eff s).sol = (eff s).sol ∧ (sheafStep op o c clk next eff s).recs = (eff s).recs
      ∧ SolverStep s (sheafStep op o c clk next eff s) clk next l := by
  rw [sheafStep_retires hs hc]
  exact ⟨rfl, rfl, solverStep_retire hm hf hclk hins⟩

/-- An instruction without an effect of its own, which sets the pc alone. -/
theorem sheafStep_id {op : Nat} {o : Opnd} {c : Checks} {clk next : Nat} {s : State} (hs : SolverAt op o s)
    (hc : c.first = none) :
    (sheafStep op o c clk next id s).sol = s.sol ∧ SolverStep s (sheafStep op o c clk next id s) clk next [] := by
  obtain ⟨hsol, -, hstep⟩ := sheafStep_solverStep (l := []) (clk := clk) (next := next) (eff := id) hs hc rfl
    (fieldsSameBut_of_regs rfl) (by simp) (by simp)
  exact ⟨hsol, hstep⟩

/-- An instruction that writes ACC alone. -/
theorem sheafStep_setAcc {op : Nat} {o : Opnd} {c : Checks} {clk next : Nat} {v : Plane} {s : State}
    (hs : SolverAt op o s) (hc : c.first = none) :
    (sheafStep op o c clk next (setAcc v) s).sol = { s.sol with acc := v }
      ∧ (sheafStep op o c clk next (setAcc v) s).recs = s.recs ++ [.acc v]
      ∧ SolverStep s (sheafStep op o c clk next (setAcc v) s) clk next [] :=
  sheafStep_solverStep hs hc rfl (fieldsSameBut_of_regs rfl) (by simp) (by simp)

/-! Lanes -/

theorem lane_eq_false_of_le (v : Plane) (k : Nat) (hk : 64 ≤ k) : lane v k = false := BitVec.getLsbD_of_ge v k hk

@[simp] theorem lane_zero (k : Nat) : lane 0#64 k = false := BitVec.getLsbD_zero
@[simp] theorem lane_and (v w : Plane) (k : Nat) : lane (v &&& w) k = (lane v k && lane w k) := BitVec.getLsbD_and
@[simp] theorem lane_or (v w : Plane) (k : Nat) : lane (v ||| w) k = (lane v k || lane w k) := BitVec.getLsbD_or
theorem lane_not (v : Plane) (k : Nat) (hk : k < 64) : lane (~~~ v) k = !lane v k := by
  rw [lane, BitVec.getLsbD_not, decide_eq_true hk, Bool.true_and]; rfl

theorem lane_one_shl (n k : Nat) (hk : k < 64) : lane (1#64 <<< n) k = decide (k = n) := by
  rw [lane, BitVec.getLsbD_shiftLeft, BitVec.getLsbD_one, Bool.eq_iff_iff]
  simp only [hk, decide_true, Bool.true_and, Bool.and_eq_true, Bool.not_eq_true', decide_eq_false_iff_not, decide_eq_true_eq]
  omega

theorem plane_ext {v w : Plane} (h : ∀ k, k < 64 → lane v k = lane w k) : v = w := BitVec.eq_of_getLsbD_eq h

theorem plane_eq_zero_iff (v : Plane) : v = 0#64 ↔ ∀ k, k < 64 → lane v k = false :=
  ⟨fun h k _ => by rw [h, lane_zero], fun h => plane_ext fun k hk => by rw [h k hk, lane_zero]⟩

@[simp] theorem lane_broadcast (b : Bool) (k : Nat) (hk : k < 64) : lane (broadcast b) k = b := by
  cases b
  · exact lane_zero k
  · rw [lane, broadcast, if_pos rfl, BitVec.getLsbD_allOnes, decide_eq_true hk]

theorem lane_foldl_range (f : Nat → Bool) (n k : Nat) (hk : k < 64) :
    lane ((List.range n).foldl (fun v k => if f k then v ||| (1#64 <<< k) else v) 0#64) k = (decide (k < n) && f k) := by
  induction n with
  | zero => simp
  | succ n ih =>
    rw [List.range_succ, List.foldl_append, List.foldl_cons, List.foldl_nil, apply_ite (lane · k), lane_or, ih,
      lane_one_shl n k hk]
    rcases eq_or_ne k n with rfl | hne
    · cases f k <;> simp
    · have hlt : decide (k < n + 1) = decide (k < n) := by rw [decide_eq_decide]; omega
      rw [hlt]; simp [hne]

@[simp] theorem lane_ofLanes (f : Nat → Bool) (k : Nat) (hk : k < 64) : lane (ofLanes f) k = f k :=
  (lane_foldl_range f 64 k hk).trans (by simp [hk])

theorem anyLane_iff (m a : Plane) : anyLane m a = true ↔ ∃ j, j < 64 ∧ lane m j = true ∧ lane a j = true := by
  rw [anyLane, bne_iff_ne, ne_eq, BitVec.ofNat_eq_ofNat, plane_eq_zero_iff]
  simp [and_comm]

theorem allLanes_iff (m a : Plane) : allLanes m a = true ↔ m ≠ 0 ∧ ∀ j, j < 64 → lane m j = true → lane a j = true := by
  have hsub : a &&& m = m ↔ ∀ j, j < 64 → lane m j = true → lane a j = true := by
    constructor
    · intro h j _ hj
      rw [← h, lane_and, Bool.and_eq_true] at hj
      exact hj.1
    · intro h
      refine plane_ext fun j hj => ?_
      rw [lane_and, Bool.and_eq_right_iff_imp]
      exact h j hj
  rw [allLanes, Bool.and_eq_true, beq_iff_eq, bne_iff_ne, hsub, and_comm]

theorem lowLane_eq_some_iff (m : Plane) (k : Nat) :
    lowLane m = some k ↔ k < 64 ∧ lane m k = true ∧ ∀ j, j < k → lane m j = false := by
  simp only [lowLane, List.find?_range_eq_some, List.mem_range, Bool.not_eq_true']
  tauto

theorem highLane_eq_some_iff (m : Plane) (k : Nat) :
    highLane m = some k ↔ k < 64 ∧ lane m k = true ∧ ∀ j, k < j → lane m j = false := by
  simp only [highLane, List.find?_eq_some_iff_getElem, List.length_reverse, List.length_range, List.getElem_reverse,
    List.getElem_range, Bool.not_eq_true']
  constructor
  · rintro ⟨hk, i, hi, rfl, hlow⟩
    refine ⟨by omega, hk, fun j hj => ?_⟩
    by_cases hj64 : j < 64
    · have := hlow (63 - j) (by omega)
      rwa [show 64 - 1 - (63 - j) = j by omega] at this
    · exact lane_eq_false_of_le m j (by omega)
  · rintro ⟨h64, hk, hhigh⟩
    exact ⟨hk, 63 - k, by omega, by omega, fun j hj => hhigh _ (by omega)⟩

/-! Bit logic and lanes (R165, R166) -/

theorem mask_scalar (s : State) (h : inTemplate s = false) : mask s = 1 := by simp [mask, h]

/-- A bit logic instruction writes ACC with its function of ACC and x. -/
theorem bitOp_writes_acc (op : Nat) (f : Plane → Plane → Plane) (o : Opnd) (s : State) (hs : SolverAt op o s)
    (hsp : bitReadSpaceBad s o = false) (hrg : rangeBad s o true = false) :
    (bitOp op f o s).sol = { s.sol with acc := f s.sol.acc (bitX s o) }
      ∧ (bitOp op f o s).recs = s.recs ++ [.acc (f s.sol.acc (bitX s o))]
      ∧ SolverStep s (bitOp op f o s) 1 (rd s LSV_STATUS_PC + 1) [] :=
  sheafStep_setAcc hs ((checks_first_none _).2 (by simp [bitChecks, hsp, hrg]))

/-- An instruction without operand writes ACC. -/
theorem accOp_writes_acc (op : Nat) (v : Plane) (o : Opnd) (s : State) (hs : SolverAt op o s) (ho : noOperandBad o = false) :
    (accOp op v o s).sol = { s.sol with acc := v } ∧ SolverStep s (accOp op v o s) 1 (rd s LSV_STATUS_PC + 1) [] := by
  obtain ⟨hsol, -, hstep⟩ := sheafStep_setAcc (clk := 1) (next := pcNext s) (v := v) hs
    ((checks_first_none { illegal := noOperandBad o }).2 (by simp [ho]))
  exact ⟨hsol, hstep⟩

/-- A lane shift writes ACC. -/
theorem shift_writes_acc (op : Nat) (v : Plane) (o : Opnd) (s : State) (hs : SolverAt op o s) (hp : o.p = false)
    (hrg : rangeBad s o true = false) :
    (sheafStep op o (shiftChecks s o) 1 (pcNext s) (setAcc v) s).sol = { s.sol with acc := v }
      ∧ SolverStep s (sheafStep op o (shiftChecks s o) 1 (pcNext s) (setAcc v) s) 1 (rd s LSV_STATUS_PC + 1) [] := by
  obtain ⟨hsol, -, hstep⟩ := sheafStep_setAcc (clk := 1) (next := pcNext s) (v := v) hs
    ((checks_first_none (shiftChecks s o)).2 (by simp [shiftChecks, hp, hrg]))
  exact ⟨hsol, hstep⟩

theorem lane_shiftUp (m a : Plane) (x : Bool) (l h k : Nat) (hl : lowLane m = some l) (hh : highLane m = some h) (hk : k < 64) :
    lane (shiftUp m a x) k = if k = l then x else if l < k ∧ k ≤ h then lane a (k - 1) else false := by
  simp only [shiftUp, hl, hh, lane_ofLanes _ k hk]

theorem lane_shiftDown (m a : Plane) (x : Bool) (l h k : Nat) (hl : lowLane m = some l) (hh : highLane m = some h) (hk : k < 64) :
    lane (shiftDown m a x) k = if k = h then x else if l ≤ k ∧ k < h then lane a (k + 1) else false := by
  simp only [shiftDown, hl, hh, lane_ofLanes _ k hk]

theorem shiftUp_zero (a : Plane) (x : Bool) : shiftUp 0 a x = 0 := rfl

theorem shiftDown_zero (a : Plane) (x : Bool) : shiftDown 0 a x = 0 := rfl

/-- Settles O11: each instruction is one write of ACC, and the lanes of what it writes are read off its definition. -/
theorem sheafLanes : Obligations.SheafLanes := by
  unfold Obligations.SheafLanes
  refine ⟨?logic, ?noOperand, ?shift, ?emptyMask, fun m k => ⟨lowLane_eq_some_iff m k, highLane_eq_some_iff m k⟩, mask_scalar⟩
  case logic =>
    intro p hp o s hs hsp hrg
    have hexec : exec (p.2.1 o) s = .next (bitOp p.1 p.2.2 o s) := by
      fin_cases hp <;> rfl
    obtain ⟨hsol, hrec, hstep⟩ := bitOp_writes_acc p.1 p.2.2 o s hs hsp hrg
    exact ⟨_, hexec, hsol, by rw [hrec, hsol], hstep⟩
  case noOperand =>
    refine fun o s ho => ⟨fun hs => ?_, fun hs => ?_, fun hs => ?_, fun hs => ?_⟩
    · exact ⟨_, rfl, accOp_writes_acc _ _ o s hs ho⟩
    · exact ⟨_, rfl, accOp_writes_acc _ _ o s hs ho⟩
    · obtain ⟨hsol, hstep⟩ := accOp_writes_acc _ (broadcast (anyLane (mask s) s.sol.acc)) o s hs ho
      refine ⟨_, rfl, hstep, by rw [hsol], fun k hk => ?_⟩
      rw [hsol, lane_broadcast _ k hk, anyLane_iff]
    · obtain ⟨hsol, hstep⟩ := accOp_writes_acc _ (broadcast (allLanes (mask s) s.sol.acc)) o s hs ho
      refine ⟨_, rfl, hstep, by rw [hsol], fun k hk => ?_⟩
      rw [hsol, lane_broadcast _ k hk, allLanes_iff]
  case shift =>
    refine fun o s l h hp hrg hl hh => ⟨fun hs => ?_, fun hs => ?_⟩
    · obtain ⟨hsol, hstep⟩ := shift_writes_acc _ (shiftUp (mask s) s.sol.acc (lane (bitX s o) 0)) o s hs hp hrg
      exact ⟨_, rfl, hstep, by rw [hsol], fun k hk => by rw [hsol, lane_shiftUp _ _ _ l h k hl hh hk]⟩
    · obtain ⟨hsol, hstep⟩ := shift_writes_acc _ (shiftDown (mask s) s.sol.acc (lane (bitX s o) 0)) o s hs hp hrg
      exact ⟨_, rfl, hstep, by rw [hsol], fun k hk => by rw [hsol, lane_shiftDown _ _ _ l h k hl hh hk]⟩
  case emptyMask =>
    refine fun o s hp hrg hm => ⟨fun hs => ?_, fun hs => ?_⟩
    · obtain ⟨hsol, hstep⟩ := shift_writes_acc _ (shiftUp (mask s) s.sol.acc (lane (bitX s o) 0)) o s hs hp hrg
      exact ⟨_, rfl, by rw [hsol, hm, shiftUp_zero], hstep⟩
    · obtain ⟨hsol, hstep⟩ := shift_writes_acc _ (shiftDown (mask s) s.sol.acc (lane (bitX s o) 0)) o s hs hp hrg
      exact ⟨_, rfl, by rw [hsol, hm, shiftDown_zero], hstep⟩

/-! The program fault (R180, R181) -/

theorem rd_wr_self (s : State) (f : Fld) (v : Nat) : rd (wr f v s) f = v % 2 ^ f.width := by rw [rd_wr, if_pos rfl]

/-- The registers below those of HBR are none that raising an event writes. -/
theorem rd_raise_of_lt (src : Nat) (s : State) (g : Fld) (hs : src < 512) (hg : g.key < 0x1080220000 * 64) :
    rd (raise src s) g = rd s g :=
  rd_raise src s g hs (by simp only [evtKey, I.EVC_LATCHLOST, I.HBR_MSIXPEND, ifld, Fld.key] at *; omega)

theorem rd_raise_vreq (src : Nat) (s : State) (hs : src < 512) : rd (raise src s) I.CKP_VREQ = rd s I.CKP_VREQ :=
  rd_raise src s _ hs (by simp only [evtKey, I.CKP_VREQ, I.EVC_LATCHLOST, I.HBR_MSIXPEND, ifld, Fld.key]; omega)

section
variable (code pc word op : Nat) (s : State)

@[simp] theorem progFault_sol : (progFault code pc word op s).sol = s.sol := by
  simp only [progFault, raise, raiseWith_sol, wr_sol, set1_sol, clr_sol, incSat_sol]
@[simp] theorem progFault_mem : (progFault code pc word op s).mem = s.mem := by
  simp only [progFault, raise, raiseWith_mem, wr_mem, set1_mem, clr_mem, incSat_mem]

theorem rd_progFault_code : rd (progFault code pc word op s) LSV_FAULT_CODE = code % 2 ^ 4 := by
  simp (disch := decide) only [progFault, set1_eq, clr_eq, incSat_eq, rd_raise_of_lt, rd_wr_ne, rd_wr_self, LSV_FAULT_CODE]
theorem rd_progFault_pc : rd (progFault code pc word op s) LSV_FAULTPC_PC = pc % 2 ^ 20 := by
  simp (disch := decide) only [progFault, set1_eq, clr_eq, incSat_eq, rd_raise_of_lt, rd_wr_ne, rd_wr_self]; rfl
theorem rd_progFault_word : rd (progFault code pc word op s) LSV_FAULTINS_INSTR = word % 2 ^ 32 := by
  simp (disch := decide) only [progFault, set1_eq, clr_eq, incSat_eq, rd_raise_of_lt, rd_wr_ne, rd_wr_self]; rfl
theorem rd_progFault_opcode : rd (progFault code pc word op s) LSV_FAULT_OPCODE = op % 2 ^ 6 := by
  simp (disch := decide) only [progFault, set1_eq, clr_eq, incSat_eq, rd_raise_of_lt, rd_wr_ne, rd_wr_self]; rfl
/-- LSV_FAULTMARK takes the 21 bits of its register (R178). -/
theorem rd_progFault_mark : rd (progFault code pc word op s) LSV_FAULTMARK_TAG = rd s LSV_MARK_TAG % 2 ^ 21 := by
  simp (disch := decide) only [progFault, set1_eq, clr_eq, incSat_eq, rd_raise_of_lt, rd_wr_ne, rd_wr_self]; rfl
theorem rd_progFault_running : rd (progFault code pc word op s) LSV_STATUS_RUNNING = 0 := by
  simp (disch := decide) only [progFault, set1_eq, clr_eq, incSat_eq, rd_raise_of_lt, rd_wr_ne, rd_wr_self, Nat.zero_mod]
theorem rd_progFault_logopen : rd (progFault code pc word op s) CKP_STATUS_LOGOPEN = 0 := by
  simp (disch := decide) only [progFault, set1_eq, clr_eq, incSat_eq, rd_raise_of_lt, rd_wr_ne, rd_wr_self, Nat.zero_mod]
theorem rd_progFault_vreq : rd (progFault code pc word op s) I.CKP_VREQ = 1 := by
  simp (disch := decide) only [progFault, set1_eq, clr_eq, incSat_eq, rd_raise_vreq, rd_wr_ne, rd_wr_self]; rfl

/-- A fault records all that `Faulted` asks of it exactly when LSV_MARK.TAG holds a value of its width: LSV_FAULTMARK takes
21 bits of it. -/
theorem faulted_progFault_iff (hcode : code < 2 ^ 4) (hop : op < 2 ^ 6) :
    Faulted s (progFault code pc word op s) code (pc % 2 ^ 20) (word % 2 ^ 32) op ↔ rd s LSV_MARK_TAG < 2 ^ 21 := by
  have hmark : rd s LSV_MARK_TAG % 2 ^ 21 = rd s LSV_MARK_TAG ↔ rd s LSV_MARK_TAG < 2 ^ 21 := by omega
  simp only [Faulted, on, rd_progFault_code, rd_progFault_pc, rd_progFault_word, rd_progFault_opcode, rd_progFault_mark,
    rd_progFault_running, rd_progFault_logopen, rd_progFault_vreq, progFault_sol, memSame_of_mem (progFault_mem ..), hmark,
    Nat.mod_eq_of_lt hcode, Nat.mod_eq_of_lt hop]
  simp
end

/-- An instruction that meets a condition of R180 leaves what `Faulted` asks exactly when LSV_MARK.TAG fits its width. -/
theorem sheafStep_faulted_iff {op : Nat} {o : Opnd} {c : Checks} {clk next code : Nat} {eff : State → State} {s : State}
    (hs : SolverAt op o s) (hc : c.first = some code) (hcode : code < 2 ^ 4) (hop : op < 2 ^ 6) :
    Faulted s (sheafStep op o c clk next eff s) code (rd s LSV_STATUS_PC % 2 ^ 20) (insWord op o % 2 ^ 32) op
      ↔ rd s LSV_MARK_TAG < 2 ^ 21 := by
  rw [sheafStep_faults op o c clk next code eff s hs hc]
  exact faulted_progFault_iff code _ _ op s hcode hop

/-! The branch stack (R167). The lemmas on OPEN to DROP state the clauses of `SheafBranchStack`, which hold in every state but for
those on faults: these hold exactly where LSV_MARK.TAG fits its register. -/

/-- The fields that follow the branch stack. -/
abbrev depthFields : List Fld := [LSV_STATUS_DEPTH, LSV_PEAK_DEPTH]

theorem fieldsSameBut_setStack {l : List Fld} (hl : depthFields ⊆ l) (st : List StackEntry) (s : State) :
    FieldsSameBut l s (setStack st s) :=
  fieldsSameBut_wr _ _ (hl (by simp)) (fieldsSameBut_wr _ _ (hl (by simp)) (fieldsSameBut_of_regs rfl))

/-- An instruction that replaces the branch stack, and may write ACC. -/
theorem sheafStep_stack {op : Nat} {o : Opnd} {c : Checks} {clk next : Nat} {eff : State → State} {s : State}
    {st : List StackEntry} (hs : SolverAt op o s) (hc : c.first = none) (hm : (eff s).mem = s.mem)
    (hr : (eff s).regs = (setStack st s).regs) :
    (sheafStep op o c clk next eff s).sol = (eff s).sol
      ∧ SolverStep s (sheafStep op o c clk next eff s) clk next depthFields := by
  have hf : FieldsSameBut depthFields s (eff s) := fun g hg he => by
    rw [show rd (eff s) g = rd (setStack st s) g by simp only [rd, hr]]
    exact fieldsSameBut_setStack (List.Subset.refl _) st s g hg he
  obtain ⟨hsol, -, hstep⟩ := sheafStep_solverStep hs hc hm hf (by decide) (by decide)
  exact ⟨hsol, hstep⟩

/-- LSV_STATUS.DEPTH follows the stack, within its six bits. -/
theorem rd_setStack_depth (st : List StackEntry) (s : State) : rd (setStack st s) LSV_STATUS_DEPTH = st.length % 2 ^ 6 := by
  rw [setStack, rd_wr_ne _ _ _ _ (by decide), rd_wr_self]; rfl

theorem full_eq_false_iff (s : State) : full s = false ↔ s.sol.stack.length < 32 := by simp [full]

theorem shortB_one_iff (s : State) : shortB s 1 = true ↔ ∀ v l, s.sol.stack ≠ .b v :: l := by
  unfold shortB
  rcases s.sol.stack with _ | ⟨_ | _, l⟩ <;> simp [topB]

theorem popped_top {s : State} {v : Plane} {l : List StackEntry} (h : s.sol.stack = .b v :: l) : popped s 1 0 = v := by
  simp [popped, h, topB]

theorem shortB_top {s : State} {v : Plane} {l : List StackEntry} (h : s.sol.stack = .b v :: l) : shortB s 1 = false := by
  simp [shortB, h, topB]

theorem dropStack_top {s : State} {e : StackEntry} {l : List StackEntry} (h : s.sol.stack = e :: l) :
    dropStack 1 s = setStack l s := by simp [dropStack, h]

/-- OPEN pushes ACC and reads its operand into ACC. -/
theorem exec_open_pushes (o : Opnd) (s : State) (hs : SolverAt 0x10 o s) (hsp : bitReadSpaceBad s o = false)
    (hrg : rangeBad s o true = false) (hlen : s.sol.stack.length < 32) :
    ∃ t, exec (.open_ o) s = .next t ∧ t.sol = { s.sol with acc := bitX s o, stack := .b s.sol.acc :: s.sol.stack }
      ∧ rd t LSV_STATUS_DEPTH = s.sol.stack.length + 1 ∧ SolverStep s t 1 (rd s LSV_STATUS_PC + 1) depthFields := by
  have hc : Checks.first { space := bitReadSpaceBad s o, range := rangeBad s o true, ovf := full s } = none :=
    (checks_first_none _).2 (by simp [hsp, hrg, (full_eq_false_iff s).2 hlen])
  obtain ⟨hsol, hstep⟩ := sheafStep_stack (st := .b s.sol.acc :: s.sol.stack) (clk := 1) (next := pcNext s)
    (eff := fun t => t |> push (.b s.sol.acc) |> setAcc (bitX s o)) hs hc rfl rfl
  refine ⟨_, rfl, hsol, ?_, hstep⟩
  rw [sheafStep_retires hs hc, rd_retire _ _ _ _ (by decide)]
  exact (rd_setStack_depth _ s).trans (Nat.mod_eq_of_lt (by rw [List.length_cons]; omega))

/-- DUP pushes ACC. -/
theorem exec_dup_pushes (o : Opnd) (s : State) (hs : SolverAt 0x14 o s) (ho : noOperandBad o = false)
    (hlen : s.sol.stack.length < 32) :
    ∃ t, exec (.dup o) s = .next t ∧ t.sol = { s.sol with stack := .b s.sol.acc :: s.sol.stack }
      ∧ SolverStep s t 1 (rd s LSV_STATUS_PC + 1) depthFields :=
  ⟨_, rfl, sheafStep_stack hs ((checks_first_none _).2 (by simp [ho, (full_eq_false_iff s).2 hlen])) rfl rfl⟩

/-- ORB, ANDB, XORB and POP pop the top entry and write ACC with their function of it and ACC. -/
theorem popOp_pops (op : Nat) (f : Plane → Plane → Plane) (o : Opnd) (s : State) (v : Plane) (l : List StackEntry)
    (hs : SolverAt op o s) (ho : noOperandBad o = false) (htop : s.sol.stack = .b v :: l) :
    (popOp op f o s).sol = { s.sol with acc := f v s.sol.acc, stack := l }
      ∧ SolverStep s (popOp op f o s) 1 (rd s LSV_STATUS_PC + 1) depthFields := by
  have hc : Checks.first { illegal := noOperandBad o, unf := shortB s 1 } = none :=
    (checks_first_none _).2 (by simp [ho, shortB_top htop])
  have heff : (s |> dropStack 1 |> setAcc (f (popped s 1 0) s.sol.acc)) = (setStack l s |> setAcc (f v s.sol.acc)) := by
    rw [dropStack_top htop, popped_top htop]
  obtain ⟨hsol, hstep⟩ := sheafStep_stack (st := l) (clk := 1) (next := pcNext s)
    (eff := fun t => t |> dropStack 1 |> setAcc (f (popped s 1 0) s.sol.acc)) hs hc (by rw [heff]; rfl) (by rw [heff]; rfl)
  exact ⟨hsol.trans (by rw [heff]; rfl), hstep⟩

/-- PEEK reads the top entry into ACC. -/
theorem exec_peek_reads (o : Opnd) (s : State) (v : Plane) (l : List StackEntry) (hs : SolverAt 0x16 o s)
    (ho : noOperandBad o = false) (htop : s.sol.stack = .b v :: l) :
    ∃ t, exec (.peek o) s = .next t ∧ t.sol = { s.sol with acc := v } ∧ SolverStep s t 1 (rd s LSV_STATUS_PC + 1) [] := by
  obtain ⟨hsol, -, hstep⟩ := sheafStep_setAcc (clk := 1) (next := pcNext s) (v := popped s 1 0) hs
    ((checks_first_none { illegal := noOperandBad o, unf := shortB s 1 }).2 (by simp [ho, shortB_top htop]))
  exact ⟨_, rfl, hsol.trans (by rw [popped_top htop]), hstep⟩

/-- DROP drops the top entry. -/
theorem exec_drop_drops (o : Opnd) (s : State) (v : Plane) (l : List StackEntry) (hs : SolverAt 0x17 o s)
    (ho : noOperandBad o = false) (htop : s.sol.stack = .b v :: l) :
    ∃ t, exec (.drop o) s = .next t ∧ t.sol = { s.sol with stack := l }
      ∧ SolverStep s t 1 (rd s LSV_STATUS_PC + 1) depthFields := by
  obtain ⟨hsol, hstep⟩ := sheafStep_stack (st := l) (clk := 1) (next := pcNext s) (eff := dropStack 1) hs
    ((checks_first_none { illegal := noOperandBad o, unf := shortB s 1 }).2 (by simp [ho, shortB_top htop]))
    (by rw [dropStack_top htop]; rfl) (by rw [dropStack_top htop])
  exact ⟨_, rfl, hsol.trans (by rw [dropStack_top htop]; rfl), hstep⟩

/-- OPEN onto 32 entries faults with STACK_OVF; its record of the mark is that of `faulted_progFault_iff`. -/
theorem exec_open_full (o : Opnd) (s : State) (hs : SolverAt 0x10 o s) (hsp : bitReadSpaceBad s o = false)
    (hrg : rangeBad s o true = false) (hlen : 32 ≤ s.sol.stack.length) :
    ∃ t, exec (.open_ o) s = .next t ∧ (Faulted s t 1 (rd s LSV_STATUS_PC % 2 ^ 20) (insWord 0x10 o % 2 ^ 32) 0x10
      ↔ rd s LSV_MARK_TAG < 2 ^ 21) :=
  ⟨_, rfl, sheafStep_faulted_iff hs (by simp [Checks.first, hsp, hrg, full, hlen]) (by decide) (by decide)⟩

/-- DUP onto 32 entries likewise. -/
theorem exec_dup_full (o : Opnd) (s : State) (hs : SolverAt 0x14 o s) (ho : noOperandBad o = false)
    (hlen : 32 ≤ s.sol.stack.length) :
    ∃ t, exec (.dup o) s = .next t ∧ (Faulted s t 1 (rd s LSV_STATUS_PC % 2 ^ 20) (insWord 0x14 o % 2 ^ 32) 0x14
      ↔ rd s LSV_MARK_TAG < 2 ^ 21) :=
  ⟨_, rfl, sheafStep_faulted_iff hs (by simp [Checks.first, ho, full, hlen]) (by decide) (by decide)⟩

/-- Every instruction that needs a B entry on top and finds none faults with STACK_UNF. -/
theorem short_faulted_iff {op : Nat} {o : Opnd} {s : State} {clk next : Nat} {eff : State → State} (hs : SolverAt op o s)
    (ho : noOperandBad o = false) (hshort : shortB s 1 = true) (hop : op < 2 ^ 6) :
    Faulted s (sheafStep op o { illegal := noOperandBad o, unf := shortB s 1 } clk next eff s) 2
      (rd s LSV_STATUS_PC % 2 ^ 20) (insWord op o % 2 ^ 32) op ↔ rd s LSV_MARK_TAG < 2 ^ 21 :=
  sheafStep_faulted_iff hs (by simp [Checks.first, ho, hshort]) (by decide) hop

/-! Control (R175 to R178). The lemmas on TSEL to END state the clauses of `SheafControl`, which hold in every state but for that on
END refused: it holds exactly where LSV_MARK.TAG fits its register. -/

theorem fieldsSameBut_setSel (x : Option Selection) (s : State) :
    FieldsSameBut [LSV_TSEL_VALID, LSV_TSEL_TEMPLATE] s (setSel x s) :=
  fieldsSameBut_wr _ _ (by simp) (fieldsSameBut_wr _ _ (by simp) (fieldsSameBut_of_regs rfl))

theorem rd_setSel_valid (x : Option Selection) (s : State) : rd (setSel x s) LSV_TSEL_VALID = b2n x.isSome := by
  unfold setSel
  rw [rd_wr_ne _ _ _ _ (by decide), rd_wr_self]
  cases x <;> rfl

/-- TSEL loads the selection of a template. -/
theorem exec_tsel_selects (o : Opnd) (s : State) (hs : SolverAt 0x38 o s) (hn : o.n = false) (hk : o.space = spK)
    (hp : o.p = false) (hctx : inTemplate s = false) (hi : o.index ≤ 511) (hv : tplValid s o.index = true) :
    ∃ t, exec (.tsel o) s = .next t ∧ t.sol = { s.sol with sel := some (tplLoad s o.index) } ∧ on t LSV_TSEL_VALID = true
      ∧ rd t LSV_TSEL_TEMPLATE = o.index
      ∧ SolverStep s t 4 (rd s LSV_STATUS_PC + 1) [LSV_TSEL_VALID, LSV_TSEL_TEMPLATE] := by
  have hc : Checks.first { kChecks o with context := inTemplate s, range := decide (o.index > 511) || !tplValid s o.index }
      = none := (checks_first_none _).2 (by simp [kChecks, hn, hk, hp, hctx, hv, hi])
  obtain ⟨hsol, -, hstep⟩ := sheafStep_solverStep (clk := 4) (next := pcNext s) hs hc
    (show (setSel (some (tplLoad s o.index)) s).mem = s.mem from rfl) (fieldsSameBut_setSel _ s) (by decide) (by decide)
  refine ⟨_, rfl, hsol, ?_, ?_, hstep⟩ <;> rw [sheafStep_retires hs hc]
  · rw [on, rd_retire _ _ _ _ (by decide), rd_setSel_valid]; rfl
  · unfold setSel
    rw [rd_retire _ _ _ _ (by decide), rd_wr_self]
    exact Nat.mod_eq_of_lt (Nat.lt_succ_of_le hi)

/-- TRUN enters template context and pushes the return. -/
theorem exec_trun_enters (o : Opnd) (s : State) (hs : SolverAt 0x39 o s) (ho : targetBad o false = false)
    (hctx : inTemplate s = false) (hsel : s.sol.sel.isSome = true) (hpr : inProgram s o.index = true)
    (hlen : s.sol.stack.length < 32) :
    ∃ t, exec (.trun o) s = .next t ∧ inTemplate t = true
      ∧ t.sol = { s.sol with stack := .r ((rd s LSV_STATUS_PC + 1) % 2 ^ 20) true :: s.sol.stack }
      ∧ SolverStep s t 2 o.index [LSV_STATUS_DEPTH, LSV_PEAK_DEPTH, LSV_STATUS_CTX] := by
  have hc : Checks.first
      { illegal := targetBad o false, context := inTemplate s || s.sol.sel.isNone, range := !inProgram s o.index,
        ovf := full s } = none :=
    (checks_first_none _).2 (by simp [ho, hctx, hpr, (full_eq_false_iff s).2 hlen, hsel])
  obtain ⟨hsol, -, hstep⟩ := sheafStep_solverStep (clk := 2) (next := o.index)
    (eff := fun t => t |> push (.r (pcNext s % 2 ^ 20) true) |> set1 LSV_STATUS_CTX) hs hc rfl
    (fieldsSameBut_wr LSV_STATUS_CTX 1 (l := [LSV_STATUS_DEPTH, LSV_PEAK_DEPTH, LSV_STATUS_CTX]) (by simp)
      (fieldsSameBut_setStack (by simp) _ s)) (by decide) (by decide)
  refine ⟨_, rfl, ?_, hsol, hstep⟩
  rw [sheafStep_retires hs hc, inTemplate, on, rd_retire _ _ _ _ (by decide), set1_eq, rd_wr_self]; rfl

/-- JMP goes to its target. -/
theorem exec_jmp_goes (o : Opnd) (s : State) (hs : SolverAt 0x3B o s) (ho : targetBad o false = false)
    (hpr : inProgram s o.index = true) :
    ∃ t, exec (.jmp o) s = .next t ∧ t.sol = s.sol ∧ SolverStep s t 2 o.index [] :=
  ⟨_, rfl, sheafStep_id hs ((checks_first_none _).2 (by simp [ho, hpr]))⟩

/-- JMPC goes to its target where its condition holds, else on. -/
theorem exec_jmpc_goes (o : Opnd) (s : State) (hs : SolverAt 0x3A o s) (ho : targetBad o true = false)
    (hpr : inProgram s o.index = true) :
    ∃ t, exec (.jmpc o) s = .next t ∧ t.sol = s.sol
      ∧ SolverStep s t (if jmpcTaken o s then 2 else 1) (if jmpcTaken o s then o.index else rd s LSV_STATUS_PC + 1) [] :=
  ⟨_, rfl, sheafStep_id hs ((checks_first_none _).2 (by simp [ho, hpr]))⟩

theorem jmpcTaken_iff (o : Opnd) (s : State) : jmpcTaken o s = true ↔
    ((∃ k, k < 64 ∧ lane (mask s) k = true ∧ lane s.sol.acc k = true) ↔ o.n = false) := by
  rw [jmpcTaken, ← anyLane_iff]
  cases anyLane (mask s) s.sol.acc <;> cases o.n <;> decide

/-- CALL pushes the return and goes to its target. -/
theorem exec_call_goes (o : Opnd) (s : State) (hs : SolverAt 0x3C o s) (ho : targetBad o false = false)
    (hpr : inProgram s o.index = true) (hlen : s.sol.stack.length < 32) :
    ∃ t, exec (.call o) s = .next t ∧ t.sol = { s.sol with stack := .r ((rd s LSV_STATUS_PC + 1) % 2 ^ 20) false :: s.sol.stack }
      ∧ SolverStep s t 2 o.index depthFields :=
  ⟨_, rfl, sheafStep_stack hs ((checks_first_none _).2 (by simp [ho, hpr, (full_eq_false_iff s).2 hlen])) rfl rfl⟩

/-- RET pops the return, goes to it, and leaves template context if TRUN pushed it. -/
theorem exec_ret_returns (o : Opnd) (s : State) (r : Nat) (b : Bool) (l : List StackEntry) (hs : SolverAt 0x3D o s)
    (ho : noOperandBad o = false) (htop : s.sol.stack = .r r b :: l) :
    ∃ t, exec (.ret o) s = .next t ∧ t.sol = { s.sol with stack := l } ∧ (b = true → inTemplate t = false)
      ∧ SolverStep s t 2 r [LSV_STATUS_DEPTH, LSV_PEAK_DEPTH, LSV_STATUS_CTX] := by
  have hR : topR s = some (r, b) := by simp [topR, htop]
  have hc : Checks.first { illegal := noOperandBad o, unf := (topR s).isNone } = none :=
    (checks_first_none _).2 (by simp [ho, hR])
  have hexec : exec (.ret o) s = .next (retire 2 r (when b (clr LSV_STATUS_CTX) (setStack l s))) := by
    show Host.Outcome.next (sheafStep _ _ _ _ _ _ s) = _
    rw [sheafStep_retires hs hc]
    simp only [hR, dropStack_top htop, Option.getD_some]
  have hf := fieldsSameBut_setStack (l := [LSV_STATUS_DEPTH, LSV_PEAK_DEPTH, LSV_STATUS_CTX]) (by simp) l s
  refine ⟨_, hexec, ?_⟩
  cases b with
  | false => exact ⟨rfl, by simp, solverStep_retire rfl hf (by decide) (by decide)⟩
  | true =>
    refine ⟨rfl, fun _ => ?_, solverStep_retire rfl (fieldsSameBut_wr _ _ (by simp) hf) (by decide) (by decide)⟩
    rw [inTemplate, on, rd_retire _ _ _ _ (by decide), when_true, clr_eq, rd_wr_self]; rfl

/-- MARK writes the mark, and nothing else. -/
theorem exec_mark_marks (o : Opnd) (s : State) (hs : SolverAt 0x3E o s) (hn : o.n = false) (hk : o.space = spK)
    (hp : o.p = false) :
    ∃ t, exec (.mark o) s = .next t ∧ t.sol = s.sol ∧ t.recs = s.recs ∧ rd t LSV_MARK_TAG = o.index % 2 ^ (LSV_MARK_TAG).width
      ∧ SolverStep s t 1 (rd s LSV_STATUS_PC + 1) [LSV_MARK_TAG] := by
  have hc : (kChecks o).first = none := (checks_first_none _).2 (by simp [kChecks, hn, hk, hp])
  obtain ⟨hsol, hrec, hstep⟩ := sheafStep_solverStep (clk := 1) (next := pcNext s) (eff := wr LSV_MARK_TAG o.index) hs hc rfl
    (fieldsSameBut_wr _ _ (List.mem_singleton.2 rfl) (fieldsSameBut_of_regs rfl)) (by decide) (by decide)
  refine ⟨_, rfl, hsol, hrec, ?_, hstep⟩
  rw [sheafStep_retires hs hc, rd_retire _ _ _ _ (by decide), rd_wr_self]

/-- END ends the stage. -/
theorem exec_end_ends (o : Opnd) (s : State) (hs : SolverAt 0x3F o s) (ho : noOperandBad o = false)
    (hctx : inTemplate s = false) (hst : s.sol.stack = []) :
    ∃ t, exec (.end_ o) s = .next t ∧ t.sol = { s.sol with sel := none } ∧ on t LSV_STATUS_RUNNING = false
      ∧ on t I.CYC_SOLVDONE = true ∧ on t LSV_TSEL_VALID = false ∧ MemSame s t := by
  have hexec : exec (.end_ o) s
      = .next (retire 1 (pcNext s) (s |> setSel none |> clr LSV_STATUS_RUNNING |> set1 I.CYC_SOLVDONE)) :=
    congrArg Host.Outcome.next (sheafStep_retires hs ((checks_first_none _).2 (by simp [ho, hctx, hst])))
  refine ⟨_, hexec, rfl, ?_, ?_, ?_, memSame_of_mem rfl⟩ <;>
    rw [on, rd_retire _ _ _ _ (by decide), set1_eq, clr_eq]
  · rw [rd_wr_ne _ _ _ _ (by decide), rd_wr_self]; rfl
  · rw [rd_wr_self]; rfl
  · rw [rd_wr_ne _ _ _ _ (by decide), rd_wr_ne _ _ _ _ (by decide), rd_setSel_valid]; rfl

/-- END in template context or with entries on the branch stack faults with CONTEXT. -/
theorem exec_end_refused (o : Opnd) (s : State) (hs : SolverAt 0x3F o s) (ho : noOperandBad o = false)
    (h : inTemplate s = true ∨ s.sol.stack ≠ []) :
    ∃ t, exec (.end_ o) s = .next t ∧ (Faulted s t 6 (rd s LSV_STATUS_PC % 2 ^ 20) (insWord 0x3F o % 2 ^ 32) 0x3F
      ↔ rd s LSV_MARK_TAG < 2 ^ 21) := by
  refine ⟨_, rfl, sheafStep_faulted_iff hs ?_ (by decide) (by decide)⟩
  have hctx : (inTemplate s || !s.sol.stack.isEmpty) = true := by simpa using h
  simp [Checks.first, ho, hctx]

/-! Faults with a mark wider than its register -/

/-- The operand of an instruction without one (R160). -/
def noOperand : Opnd := ⟨0, false, false, 0⟩

/-- A state whose solver stands in template context, with an empty branch stack, at an instruction without operand, and whose
LSV_MARK.TAG holds 2^21, the first value too wide for it. `wr` never leaves such a value, but the statements are about every
`State`, and no premise of theirs bounds what a field holds. -/
def wideMark (op : Nat) : State :=
  { State.reset with
    regs := [(LSV_STATUS_RUNNING.key, 1), (LSV_STATUS_CTX.key, 1), (LSV_MARK_TAG.key, 0x200000)]
    prog := [(0, insWord op noOperand)]
    progPages := [0] }

theorem rd_wideMark_pc (op : Nat) : rd (wideMark op) LSV_STATUS_PC = 0 := rfl

theorem rd_wideMark_pcOut (op : Nat) : rd (wideMark op) I.LSV_PCOUT = 0 := rfl

theorem wideMark_prog (op : Nat) : (wideMark op).prog = [(0, insWord op noOperand)] := rfl

theorem wideMark_solverAt (op : Nat) : SolverAt op noOperand (wideMark op) := by
  refine ⟨rfl, rfl, ?_, ?_⟩
  · rw [fetchOk, on, rd_wideMark_pcOut, rd_wideMark_pc]; rfl
  · rw [fetchWord, rd_wideMark_pc, wideMark_prog, Assoc.find, if_pos rfl, Option.getD_some]

theorem wideMark_wide (op : Nat) : ¬ rd (wideMark op) LSV_MARK_TAG < 2 ^ 21 := by
  rw [show rd (wideMark op) LSV_MARK_TAG = 0x200000 from rfl]
  decide

/-- Refutes O12, in the clause on a missing B entry: POP on an empty stack faults with STACK_UNF, but where LSV_MARK.TAG holds
2^21, LSV_FAULTMARK.TAG, of 21 bits, reads 0 after it and not the mark, as `Faulted` asks. -/
theorem not_sheafBranchStack : ¬ Obligations.SheafBranchStack := by
  unfold Obligations.SheafBranchStack
  rintro ⟨-, -, -, -, -, hshort, -⟩
  obtain ⟨t, hexec, hfault⟩ := hshort (.pop, 0x15) (by simp) noOperand (wideMark 0x15) (wideMark_solverAt _) rfl rfl
  obtain rfl := Host.Outcome.next.inj hexec
  exact wideMark_wide _ ((short_faulted_iff (wideMark_solverAt _) rfl rfl (by decide)).1 hfault)

/-- Refutes O19, in the clause on END refused: END in template context faults with CONTEXT, but where LSV_MARK.TAG holds 2^21,
LSV_FAULTMARK.TAG, of 21 bits, reads 0 after it and not the mark, as `Faulted` asks. -/
theorem not_sheafControl : ¬ Obligations.SheafControl := by
  unfold Obligations.SheafControl
  rintro ⟨-, -, -, -, -, -, -, -, hrefused, -⟩
  obtain ⟨t, hexec, hfault⟩ := hrefused noOperand (wideMark 0x3F) (wideMark_solverAt _) rfl (.inl rfl)
  obtain ⟨u, hexec', hiff⟩ := exec_end_refused noOperand (wideMark 0x3F) (wideMark_solverAt _) rfl (.inl rfl)
  obtain rfl := Host.Outcome.next.inj (hexec.symm.trans hexec')
  exact wideMark_wide _ (hiff.1 hfault)

/-! Bytes of memory as numbers -/

theorem bytesLE_length (n v : Nat) : (bytesLE n v).length = n := by
  induction n generalizing v with
  | zero => rfl
  | succ n ih => rw [bytesLE, List.length_cons, ih]

theorem leBytes_bytesLE (n v : Nat) : leBytes (bytesLE n v) = v % 256 ^ n := by
  induction n generalizing v with
  | zero => simp [bytesLE, leBytes, Nat.mod_one]
  | succ n ih => rw [Nat.pow_succ', Nat.mod_mul, bytesLE, leBytes, ih, BitVec.toNat_ofNat]

/-- A plane survives its way through the eight bytes of a memory word. -/
theorem ofNat_toNat_mod (v : Plane) : BitVec.ofNat 64 (v.toNat % 256 ^ 8) = v := by
  rw [Nat.mod_eq_of_lt (show v.toNat < 256 ^ 8 from v.isLt), BitVec.ofNat_toNat, BitVec.setWidth_eq]

theorem bit_eq_testBit (v k : Nat) : bit v k = v.testBit k := by
  rw [Nat.testBit_eq_decide_div_mod_eq, bit, bits, pow_one]; rfl

theorem bit_mod_byte (v k : Nat) (hk : k < 8) : bit (v % 256 ^ 1) k = bit v k := by
  rw [show 256 ^ 1 = 2 ^ 8 from rfl, bit_eq_testBit, bit_eq_testBit, Nat.testBit_mod_two_pow, decide_eq_true hk, Bool.true_and]

theorem readN_congr {m m' : List Host.Cell} {a n : Nat}
    (h : ∀ b, a ≤ b → b < a + n → Memory.read m b = Memory.read m' b) : Memory.readN m a n = Memory.readN m' a n := by
  induction n generalizing a with
  | zero => rfl
  | succ n ih =>
    rw [Memory.readN, Memory.readN, h a (le_refl a) (by omega), ih (fun b hb hn => h b (by omega) (by omega))]

theorem readN_writeN_disjoint {m : List Host.Cell} (hwf : Memory.wf m = true) {a b n : Nat} {bs : List Byte}
    (h : b + n ≤ a ∨ a + bs.length ≤ b) : Memory.readN (Memory.writeN m a bs) b n = Memory.readN m b n :=
  readN_congr fun c _ _ => read_writeN_of_outside m a c bs hwf (by omega)

theorem readN_writeN_self {m : List Host.Cell} (hwf : Memory.wf m = true) (a : Nat) (bs : List Byte) :
    Memory.readN (Memory.writeN m a bs) a bs.length = bs := by
  induction bs generalizing m a with
  | nil => rfl
  | cons b bs ih =>
    have hb : Memory.read (Memory.writeN m a (b :: bs)) a = b := by
      rw [read_writeN m a a _ hwf, if_pos (le_refl a), Nat.sub_self]; rfl
    rw [List.length_cons, Memory.readN, hb, Memory.writeN, ih (write_wf m a b hwf)]

theorem memNat_congr {s t : State} (h : t.mem = s.mem) (a n : Nat) : memNat t a n = memNat s a n := by
  simp only [memNat, memRead, h]

/-! A store of the solver outside Q (R109, R113) -/

theorem joinMark_mem (page : Nat) (s : State) : (joinMark page s).mem = s.mem := by
  unfold joinMark setDirty; split <;> rfl
theorem joinMark_sol (page : Nat) (s : State) : (joinMark page s).sol = s.sol := by
  unfold joinMark setDirty; split <;> rfl

/-- An undo log entry leaves memory and the solver. -/
theorem undoLine_mem (b : Bool) (line : Nat) (s : State) : (undoLine b line s).mem = s.mem := by
  unfold undoLine
  split
  · rfl
  · split
    · exact raiseWith_mem ..
    · cases b <;> rfl
theorem undoLine_sol (b : Bool) (line : Nat) (s : State) : (undoLine b line s).sol = s.sol := by
  unfold undoLine
  split
  · rfl
  · split
    · exact raiseWith_sol ..
    · cases b <;> rfl

/-- Outside Q a store of the solver writes its bytes. -/
theorem solStore_mem {a : Nat} (ha : imgM ≤ a) (bs : List Byte) (s : State) :
    (solStore a bs s).mem = Memory.writeN s.mem a bs := by
  rw [solStore, if_neg (by omega), memWrite, undoLine_mem, joinMark_mem]
theorem solStore_sol {a : Nat} (ha : imgM ≤ a) (bs : List Byte) (s : State) : (solStore a bs s).sol = s.sol := by
  rw [solStore, if_neg (by omega), memWrite_sol, undoLine_sol, joinMark_sol]

theorem memNat_solStore_self {a : Nat} (ha : imgM ≤ a) (n v : Nat) {s : State} (hwf : Memory.wf s.mem = true) :
    memNat (solStore a (bytesLE n v) s) a n = v % 256 ^ n := by
  have hread := readN_writeN_self hwf a (bytesLE n v)
  rw [bytesLE_length] at hread
  rw [memNat, memRead, solStore_mem ha, hread, leBytes_bytesLE]

theorem memNat_solStore_disjoint {a b n k v : Nat} (ha : imgM ≤ a) {s : State} (hwf : Memory.wf s.mem = true)
    (h : b + k ≤ a ∨ a + n ≤ b) : memNat (solStore a (bytesLE n v) s) b k = memNat s b k := by
  rw [memNat, memRead, solStore_mem ha, readN_writeN_disjoint hwf (by rwa [bytesLE_length])]; rfl

/-! The elements and marks of E (R199) -/

theorem imgM_le_imgE (d : Nat) : imgM ≤ imgE + d := by unfold imgM imgE; omega
theorem imgM_le_imgMark (d : Nat) : imgM ≤ imgMark + d := by unfold imgM imgMark; omega

/-- Outside Q the cycle reads memory. -/
theorem cycBytes_of_ge {a : Nat} (ha : imgM ≤ a) (s : State) (n : Nat) : cycBytes s a n = memRead s a n := by
  rw [cycBytes, if_neg (by omega)]

theorem readBit_spE (s : State) (i : Nat) : readBit s spE i = bit (memNat s (imgE + i / 8) 1) (i % 8) := by
  rw [readBit, show bitRegion spE = imgE from rfl, cycBytes_of_ge (imgM_le_imgE _)]; rfl
theorem readPlane_spE (s : State) (p : Nat) : readPlane s spE p = BitVec.ofNat 64 (memNat s (imgE + 8 * p) 8) := by
  rw [readPlane, show bitRegion spE = imgE from rfl, cycBytes_of_ge (imgM_le_imgE _)]; rfl
theorem writeBit_spE (i : Nat) (b : Bool) (s : State) :
    writeBit spE i b s = solStore (imgE + i / 8) (bytesLE 1 (setBits (memNat s (imgE + i / 8) 1) (i % 8) 1 (b2n b))) s := by
  simp only [writeBit, show bitRegion spE = imgE from rfl, cycBytes_of_ge (imgM_le_imgE _)]; rfl
theorem writePlane_spE (p : Nat) (m v : Plane) (s : State) : writePlane spE p m v s
    = solStore (imgE + 8 * p) (bytesLE 8 (readPlane s spE p &&& ~~~m ||| v &&& m).toNat) s := rfl

section
variable {s : State} (hwf : Memory.wf s.mem = true)
include hwf

theorem readBit_writeBit_spE (i : Nat) (b : Bool) : readBit (writeBit spE i b s) spE i = b := by
  rw [readBit_spE, writeBit_spE, memNat_solStore_self (imgM_le_imgE _) 1 _ hwf, bit_mod_byte _ _ (Nat.mod_lt _ (by decide)),
    bit_setBits _ _ _ _ (by cases b <;> decide), if_pos rfl]
  cases b <;> rfl

theorem readPlane_writePlane_spE (p : Nat) (m v : Plane) :
    readPlane (writePlane spE p m v s) spE p = readPlane s spE p &&& ~~~m ||| v &&& m := by
  rw [readPlane_spE, writePlane_spE, memNat_solStore_self (imgM_le_imgE _) 8 _ hwf,
    ofNat_toNat_mod]

theorem readMarks_writeMarks (p : Nat) (v : Plane) : readMarks (writeMarks p v s) p = v := by
  rw [readMarks, writeMarks, memNat_solStore_self (imgM_le_imgMark _) 8 _ hwf, ofNat_toNat_mod]

theorem writeBit_spE_wf (i : Nat) (b : Bool) : Memory.wf (writeBit spE i b s).mem = true := by
  rw [writeBit_spE, solStore_mem (imgM_le_imgE _)]
  exact writeN_wf _ _ _ hwf

theorem writePlane_spE_wf (p : Nat) (m v : Plane) : Memory.wf (writePlane spE p m v s).mem = true := by
  rw [writePlane_spE, solStore_mem (imgM_le_imgE _)]
  exact writeN_wf _ _ _ hwf

/-- The elements of E lie below the marks (Table 8.1), so that neither store reaches the other's bytes. -/
theorem readMarks_writeBit_spE {i : Nat} (hi : i < 65536) (b : Bool) (p : Nat) :
    readMarks (writeBit spE i b s) p = readMarks s p := by
  rw [readMarks, writeBit_spE, memNat_solStore_disjoint (imgM_le_imgE _) hwf (.inr (by unfold imgE imgMark; omega))]; rfl

theorem readMarks_writePlane_spE {q : Nat} (hq : q < 1024) (m v : Plane) (p : Nat) :
    readMarks (writePlane spE q m v s) p = readMarks s p := by
  rw [readMarks, writePlane_spE, memNat_solStore_disjoint (imgM_le_imgE _) hwf (.inr (by unfold imgE imgMark; omega))]; rfl

theorem readBit_writeMarks {i : Nat} (hi : i < 65536) (p : Nat) (v : Plane) :
    readBit (writeMarks p v s) spE i = readBit s spE i := by
  rw [readBit_spE, readBit_spE, writeMarks,
    memNat_solStore_disjoint (imgM_le_imgMark _) hwf (.inl (by unfold imgE imgMark; omega))]

theorem readPlane_writeMarks {q : Nat} (hq : q < 1024) (p : Nat) (v : Plane) :
    readPlane (writeMarks p v s) spE q = readPlane s spE q := by
  rw [readPlane_spE, readPlane_spE, writeMarks,
    memNat_solStore_disjoint (imgM_le_imgMark _) hwf (.inl (by unfold imgE imgMark; omega))]

theorem read_writeBit_spE {i a : Nat} (b : Bool) (ha : a ≠ imgE + i / 8) :
    Memory.read (writeBit spE i b s).mem a = Memory.read s.mem a := by
  rw [writeBit_spE, solStore_mem (imgM_le_imgE _)]
  exact read_writeN_of_outside _ _ _ _ hwf (by rw [bytesLE_length]; omega)

theorem read_writePlane_spE {p a : Nat} (m v : Plane) (ha : a < imgE + 8 * p ∨ imgE + 8 * p + 8 ≤ a) :
    Memory.read (writePlane spE p m v s).mem a = Memory.read s.mem a := by
  rw [writePlane_spE, solStore_mem (imgM_le_imgE _)]
  exact read_writeN_of_outside _ _ _ _ hwf (by rwa [bytesLE_length])

theorem read_writeMarks {p a : Nat} (v : Plane) (ha : a < imgMark + 8 * p ∨ imgMark + 8 * p + 8 ≤ a) :
    Memory.read (writeMarks p v s).mem a = Memory.read s.mem a := by
  rw [writeMarks, solStore_mem (imgM_le_imgMark _)]
  exact read_writeN_of_outside _ _ _ _ hwf (by rwa [bytesLE_length])

end

/-! What an edge instruction stores (R170) -/

/-- The stores of an edge instruction in scalar form: the element takes the input, and a set mark clears. -/
def edgeBit (i : Nat) (b : Bool) (s : State) : State :=
  s |> writeBit spE i b
    |> when (lane (readMarks s (i / 64)) (i % 64))
      (writeMarks (i / 64) (readMarks s (i / 64) &&& ~~~(1#64 <<< (i % 64))))

/-- The stores of an edge instruction in plane form: the lanes of `m` of the elements take the input, and their set marks
clear. -/
def edgePlane (p : Nat) (m a : Plane) (s : State) : State :=
  s |> writePlane spE p m a |> when (readMarks s p &&& m != 0) (writeMarks p (readMarks s p &&& ~~~m))

theorem foldl_record_lanes (m : Plane) (r : Nat → State → State) (hr : ∀ k t, ∃ l, r k t = { t with recs := l })
    (l : List Nat) (t : State) : ∃ recs, l.foldl (fun u k => when (lane m k) (r k) u) t = { t with recs := recs } := by
  induction l generalizing t with
  | nil => exact ⟨t.recs, rfl⟩
  | cons k l ih =>
    have hk : ∃ recs, when (lane m k) (r k) t = { t with recs := recs } := by
      cases lane m k
      · exact ⟨t.recs, rfl⟩
      · exact hr k t
    obtain ⟨r1, h1⟩ := hk
    obtain ⟨r2, h2⟩ := ih { t with recs := r1 }
    exact ⟨r2, by rw [List.foldl_cons, h1, h2]⟩

/-! What the elements and marks read after an edge instruction -/

theorem readBit_spE_congr {s t : State} (h : t.mem = s.mem) (i : Nat) : readBit t spE i = readBit s spE i := by
  rw [readBit_spE, readBit_spE, memNat_congr h]
theorem readPlane_spE_congr {s t : State} (h : t.mem = s.mem) (p : Nat) : readPlane t spE p = readPlane s spE p := by
  rw [readPlane_spE, readPlane_spE, memNat_congr h]
theorem readMarks_congr {s t : State} (h : t.mem = s.mem) (p : Nat) : readMarks t p = readMarks s p := by
  rw [readMarks, readMarks, memNat_congr h]

theorem writeBit_spE_sol (i : Nat) (b : Bool) (s : State) : (writeBit spE i b s).sol = s.sol := by
  rw [writeBit_spE, solStore_sol (imgM_le_imgE _)]
theorem writePlane_spE_sol (p : Nat) (m v : Plane) (s : State) : (writePlane spE p m v s).sol = s.sol := by
  rw [writePlane_spE, solStore_sol (imgM_le_imgE _)]
theorem writeMarks_sol (p : Nat) (v : Plane) (s : State) : (writeMarks p v s).sol = s.sol :=
  solStore_sol (imgM_le_imgMark _) _ s

theorem edgeBit_sol (i : Nat) (b : Bool) (s : State) : (edgeBit i b s).sol = s.sol := by
  unfold edgeBit
  cases lane (readMarks s (i / 64)) (i % 64)
  · rw [when_false, writeBit_spE_sol]
  · rw [when_true, writeMarks_sol, writeBit_spE_sol]

theorem edgePlane_sol (p : Nat) (m a : Plane) (s : State) : (edgePlane p m a s).sol = s.sol := by
  unfold edgePlane
  cases readMarks s p &&& m != 0
  · rw [when_false, writePlane_spE_sol]
  · rw [when_true, writeMarks_sol, writePlane_spE_sol]

@[simp] theorem setAcc_sol (v : Plane) (s : State) : (setAcc v s).sol = { s.sol with acc := v } := rfl
@[simp] theorem setAcc_mem (v : Plane) (s : State) : (setAcc v s).mem = s.mem := rfl
@[simp] theorem recImage_sol (space i v : Nat) (s : State) : (recImage space i v s).sol = s.sol := rfl
@[simp] theorem recImage_mem (space i v : Nat) (s : State) : (recImage space i v s).mem = s.mem := rfl

/-- In scalar form an edge instruction makes its stores, and writes ACC with the edge in every lane. -/
theorem edgeEff_scalar (f : Bool → Bool → Bool) {o : Opnd} (s : State) (hp : o.p = false) :
    (edgeEff f o s).sol = { s.sol with acc := broadcast (!lane (readMarks s (o.index / 64)) (o.index % 64)
        && f (readBit s spE o.index) (lane (accA s o) 0)) }
      ∧ (edgeEff f o s).mem = (edgeBit o.index (lane (accA s o) 0) s).mem := by
  have heff : edgeEff f o s = (edgeBit o.index (lane (accA s o) 0) s |> recImage spE o.index (b2n (lane (accA s o) 0))
      |> setAcc (broadcast (!lane (readMarks s (o.index / 64)) (o.index % 64)
        && f (readBit s spE o.index) (lane (accA s o) 0)))) := by simp only [edgeEff, hp]; rfl
  rw [heff]
  simp only [setAcc_sol, setAcc_mem, recImage_sol, recImage_mem, edgeBit_sol, and_self]

/-- In plane form it makes its stores, and writes ACC with the edges of the lanes of the mask. -/
theorem edgeEff_plane (f : Bool → Bool → Bool) {o : Opnd} (s : State) (hp : o.p = true) :
    (edgeEff f o s).sol = { s.sol with acc := ofLanes (fun k => lane (mask s) k && !lane (readMarks s (absPlane s o)) k
        && f (lane (readPlane s spE (absPlane s o)) k) (lane (accA s o) k)) }
      ∧ (edgeEff f o s).mem = (edgePlane (absPlane s o) (mask s) (accA s o) s).mem := by
  obtain ⟨recs, hrecs⟩ := foldl_record_lanes (mask s)
    (fun k => recImage spE (64 * absPlane s o + k) (b2n (lane (accA s o) k))) (fun _ t => ⟨_, rfl⟩) (List.range 64)
    (edgePlane (absPlane s o) (mask s) (accA s o) s)
  have heff : edgeEff f o s = ({ edgePlane (absPlane s o) (mask s) (accA s o) s with recs := recs }
      |> setAcc (ofLanes (fun k => lane (mask s) k && !lane (readMarks s (absPlane s o)) k
        && f (lane (readPlane s spE (absPlane s o)) k) (lane (accA s o) k)))) := by
    rw [← hrecs]
    simp only [edgeEff, hp]; rfl
  rw [heff]
  simp only [setAcc_sol, setAcc_mem, edgePlane_sol, and_self]

section
variable {s : State} (hwf : Memory.wf s.mem = true)
include hwf

theorem readBit_edgeBit {i : Nat} (hi : i < 65536) (b : Bool) : readBit (edgeBit i b s) spE i = b := by
  unfold edgeBit
  cases lane (readMarks s (i / 64)) (i % 64)
  · rw [when_false, readBit_writeBit_spE hwf]
  · rw [when_true, readBit_writeMarks (writeBit_spE_wf hwf i b) hi, readBit_writeBit_spE hwf]

theorem lane_readMarks_edgeBit {i : Nat} (hi : i < 65536) (b : Bool) :
    lane (readMarks (edgeBit i b s) (i / 64)) (i % 64) = false := by
  have hk : i % 64 < 64 := Nat.mod_lt _ (by decide)
  unfold edgeBit
  cases hmark : lane (readMarks s (i / 64)) (i % 64)
  · rw [when_false, readMarks_writeBit_spE hwf hi, hmark]
  · rw [when_true, readMarks_writeMarks (writeBit_spE_wf hwf i b), lane_and, lane_not _ _ hk, lane_one_shl _ _ hk]
    simp

theorem read_edgeBit {i a : Nat} (b : Bool) (he : a ≠ imgE + i / 8)
    (hm : a < imgMark + 8 * (i / 64) ∨ imgMark + 8 * (i / 64) + 8 ≤ a) :
    Memory.read (edgeBit i b s).mem a = Memory.read s.mem a := by
  unfold edgeBit
  cases lane (readMarks s (i / 64)) (i % 64)
  · rw [when_false, read_writeBit_spE hwf b he]
  · rw [when_true, read_writeMarks (writeBit_spE_wf hwf i b) _ hm, read_writeBit_spE hwf b he]

theorem lane_readPlane_edgePlane {p k : Nat} (hp : p < 1024) (hk : k < 64) (m a : Plane) :
    lane (readPlane (edgePlane p m a s) spE p) k = if lane m k then lane a k else lane (readPlane s spE p) k := by
  have hplane : readPlane (edgePlane p m a s) spE p = readPlane s spE p &&& ~~~m ||| a &&& m := by
    unfold edgePlane
    cases readMarks s p &&& m != 0
    · rw [when_false, readPlane_writePlane_spE hwf]
    · rw [when_true, readPlane_writeMarks (writePlane_spE_wf hwf p m a) hp, readPlane_writePlane_spE hwf]
  rw [hplane, lane_or, lane_and, lane_and, lane_not m k hk]
  cases lane m k <;> simp

theorem lane_readMarks_edgePlane {p k : Nat} (hp : p < 1024) (hk : k < 64) (m a : Plane) :
    lane (readMarks (edgePlane p m a s) p) k = (lane (readMarks s p) k && !lane m k) := by
  unfold edgePlane
  cases hset : readMarks s p &&& m != 0
  · have hnone : lane (readMarks s p &&& m) k = false :=
      (plane_eq_zero_iff _).1 (by simpa using hset) k hk
    rw [when_false, readMarks_writePlane_spE hwf hp]
    rw [lane_and] at hnone
    cases hm : lane m k <;> simp_all
  · rw [when_true, readMarks_writeMarks (writePlane_spE_wf hwf p m a), lane_and, lane_not m k hk]

theorem read_edgePlane {p b : Nat} (m a : Plane) (he : b < imgE + 8 * p ∨ imgE + 8 * p + 8 ≤ b)
    (hm : b < imgMark + 8 * p ∨ imgMark + 8 * p + 8 ≤ b) :
    Memory.read (edgePlane p m a s).mem b = Memory.read s.mem b := by
  unfold edgePlane
  cases readMarks s p &&& m != 0
  · rw [when_false, read_writePlane_spE hwf m a he]
  · rw [when_true, read_writeMarks (writePlane_spE_wf hwf p m a) _ hm, read_writePlane_spE hwf m a he]

end

/-- Settles O14: after its checks an edge instruction is its stores to E and the marks and one write of ACC, in scalar and in
plane form. -/
theorem sheafEdges : Obligations.SheafEdges := by
  unfold Obligations.SheafEdges
  intro p hp
  have hexec : ∀ o s, exec (p.2.1 o) s
      = .next (sheafStep p.1 o (oneSpaceChecks spE s o) 1 (pcNext s) (edgeEff p.2.2 o) s) := by
    fin_cases hp <;> exact fun _ _ => rfl
  refine ⟨fun o s hinv hs hsp hpl hi hrg => ?scalar, fun o s hinv hs hsp hpl hctx hlt hrg => ?plane⟩
  case scalar =>
    obtain ⟨-, hwf, -⟩ := hinv
    have hi' : o.index < 65536 := by omega
    have hc : (oneSpaceChecks spE s o).first = none := (checks_first_none _).2 (by simp [oneSpaceChecks, hsp, hpl, hrg])
    obtain ⟨hsol, hmem⟩ := edgeEff_scalar p.2.2 s hpl
    refine ⟨_, hexec o s, ?_⟩
    rw [sheafStep_retires hs hc, retire_sol, hsol, retire_mem, hmem, readBit_spE_congr (retire_mem ..),
      readMarks_congr (retire_mem ..), readBit_spE_congr hmem, readMarks_congr hmem]
    exact ⟨rd_retire_pc .., fun k hk => lane_broadcast _ k hk, rfl, rfl, readBit_edgeBit hwf hi' _,
      lane_readMarks_edgeBit hwf hi' _, fun a he hm => read_edgeBit hwf _ he hm⟩
  case plane =>
    obtain ⟨-, hwf, -⟩ := hinv
    have hlt' : absPlane s o < 1024 := by omega
    have hc : (oneSpaceChecks spE s o).first = none :=
      (checks_first_none _).2 (by simp [oneSpaceChecks, hsp, hctx, hrg])
    obtain ⟨hsol, hmem⟩ := edgeEff_plane p.2.2 s hpl
    refine ⟨_, hexec o s, ?_⟩
    rw [sheafStep_retires hs hc, retire_sol, hsol, retire_mem, hmem, readPlane_spE_congr (retire_mem ..),
      readMarks_congr (retire_mem ..), readPlane_spE_congr hmem, readMarks_congr hmem]
    exact ⟨rd_retire_pc .., rfl, rfl, fun k hk => ⟨lane_ofLanes _ k hk, lane_readPlane_edgePlane hwf hlt' hk _ _,
      lane_readMarks_edgePlane hwf hlt' hk _ _⟩, fun a he hm => read_edgePlane hwf _ _ he hm⟩

end Sys2Proof.Proofs
end

section
/-! SUPPORT. PTP on the backbone and the time-event pins (R272 to R285): what the updates of a PTP port and of a pin do, the queueing
of a message in class 7, a message that leaves, the branches of reception, a write of TIM_TEn_CTRL, and the event of a pin; with
these the statement on PTP messages and time-event pins is proved. -/

namespace Sys2Proof.Proofs

open Sys2Proof.Machine R Sys2Proof.Laws

/-! A PTP port changed -/

theorem ptpPort_ptpSet {s : State} (hlen : s.tim.ports.length = 4) (n : Fin 4) (f : PtpPort → PtpPort) :
    ptpPort (ptpSet n f s) n = f (ptpPort s n) := by
  have hn : n.val < s.tim.ports.length := by omega
  simp [ptpPort, ptpSet, timSet, hn]

theorem ptpPort_congr {s t : State} (h : t.tim = s.tim) (n : Nat) : ptpPort t n = ptpPort s n := by rw [ptpPort, h]; rfl

/-! A message queued in class 7 (R293) -/

theorem ptpQueue_of_room {n : Nat} {m : PtpMsg} {s : State} (hroom : bufferRoom s 7 (bbSize (ptpFrame s m)) = true) :
    ptpQueue n m s
      = bbsSet (fun u => { u with queue := u.queue ++ [⟨n, 7, ptpFrame s m, none, none, some m⟩] }) s := by
  simp only [ptpQueue, bbEnqueue, hroom, if_true]

/-- A message that a port makes is queued, the port's record changes with it, and nothing else does. -/
theorem ptpQueue_ptpSet {s : State} (hlen : s.tim.ports.length = 4) (n : Fin 4) (f : PtpPort → PtpPort) (m : PtpMsg)
    (hroom : bufferRoom s 7 (bbSize (ptpFrame s m)) = true) :
    (ptpQueue n m (ptpSet n f s)).bbs = { s.bbs with queue := s.bbs.queue ++ [⟨n, 7, ptpFrame s m, none, none, some m⟩] }
      ∧ ptpPort (ptpQueue n m (ptpSet n f s)) n = f (ptpPort s n) ∧ (ptpQueue n m (ptpSet n f s)).regs = s.regs
      ∧ (ptpQueue n m (ptpSet n f s)).mem = s.mem ∧ (ptpQueue n m (ptpSet n f s)).out = s.out := by
  rw [ptpQueue_of_room (s := ptpSet n f s) hroom]
  exact ⟨rfl, ptpPort_ptpSet hlen n f, rfl, rfl, rfl⟩

/-- A row that sends a message, seen by the part `g` of the port's record. -/
theorem exec_of_sent {i : Instr} {s : State} {n : Fin 4} {f : PtpPort → PtpPort} {m : PtpMsg}
    (hexec : exec i s = .next (s |> ptpSet n f |> ptpQueue n m)) (hlen : s.tim.ports.length = 4)
    (hroom : bufferRoom s 7 (bbSize (ptpFrame s m)) = true) (g : PtpPort → Nat) :
    ∃ t, exec i s = .next t
      ∧ t.bbs = { s.bbs with queue := s.bbs.queue ++ [⟨n, 7, ptpFrame s m, none, none, some m⟩] }
      ∧ g (ptpPort t n) = g (f (ptpPort s n)) ∧ t.regs = s.regs ∧ t.mem = s.mem ∧ t.out = s.out := by
  obtain ⟨hbbs, hport, hrest⟩ := ptpQueue_ptpSet hlen n f m hroom
  exact ⟨_, hexec, hbbs, congrArg g hport, hrest⟩

/-! Sync, Announce and Pdelay_Req (R274) -/

theorem exec_ptpSyncSend_sends (n : Fin 4) {s : State} (h : ptpMaster s n = true) :
    exec (.ptpSyncSend n) s = .next (s |> ptpSet n (fun q => { q with seqSync := (q.seqSync + 1) % 65536 })
      |> ptpQueue n (ptpMake (ptpPort s n) 0x0 (ptpPort s n).domain (ptpPort s n).seqSync [])) :=
  congrArg Host.Outcome.next (if_neg (by simp [h]))

theorem exec_ptpAnnounceSend_sends (n : Fin 4) {s : State} (h : ptpMaster s n = true) :
    exec (.ptpAnnounceSend n) s = .next (s |> ptpSet n (fun q => { q with seqAnn := (q.seqAnn + 1) % 65536 })
      |> ptpQueue n (ptpMake (ptpPort s n) 0xB (ptpPort s n).domain (ptpPort s n).seqAnn (announceFields s))) :=
  congrArg Host.Outcome.next (if_neg (by simp [h]))

theorem exec_ptpPdelaySend_sends (n : Fin 4) {s : State} (h : ptpSends s n = true)
    (hproto : (ptpPort s n).proto = 2 ∨ (ptpPort s n).proto = 3) :
    exec (.ptpPdelaySend n) s = .next (s |> ptpSet n (fun q => { q with seqPdly := (q.seqPdly + 1) % 65536 })
      |> ptpQueue n (ptpMake (ptpPort s n) 0x2 (ptpPort s n).domain (ptpPort s n).seqPdly [])) :=
  congrArg Host.Outcome.next (if_neg (by rcases hproto with h' | h' <;> simp [h, h']))

/-- A port that does not send leaves the state as it is at each of its sending times. -/
theorem exec_ptpSend_silent (n : Fin 4) {s : State} (h : ptpSends s n = false) :
    exec (.ptpSyncSend n) s = .next s ∧ exec (.ptpAnnounceSend n) s = .next s ∧ exec (.ptpPdelaySend n) s = .next s := by
  have hmaster : ptpMaster s n = false := by simp [ptpMaster, h]
  exact ⟨congrArg Host.Outcome.next (if_pos (by simp [hmaster])), congrArg Host.Outcome.next (if_pos (by simp [hmaster])),
    congrArg Host.Outcome.next (if_pos (by simp [h]))⟩

/-! A message received (R274, R276) -/

theorem exec_ptpMessageReceive_powered (n : Fin 4) (kind : Fin 16) (d : Byte) (q : BitVec 16) (m : PtpTimes) {s : State}
    (h : islandPowered s 19 = true) : exec (.ptpMessageReceive n kind d q m) s
      = .next (ptpReceive n kind d.toNat q.toNat m.sec.toNat m.ns.toNat m.corr m.two s) :=
  congrArg Host.Outcome.next (if_pos h)

/-- What the first Announce of a second by port n does: it is counted, the second is kept, and event 264 is raised. -/
def foreignSeen (n : Nat) (s : State) : State :=
  s |> incSat TIM_FOREIGN_COUNT 1 |> ptpSet n (fun q => { q with foreignSec := rd s TIM_SEC + 1 }) |> raise 264

section
variable {n : Nat} {s : State} (hon : portOn s n = true) (domain seq sec ns : Nat) (c : Int) (two : Bool)
include hon

/-- The first Announce of a second by a port is counted and raises event 264 (R276). -/
theorem ptpReceive_announce_first (h : (ptpPort s n).foreignSec ≠ rd s TIM_SEC + 1) :
    ptpReceive n 0xB domain seq sec ns c two s = foreignSeen n s := by
  have hnew : ((ptpPort s n).foreignSec != rd s TIM_SEC + 1) = true := bne_iff_ne.2 h
  simp [ptpReceive, hon, hnew, foreignSeen]

/-- Every later one is counted. -/
theorem ptpReceive_announce_later (h : (ptpPort s n).foreignSec = rd s TIM_SEC + 1) :
    ptpReceive n 0xB domain seq sec ns c two s = incSat TIM_FOREIGN_COUNT 1 s := by
  simp [ptpReceive, hon, h]

variable (hsends : ptpSends s n = true) {p : PtpPort} (hp : p = ptpPort s n) (hdom : domain = p.domain)
include hsends hp hdom

/-- The first Delay_Req of a second is answered. -/
theorem ptpReceive_delayReq (hproto : p.proto ≤ 1) (hsec : p.reqSec ≠ rd s TIM_SEC) :
    ptpReceive n 0x1 domain seq sec ns c two s
      = (s |> ptpSet n (fun q => { q with reqSec := rd s TIM_SEC, reqCnt := 1 })
          |> ptpQueue n (ptpMake p 0x9 domain seq (stampFields (ingressStamp s n) ++ [p.logDreq]))) := by
  subst hp hdom
  simp [ptpReceive, hon, hsends, hproto, hsec]

theorem ptpReceive_pdelayReq (hproto : 2 ≤ p.proto) : ptpReceive n 0x2 domain seq sec ns c two s
    = ptpQueue n (ptpMake p 0x3 domain seq (stampFields (ingressStamp s n))) s := by
  subst hp hdom
  simp [ptpReceive, hon, hsends, hproto]

/-- A one-step Pdelay_Resp to the request last sent completes the measurement. -/
theorem ptpReceive_pdelayResp (hproto : 2 ≤ p.proto) (hseq : seq = (p.seqPdly + 65535) % 65536) {t1 : Int}
    (ht1 : p.t1 = some t1) :
    ptpReceive n 0x3 domain seq sec ns c false s = peerDelay n ((ingressStamp s n - t1 - c) / 2) s := by
  subst hp hdom
  simp [ptpReceive, hon, hsends, hproto, hseq, ht1]

end

/-! An Announce of another clock (R276) -/

theorem rd_incSat_self (f : Fld) (k : Nat) (s : State) : rd (incSat f k s) f = satAdd f.width (rd s f) k := by
  have hlt : satAdd f.width (rd s f) k < 2 ^ f.width :=
    (Nat.min_le_right ..).trans_lt (Nat.sub_one_lt (Nat.two_pow_pos _).ne')
  rw [incSat_eq, rd_wr_self, Nat.mod_eq_of_lt hlt]

theorem rd_incSat_ne (f g : Fld) (k : Nat) (s : State) (h : g.key ≠ f.key) : rd (incSat f k s) g = rd s g :=
  rd_wr_ne s f g _ h

/-- The count of foreign clocks lies in no register of the event controller. -/
theorem foreignCount_not_evtKey : ¬ evtKey TIM_FOREIGN_COUNT.key := by
  simp only [evtKey, TIM_FOREIGN_COUNT, I.EVC_LATCHLOST, I.HBR_MSIXPEND, ifld, Fld.key]; omega

theorem rd_foreignSeen (n : Nat) (s : State) (g : Fld) (hg : ¬ evtKey g.key) :
    rd (foreignSeen n s) g = rd (incSat TIM_FOREIGN_COUNT 1 s) g := rd_raise 264 _ g (by decide) hg

theorem foreignSeen_mem (n : Nat) (s : State) : (foreignSeen n s).mem = s.mem := raiseWith_mem ..

theorem pendBit_foreignSeen (n : Nat) {s : State} (hevc : evcOn s) : pendBit (foreignSeen n s) 264 = true := by
  refine pend_raiseWith 264 0 false _ (by decide) ?_
  rw [← hevc, islandPowered, islandPowered, ← rd_incSat_ne TIM_FOREIGN_COUNT PWR_ISLSTAT 1 s (by decide)]
  rfl

theorem foreignSec_foreignSeen {s : State} (hlen : s.tim.ports.length = 4) (n : Fin 4) :
    (ptpPort (foreignSeen n s) n).foreignSec = rd s TIM_SEC + 1 := by
  rw [foreignSeen, ptpPort_congr (t := raise 264 _) (raiseWith_tim ..), ptpPort_ptpSet (s := incSat TIM_FOREIGN_COUNT 1 s) hlen]

theorem pendBit_incSat_foreign (n : Nat) (s : State) (hn : n < 512) :
    pendBit (incSat TIM_FOREIGN_COUNT 1 s) n = pendBit s n :=
  pend_wr _ _ n s (fun i _ => by simp only [EVC_PEND, TIM_FOREIGN_COUNT, Fld.key]; omega) hn

/-! A message that leaves (R272, R293) -/

theorem queueHead_port {s : State} {port cls : Nat} {q : BbQueued} (h : queueHead s port cls = some q) : q.port = port := by
  have hq := List.find?_some h
  simp only [Bool.and_eq_true, beq_iff_eq] at hq
  exact hq.1

theorem jackFlicker_eq (n : Nat) (s : State) : jackFlicker n s = { s with out := s.out ++ flickers n } := by
  unfold jackFlicker flickers
  by_cases h : 2 ≤ n <;> simp [h, emit]

/-- The head of a queue that may start and carries a message leaves with its egress stamp. -/
theorem exec_backboneFrameTransmit_msg {port : Fin 4} {cls : Fin 8} {q : BbQueued} {m : PtpMsg} {s : State}
    (hq : queueHead s port cls = some q) (hl : q.launch = none) (hmsg : q.msg = some m) (hon : portOn s port = true)
    (hmay : mayStart s q = true) (hout : outranked s port cls = false) : exec (.backboneFrameTransmit port cls) s
      = .next (ptpLeaves port m (egressStamp s port) { queueDrop q s with out := s.out ++ flickers port }) := by
  have hexec : exec (.backboneFrameTransmit port cls) s = execBackboneFrameTransmit port cls s := rfl
  have hgoes : (portOn s port && q.launch.isNone && mayStart s q && !outranked s port cls) = true := by
    simp [hl, hon, hmay, hout]
  have hport : q.port = port := queueHead_port hq
  rw [hexec, execBackboneFrameTransmit, hq]
  simp only [hgoes, if_true, bbSend, hmsg, hport, jackFlicker_eq]
  rfl

theorem ptpLeaves_oneStepSync (n : Nat) {m : PtpMsg} (stamp : Int) (s : State) (hk : m.kind = 0x0) (h : m.oneStep = true) :
    ptpLeaves n m stamp s = emit (.ptp n { m with fields := stampFields stamp }) s := if_pos ⟨hk, h⟩

theorem ptpLeaves_twoStepSync (n : Nat) {m : PtpMsg} (stamp : Int) (s : State) (hk : m.kind = 0x0) (h : m.oneStep = false) :
    ptpLeaves n m stamp s
      = ptpQueue n (ptpMake (ptpPort s n) 0x8 m.domain m.seq (stampFields stamp)) (emit (.ptp n m) s) := by
  obtain ⟨h0, h3, h2⟩ : (m.kind == 0x0) = true ∧ (m.kind == 0x3) = false ∧ (m.kind == 0x2) = false := by simp [hk]
  rw [ptpLeaves, if_neg (by simp [h]), h0, h3, h2, when_true, when_false, when_false]

/-! A pin changed (R283) -/

@[simp] theorem rd_teSet (n : Nat) (f : TePin → TePin) (s : State) (g : Fld) : rd (teSet n f s) g = rd s g := rfl
@[simp] theorem on_teSet (n : Nat) (f : TePin → TePin) (s : State) (g : Fld) : on (teSet n f s) g = on s g := rfl
@[simp] theorem tePin_emit (e : Emit) (s : State) (n : Nat) : tePin (emit e s) n = tePin s n := rfl
@[simp] theorem tePin_clr (f : Fld) (s : State) (n : Nat) : tePin (clr f s) n = tePin s n := rfl

theorem tePin_teSet {s : State} (hlen : s.tim.te.length = 4) (n : Fin 4) (f : TePin → TePin) :
    tePin (teSet n f s) n = f (tePin s n) := by
  have hn : n.val < s.tim.te.length := by omega
  simp [tePin, teSet, timSet, hn]

/-! A write of TIM_TEn_CTRL (R284) -/

/-- The fields of TIM_TEn_CTRL. -/
abbrev teCtrlFields (n : Nat) : List Fld :=
  [TIM_TE_CTRL_ARM n, TIM_TE_CTRL_SAFEOFF n, TIM_TE_CTRL_LEVEL n, TIM_TE_CTRL_MODE n, TIM_TE_CTRL_WIDTH n]

/-- TIM_TEn_CTRL holds what a write of it leaves. -/
def teCtrl (n : Nat) (arm safeOff level : Bool) (mode width : Nat) (s : State) : State :=
  s |> wr (TIM_TE_CTRL_SAFEOFF n) (b2n safeOff) |> wr (TIM_TE_CTRL_LEVEL n) (b2n level) |> wr (TIM_TE_CTRL_MODE n) mode
    |> wr (TIM_TE_CTRL_WIDTH n) width |> wr (TIM_TE_CTRL_ARM n) (b2n arm)

section
variable (n : Nat) (arm safeOff level : Bool) (mode width : Nat) (s : State)

theorem rd_teCtrl_arm : rd (teCtrl n arm safeOff level mode width s) (TIM_TE_CTRL_ARM n) = b2n arm := by
  rw [teCtrl, rd_wr_self]
  cases arm <;> rfl

theorem rd_teCtrl_mode : rd (teCtrl n arm safeOff level mode width s) (TIM_TE_CTRL_MODE n) = mode % 2 ^ 3 := by
  rw [teCtrl, rd_wr_ne, rd_wr_ne, rd_wr_self]
  · rfl
  all_goals simp only [TIM_TE_CTRL_MODE, TIM_TE_CTRL_ARM, TIM_TE_CTRL_WIDTH, Fld.key]; omega

theorem rd_teCtrl_width : rd (teCtrl n arm safeOff level mode width s) (TIM_TE_CTRL_WIDTH n) = width % 2 ^ 16 := by
  rw [teCtrl, rd_wr_ne, rd_wr_self]
  · rfl
  · simp only [TIM_TE_CTRL_ARM, TIM_TE_CTRL_WIDTH, Fld.key]; omega

theorem rd_teCtrl_ne (g : Fld) (hg : ∀ f ∈ teCtrlFields n, g.key ≠ f.key) :
    rd (teCtrl n arm safeOff level mode width s) g = rd s g := by
  simp only [List.forall_mem_cons] at hg
  obtain ⟨harm, hsafe, hlevel, hmode, hwidth, -⟩ := hg
  rw [teCtrl, rd_wr_ne _ _ _ _ harm, rd_wr_ne _ _ _ _ hwidth, rd_wr_ne _ _ _ _ hmode, rd_wr_ne _ _ _ _ hlevel,
    rd_wr_ne _ _ _ _ hsafe]

/-- Registers other than TIM_TEn_CTRL of this pin read as before. -/
theorem rd_teCtrl_outside (g : Fld) (hg : g.key < (0x1080200100 + 0x20 * n) * 64 ∨ (0x1080200104 + 0x20 * n) * 64 ≤ g.key) :
    rd (teCtrl n arm safeOff level mode width s) g = rd s g := by
  refine rd_teCtrl_ne n arm safeOff level mode width s g ?_
  simp only [List.forall_mem_cons, TIM_TE_CTRL_ARM, TIM_TE_CTRL_SAFEOFF, TIM_TE_CTRL_LEVEL, TIM_TE_CTRL_MODE,
    TIM_TE_CTRL_WIDTH, Fld.key] at hg ⊢
  refine ⟨?_, ?_, ?_, ?_, ?_, by simp⟩ <;> omega

theorem now_teCtrl : now (teCtrl n arm safeOff level mode width s) = now s := by
  rw [now, now, rd_teCtrl_outside _ _ _ _ _ _ _ _ (.inl ?_), rd_teCtrl_outside _ _ _ _ _ _ _ _ (.inl ?_)]
  all_goals simp only [TIM_SEC, TIM_NSEC, Fld.key]; omega

theorem teTime_teCtrl : teTime (teCtrl n arm safeOff level mode width s) n = teTime s n := by
  rw [teTime, teTime, rd_teCtrl_outside _ _ _ _ _ _ _ _ (.inr ?_), rd_teCtrl_outside _ _ _ _ _ _ _ _ (.inl ?_),
    rd_teCtrl_outside _ _ _ _ _ _ _ _ (.inr ?_)]
  all_goals simp only [TIM_SEC, TIM_TE_TIME_SEC, TIM_TE_TIME_NSEC, Fld.key]; omega

end

/-- An armed pin in mode ONCE whose instant is at least 100 ns ahead waits for it. -/
theorem teReprogram_once {n : Nat} (before : State) {s : State} (harm : on s (TIM_TE_CTRL_ARM n) = true)
    (hmode : rd s (TIM_TE_CTRL_MODE n) = 1) (hahead : now s + 100 ≤ teTime s n) :
    teReprogram n before s = teSet n (fun p => { p with
      next := some (teTime s n), old := (tePin before n).old ++ teBefore before n (now s + 100) }) s := by
  have hnext : teNext s n (now s + 100) = some (teTime s n) := by simp [teNext, hmode, hahead]
  have hinstant : teInstant before s n = some (teTime s n) := by simp [teInstant, hmode]
  rw [teReprogram, harm, hnext, hinstant, Option.any_some, decide_eq_false (Nat.not_lt.2 hahead), Bool.false_and, when_false]
  rfl

theorem teReprogram_disarmed {n : Nat} (before : State) {s : State} (harm : on s (TIM_TE_CTRL_ARM n) = false) :
    teReprogram n before s = teSet n (fun p => { p with
      next := none, old := (tePin before n).old ++ teBefore before n (now s + 100) }) s := by
  simp [teReprogram, harm]

/-- A pin armed in mode ONCE for an instant at least 100 ns ahead. -/
theorem teArm_once_ahead (n : Nat) (safeOff level : Bool) {width : Nat} {s : State} (hw : width ≠ 0)
    (hahead : now s + 100 ≤ teTime s n) :
    teArm n true safeOff level 1 width s = teSet n (fun p => { p with
      next := some (teTime s n), old := (tePin s n).old ++ teBefore s n (now s + 100) })
        (teCtrl n true safeOff level 1 width s) := by
  have hmax : max 1 width = width := by omega
  have hctrl : teArm n true safeOff level 1 width s = teReprogram n s (teCtrl n true safeOff level 1 width s) := by
    simp [teArm, teCtrl, hmax]
  rw [hctrl, teReprogram_once s (by rw [on, rd_teCtrl_arm]; rfl) (rd_teCtrl_mode ..)
    (by rw [now_teCtrl, teTime_teCtrl]; exact hahead), now_teCtrl, teTime_teCtrl]

/-- A pin that is refused is not armed. -/
theorem on_arm_of_refused (n : Nat) (safeOff level : Bool) (mode width : Nat) (s : State) :
    on (set1 (TIM_TE_STAT_CFGERR n) (teCtrl n false safeOff level mode width s)) (TIM_TE_CTRL_ARM n) = false := by
  rw [on, set1_eq, rd_wr_ne _ _ _ _ (by simp only [TIM_TE_CTRL_ARM, TIM_TE_STAT_CFGERR, Fld.key]; omega), rd_teCtrl_arm]
  rfl

/-- A PERIODIC pin with too short a period is not armed, and CFGERR says so (R284). -/
theorem teArm_periodTooShort (n : Nat) (safeOff level : Bool) {width : Nat} {s : State}
    (h : rd s (TIM_TE_PERIOD_PERIOD n) < 8 * max 1 width + 16) :
    ∃ f, teArm n true safeOff level 2 width s
      = teSet n f (set1 (TIM_TE_STAT_CFGERR n) (teCtrl n false safeOff level 2 (max 1 width) s)) := by
  have hctrl : teArm n true safeOff level 2 width s
      = teReprogram n s (set1 (TIM_TE_STAT_CFGERR n) (teCtrl n false safeOff level 2 (max 1 width) s)) := by
    simp [teArm, teCtrl, h]
  exact ⟨_, hctrl.trans (teReprogram_disarmed s (on_arm_of_refused ..))⟩

theorem exec_teArm_taken (w : Writer) (n : Fin 4) (safeOff level : Bool) (mode : Fin 8) (width : BitVec 16) {s : State}
    (h : WriteTaken w (TIM_TE_CTRL_ARM n) 1 s) :
    exec (.teArm w n true safeOff level mode width) s = .next (teArm n true safeOff level mode width.toNat s) :=
  congrArg Host.Outcome.next (gateWrite_taken w _ 1 _ s h)

/-- A pin is armed in mode ONCE. -/
theorem exec_teArm_once {w : Writer} {n : Fin 4} (safeOff level : Bool) {width : BitVec 16} {s : State}
    (hlen : s.tim.te.length = 4) (hw : WriteTaken w (TIM_TE_CTRL_ARM n) 1 s) (hahead : now s + 100 ≤ teTime s n)
    (hwidth : width ≠ 0) :
    ∃ t, exec (.teArm w n true safeOff level 1 width) s = .next t ∧ on t (TIM_TE_CTRL_ARM n) = true
      ∧ rd t (TIM_TE_CTRL_MODE n) = 1 ∧ rd t (TIM_TE_CTRL_WIDTH n) = width.toNat ∧ (tePin t n).next = some (teTime s n)
      ∧ FieldsSameBut (teCtrlFields n) s t ∧ MemSame s t := by
  have hwidth' : width.toNat ≠ 0 := fun h => hwidth (BitVec.eq_of_toNat_eq h)
  refine ⟨_, (exec_teArm_taken w n safeOff level 1 width hw).trans
    (congrArg Host.Outcome.next (teArm_once_ahead n safeOff level hwidth' hahead)), ?_, ?_, ?_, ?_, ?_, memSame_of_mem rfl⟩
  · rw [on_teSet, on, rd_teCtrl_arm]; rfl
  · rw [rd_teSet, rd_teCtrl_mode]; rfl
  · rw [rd_teSet, rd_teCtrl_width, Nat.mod_eq_of_lt width.isLt]
  · rw [tePin_teSet (s := teCtrl _ _ _ _ _ _ s) hlen]
  · exact fun g hg _ => (rd_teSet ..).trans (rd_teCtrl_ne _ _ _ _ _ _ s g hg)

/-- A PERIODIC pin is refused. -/
theorem exec_teArm_periodTooShort {w : Writer} {n : Fin 4} (safeOff level : Bool) {width : BitVec 16} {s : State}
    (hw : WriteTaken w (TIM_TE_CTRL_ARM n) 1 s) (hshort : rd s (TIM_TE_PERIOD_PERIOD n) < 8 * max 1 width.toNat + 16) :
    ∃ t, exec (.teArm w n true safeOff level 2 width) s = .next t ∧ on t (TIM_TE_CTRL_ARM n) = false
      ∧ on t (TIM_TE_STAT_CFGERR n) = true ∧ MemSame s t := by
  obtain ⟨f, hf⟩ := teArm_periodTooShort n safeOff level hshort
  refine ⟨_, (exec_teArm_taken w n safeOff level 2 width hw).trans (congrArg Host.Outcome.next hf), ?_, ?_, memSame_of_mem rfl⟩
  · rw [on_teSet, on_arm_of_refused]
  · rw [on_teSet, on, set1_eq, rd_wr_self]; rfl

/-! The event of a pin (R283) -/

/-- Unless the safe-output signal holds the pin low, an event of a pulse mode gives its pulse. -/
theorem teAct_pulse (n : Nat) (high : Bool) (width : Nat) {s : State} (h : on s CYC_STATE_SAFEOUT = false) :
    teAct n false high width s = emit (.pulse n width) s := by
  simp [teAct, h]

section
variable {n d : Nat} {s : State} (hold : (tePin s n).old = []) (hnext : (tePin s n).next = some d)
include hold hnext

theorem teEvent_due (hd : d ≤ now s + 8) : teEvent n s = teDue n d s := by
  have hnot : ¬ now s + 8 < d := by omega
  simp [teEvent, hold, hnext, hnot]

theorem teEvent_early (hd : now s + 8 < d) : teEvent n s = s := by
  simp [teEvent, hold, hnext, hd]
end

theorem teDue_once {n : Nat} (d : Nat) {s : State} (hsafe : on s CYC_STATE_SAFEOUT = false)
    (hmode : rd s (TIM_TE_CTRL_MODE n) = 1) :
    teDue n d s = (s |> teSet n (fun p => { p with next := none }) |> clr (TIM_TE_CTRL_ARM n)
      |> emit (.pulse n (8 * rd s (TIM_TE_CTRL_WIDTH n)))) := by
  have hsafe' : on (s |> teSet n (fun p => { p with next := none }) |> clr (TIM_TE_CTRL_ARM n)) CYC_STATE_SAFEOUT = false := by
    rw [on, clr_eq, rd_wr_ne]
    · exact hsafe
    · simp only [CYC_STATE_SAFEOUT, TIM_TE_CTRL_ARM, Fld.key]; omega
  rw [← teAct_pulse n (on s (TIM_TE_CTRL_LEVEL n)) _ hsafe']
  simp [teDue, hmode]

theorem teDue_periodic {n : Nat} (d : Nat) {s : State} (hsafe : on s CYC_STATE_SAFEOUT = false)
    (hmode : rd s (TIM_TE_CTRL_MODE n) = 2) :
    teDue n d s = (s |> teSet n (fun p => { p with
        next := if rd s (TIM_TE_PERIOD_PERIOD n) = 0 then none else some (d + rd s (TIM_TE_PERIOD_PERIOD n)) })
      |> emit (.pulse n (8 * rd s (TIM_TE_CTRL_WIDTH n)))) := by
  rw [← teAct_pulse n (on s (TIM_TE_CTRL_LEVEL n)) _ (by exact hsafe)]
  simp [teDue, hmode]

section
variable {n : Fin 4} {d : Nat} {s : State} (hlen : s.tim.te.length = 4) (hold : (tePin s n).old = [])
  (hnext : (tePin s n).next = some d)
include hlen hold hnext

theorem exec_teEvent_once (hd : d ≤ now s + 8) (hsafe : on s CYC_STATE_SAFEOUT = false)
    (hmode : rd s (TIM_TE_CTRL_MODE n) = 1) :
    ∃ t, exec (.teEvent n) s = .next t ∧ t.out = s.out ++ [.pulse n (8 * rd s (TIM_TE_CTRL_WIDTH n))]
      ∧ on t (TIM_TE_CTRL_ARM n) = false ∧ (tePin t n).next = none ∧ FieldsSameBut [TIM_TE_CTRL_ARM n] s t ∧ MemSame s t := by
  refine ⟨_, congrArg Host.Outcome.next ((teEvent_due hold hnext hd).trans (teDue_once d hsafe hmode)), rfl, ?_, ?_,
    fieldsSameBut_wr (TIM_TE_CTRL_ARM n) 0 (by simp) (fieldsSameBut_of_regs rfl), memSame_of_mem rfl⟩
  · rw [on, rd_emit, clr_eq, rd_wr_self]; rfl
  · rw [tePin_emit, tePin_clr, tePin_teSet hlen]

theorem exec_teEvent_periodic (hd : d ≤ now s + 8) (hsafe : on s CYC_STATE_SAFEOUT = false)
    (hmode : rd s (TIM_TE_CTRL_MODE n) = 2) :
    ∃ t, exec (.teEvent n) s = .next t ∧ t.out = s.out ++ [.pulse n (8 * rd s (TIM_TE_CTRL_WIDTH n))]
      ∧ (tePin t n).next
          = (if rd s (TIM_TE_PERIOD_PERIOD n) = 0 then none else some (d + rd s (TIM_TE_PERIOD_PERIOD n)))
      ∧ t.regs = s.regs ∧ t.mem = s.mem := by
  refine ⟨_, congrArg Host.Outcome.next ((teEvent_due hold hnext hd).trans (teDue_periodic d hsafe hmode)), rfl, ?_, rfl, rfl⟩
  rw [tePin_emit, tePin_teSet hlen]

end

/-! The statement -/

/-- Settles O48: each clause is the branch of its row that its hypotheses select, with what the updates of that branch write. -/
theorem ptpAndPins : Obligations.PtpAndPins := by
  unfold Obligations.PtpAndPins
  refine ⟨?ports, ?syncLeaves, ?announce, ?config, ?arm, ?event, ?ppsOut⟩
  case ports =>
    intro n p s hlen hp
    refine ⟨fun m hm hsends hroom => ?sync, fun m hm hsends hroom => ?ann, fun m hm hsends hproto hroom => ?pdelay,
      exec_ptpSend_silent n, fun d q x ns c two m hpow hon hsends hdom => ⟨fun hm hproto hsec hroom => ?delayReq,
        fun hm hproto hroom => ?pdelayReq, fun t1 ht1 hproto hseq => ?pdelayResp⟩⟩
    case sync =>
      subst hm hp
      exact exec_of_sent (exec_ptpSyncSend_sends n hsends) hlen hroom PtpPort.seqSync
    case ann =>
      subst hm hp
      exact exec_of_sent (exec_ptpAnnounceSend_sends n hsends) hlen hroom PtpPort.seqAnn
    case pdelay =>
      subst hm hp
      exact exec_of_sent (exec_ptpPdelaySend_sends n hsends hproto) hlen hroom PtpPort.seqPdly
    case delayReq =>
      subst hm
      obtain ⟨hbbs, -, hregs, hmem, -⟩ := ptpQueue_ptpSet hlen n
        (fun r => { r with reqSec := rd s TIM_SEC, reqCnt := 1 }) _ hroom
      rw [exec_ptpMessageReceive_powered n _ d q _ hpow]
      exact ⟨_, congrArg Host.Outcome.next (ptpReceive_delayReq hon _ _ _ _ _ _ hsends hp hdom hproto hsec), hregs, hmem, hbbs⟩
    case pdelayReq =>
      subst hm
      rw [exec_ptpMessageReceive_powered n _ d q _ hpow]
      refine ⟨_, congrArg Host.Outcome.next (ptpReceive_pdelayReq hon _ _ _ _ _ _ hsends hp hdom hproto), ?_⟩
      rw [ptpQueue_of_room hroom]
      exact ⟨rfl, rfl, rfl⟩
    case pdelayResp =>
      rw [exec_ptpMessageReceive_powered n _ d q _ hpow]
      refine ⟨_, congrArg Host.Outcome.next (ptpReceive_pdelayResp hon _ _ _ _ _ hsends hp hdom hproto hseq ht1), rfl, rfl, rfl, ?_⟩
      rw [peerDelay, ptpPort_ptpSet hlen]
      exact ⟨rfl, rfl⟩
  case syncLeaves =>
    intro port cls q m f s hq hl hmsg hk hon hmay hout hf
    have hsend := exec_backboneFrameTransmit_msg hq hl hmsg hon hmay hout
    refine ⟨fun hone => ⟨_, hsend, ?_⟩, fun htwo hroom => ⟨_, hsend, ?_⟩⟩
    · rw [ptpLeaves_oneStepSync _ _ _ hk hone]
      exact ⟨rfl, rfl, rfl, rfl⟩
    · subst hf
      rw [ptpLeaves_twoStepSync _ _ _ hk htwo, ptpQueue_of_room (by exact hroom)]
      exact ⟨rfl, rfl, rfl, rfl⟩
  case announce =>
    intro n d q x ns c two s hlen hpow hon
    rw [exec_ptpMessageReceive_powered n _ d q _ hpow]
    refine ⟨fun hfirst hevc => ?_, fun hlater => ?_⟩
    · refine ⟨_, congrArg Host.Outcome.next (ptpReceive_announce_first hon _ _ _ _ _ _ hfirst),
        pendBit_foreignSeen n hevc, foreignSec_foreignSeen hlen n, ?_, fun g hg he => ?_, memSame_of_mem (foreignSeen_mem ..)⟩
      · rw [rd_foreignSeen _ _ _ foreignCount_not_evtKey, rd_incSat_self]
      · rw [rd_foreignSeen _ _ _ he, rd_incSat_ne _ _ _ _ (hg _ (by simp))]
    · exact ⟨_, congrArg Host.Outcome.next (ptpReceive_announce_later hon _ _ _ _ _ _ hlater), rd_incSat_self ..,
        pendBit_incSat_foreign 264 s (by decide), rfl, rfl, fun g hg => rd_incSat_ne _ _ _ _ hg, rfl, rfl⟩
  case config =>
    intro n s hlen
    refine ⟨_, rfl, rfl, rfl, ?_⟩
    rw [ptpPort_ptpSet hlen]
    exact ⟨rfl, rfl, rfl⟩
  case arm =>
    intro w n safeOff level width s hlen hw
    exact ⟨exec_teArm_once safeOff level hlen hw, exec_teArm_periodTooShort safeOff level hw⟩
  case event =>
    intro n d s hlen hold hnext
    exact ⟨exec_teEvent_once hlen hold hnext, exec_teEvent_periodic hlen hold hnext,
      fun hd => congrArg Host.Outcome.next (teEvent_early hold hnext hd)⟩
  case ppsOut =>
    intro s hen hsec
    refine ⟨emit (.pulse 4 100000000) s, ?_, rfl, rfl, rfl⟩
    have hexec : exec .ppsOutput s = execPpsOutput s := rfl
    rw [hexec, execPpsOutput, hen, decide_eq_true hsec, Bool.true_and, when_true]

end Sys2Proof.Proofs
end

section
/-! SUPPORT. The safety functions' carriers (R395, R399, R403, R410, R413, R416): which register fields FIO's outputs, a pair demand
and a datagram sent write, the demands that publication leaves, a datagram that is counted, and what the time-outs change; with these
the statement on Safeguard datagrams, publication, safe bits and time-outs is proved. -/

namespace Sys2Proof.Proofs

open Sys2Proof.Machine R Sys2Proof.Laws

/-! What the outputs of FIO write (Table 16.3, R384, R385) -/

/-- Keys of the fields that driving the outputs and latching a pair fault may write: those of an event, FIO_OUT and FIO_FAULT,
FIO_CHSTAT, FIO_PAIRSTAT but for DEMAND, and FIO's own notes of its outputs. -/
def outputKey (k : Nat) : Prop :=
  evtKey k ∨ (0x1080250018 * 64 ≤ k ∧ k < 0x1080250020 * 64)
    ∨ (0x1080250104 * 64 ≤ k ∧ k < 0x10802501C0 * 64 ∧ k / 64 % 8 = 4)
    ∨ (0x1080250310 * 64 ≤ k ∧ k < 0x1080250320 * 64 ∧ k % 64 ≠ 1)
    ∨ ((I.FIO_LEVEL 0).key ≤ k ∧ k < I.FIO_PFSAFE.key) ∨ k = I.FIO_WANT.key
    ∨ ((I.FIO_DEMT 0).key ≤ k ∧ k < (I.FIO_TPT 0).key)

theorem outputKey_of_evtKey {k : Nat} (h : evtKey k) : outputKey k := .inl h

theorem driveChannel_untouched {s t : State} {n : Nat} (hn : n < 24) (h : Untouched outputKey s t) :
    Untouched outputKey s (driveChannel t n) := by
  unfold driveChannel setFlag
  refine .wr _ _ ?nosup (.when (fun u hu => .wr _ _ ?seen hu) (.when (fun u hu => .wr _ _ ?ovlNow (.wr _ _ ?curr hu))
    (.when (fun u hu => .wr _ _ ?level hu) (.when (fun u hu => .wr _ _ ?consec hu) (.when (fun u hu => .wr _ _ ?onTime hu)
      (.wr _ _ ?want (.wr _ _ ?out h)))))))
  case want => simp only [outputKey, true_or, or_true]
  all_goals
    simp only [outputKey, FIO_CHSTAT_NOSUP, FIO_CHSTAT_SEEN, FIO_CHSTAT_CURR, FIO_OUT, I.FIO_OVLNOW, I.FIO_LEVEL, I.FIO_CONSEC,
      I.FIO_ONTIME, I.FIO_WANT, I.FIO_DEMT, I.FIO_PFSAFE, ifld, Fld.key]
    omega

theorem fioDrive_untouched {s t : State} (h : Untouched outputKey s t) : Untouched outputKey s (fioDrive t) := by
  unfold fioDrive faultWord pairOnBits row3Arise
  refine .wr _ _ ?fault (.foldl (fun u p hp hu => .wr _ _ ?pairOn hu)
    (.foldl (fun u n hn hu => driveChannel_untouched (List.mem_range.1 hn) hu)
      (.when (fun u hu => .wr _ _ ?row3 (.wr _ _ ?hold hu)) h)))
  case pairOn =>
    have := List.mem_range.1 hp
    simp only [outputKey, FIO_PAIRSTAT_ON, Fld.key]
    omega
  all_goals
    simp only [outputKey, FIO_FAULT, I.FIO_ROW3, I.FIO_HOLD, I.FIO_LEVEL, I.FIO_PFSAFE, ifld, Fld.key]
    omega

theorem pairFault_untouched {s t : State} {p : Nat} (hp : p < 4) (code : Nat) (h : Untouched outputKey s t) :
    Untouched outputKey s (pairFault p code t) := by
  unfold pairFault
  split
  · exact h
  · refine fioDrive_untouched (.trans (.wr _ _ ?code (.wr _ _ ?latched h))
      ((raiseWith_untouched 393 0 false _ _ (by decide) (.refl _ _)).mono fun _ => outputKey_of_evtKey))
    all_goals
      simp only [outputKey, FIO_PAIRSTAT_LATCHED, FIO_PAIRSTAT_CODE, Fld.key]
      omega

/-! A demand delivered to a pair (R384) -/

/-- Keys of the fields that delivering a demand to pair `p` may write. -/
def demandKey (p k : Nat) : Prop := outputKey k ∨ k = (FIO_PAIRSTAT_DEMAND p).key

theorem demand_not_outputKey {p : Nat} (hp : p < 4) : ¬ outputKey (FIO_PAIRSTAT_DEMAND p).key := by
  simp only [outputKey, evtKey, FIO_PAIRSTAT_DEMAND, I.EVC_LATCHLOST, I.HBR_MSIXPEND, I.FIO_LEVEL, I.FIO_PFSAFE, I.FIO_WANT,
    I.FIO_DEMT, I.FIO_TPT, ifld, Fld.key]
  omega

/-- A demand that FIO takes: its field, and then outputs alone. -/
theorem pairDemand_taken {s : State} {p : Nat} (hp : p < 4) (d : Bool) (hact : fioActive s = true) (hused : pairUsed s p = true) :
    Untouched outputKey (wr (FIO_PAIRSTAT_DEMAND p) (b2n d) s) (pairDemand p d s) := by
  have hdem : outputKey (I.FIO_DEMT p).key := by
    simp only [outputKey, I.FIO_DEMT, I.FIO_TPT, ifld, Fld.key]
    omega
  simp only [pairDemand, hact, hused, Bool.not_true, Bool.or_self, Bool.false_eq_true, if_false]
  exact fioDrive_untouched (.when (fun u hu => pairFault_untouched hp 6 hu) (.wr _ _ hdem (.refl _ _)))

theorem on_demand_pairDemand {s : State} {p : Nat} (hp : p < 4) (d : Bool) (hact : fioActive s = true)
    (hused : pairUsed s p = true) : on (pairDemand p d s) (FIO_PAIRSTAT_DEMAND p) = d := by
  rw [on, pairDemand_taken hp d hact hused _ (demand_not_outputKey hp), rd_wr_self]
  cases d <;> rfl

theorem pairDemand_untouched {s t : State} {p : Nat} (hp : p < 4) (d : Bool) (h : Untouched (demandKey p) s t) :
    Untouched (demandKey p) s (pairDemand p d t) := by
  by_cases hskips : (!fioActive t || !pairUsed t p) = true
  · rwa [pairDemand, if_pos hskips]
  · obtain ⟨hact, hused⟩ : fioActive t = true ∧ pairUsed t p = true := by simpa using hskips
    exact (Untouched.wr _ _ (.inr rfl) h).trans ((pairDemand_taken hp d hact hused).mono fun _ => .inl)

/-! Publication: what its carriers write (R394, R395, R413) -/

/-- Keys of the fields that publishing PDUs and demands may write: those of FIO's outputs, the demands, and the count of datagrams
that find no room in the switch. -/
def publishKey (k : Nat) : Prop :=
  outputKey k ∨ (0x1080250310 * 64 ≤ k ∧ k < 0x1080250320 * 64) ∨ (0x1080210180 * 64 ≤ k ∧ k < 0x10802101A0 * 64)

theorem publishKey_of_demandKey {p k : Nat} (hp : p < 4) (h : demandKey p k) : publishKey k := by
  refine h.imp_right fun hk => .inl ?_
  simp only [hk, FIO_PAIRSTAT_DEMAND, Fld.key]
  omega

theorem bbEnqueue_untouched {s t : State} {q : BbQueued} (hq : q.port < 4) (h : Untouched publishKey s t) :
    Untouched publishKey s (bbEnqueue q t) := by
  unfold bbEnqueue
  split
  · exact .regs rfl h
  · refine .wr _ _ (.inl (.inl (evtKey_cnt 53 (by decide)))) (.wr _ _ (.inr (.inr ?_)) h)
    simp only [BBS_DROP_TAIL, Fld.key]
    omega

theorem bbTowards_untouched {s t : State} (f : BbFrame) (cls pcp vid mask : Nat) (launch : Option Nat)
    (back : Option (Nat × Nat)) (h : Untouched publishKey s t) :
    Untouched publishKey s (bbTowards f cls pcp vid mask launch back t) := by
  have hports : ∀ (g : BbFrame) (m : Nat) (u : State), Untouched publishKey s u →
      Untouched publishKey s ((List.range 4).foldl (fun v p => when (bit m p) (fun w =>
        bbToPort (if p ≤ 1 then g else f) cls pcp vid p launch back w) v) u) := fun g m u hu =>
    .foldl (fun v p hp hv => .when (fun w hw => bbEnqueue_untouched (List.mem_range.1 hp) hw) hv) hu
  unfold bbTowards
  dsimp only
  split
  · split
    · exact hports _ _ _ (.regs rfl h)
    · exact hports _ _ _ h
  · exact hports _ _ _ h

theorem sfuDatagram_untouched {s t : State} (g : CnCfg) (ports udp : Nat) (pdu : List Byte) (h : Untouched publishKey s t) :
    Untouched publishKey s (sfuDatagram g ports udp pdu t) := by
  unfold sfuDatagram
  exact .regs rfl (.when (fun u hu => bbTowards_untouched _ _ _ _ _ _ _ hu) h)

theorem sfuPublishConn_untouched {s t : State} (c : Nat) (h : Untouched publishKey s t) :
    Untouched publishKey s (sfuPublishConn t c) := by
  unfold sfuPublishConn
  dsimp only
  split
  · exact h
  · split
    · exact .when (fun u hu => .regs rfl hu) h
    · split
      · exact sfuDatagram_untouched _ _ _ _ (sfuDatagram_untouched _ _ _ _ h)
      · exact sfuDatagram_untouched _ _ _ _ h

theorem sfuZeroConn_untouched {s t : State} (c : Nat) (h : Untouched publishKey s t) :
    Untouched publishKey s (sfuZeroConn t c) := .when (fun _ hu => .regs rfl hu) h

/-! The demands that publication leaves -/

theorem islandPowered_congr {s t : State} (h : rd t PWR_ISLSTAT = rd s PWR_ISLSTAT) (n : Nat) :
    islandPowered t n = islandPowered s n := by rw [islandPowered, h, islandPowered]

/-- Keys of the fields that tell whether FIO answers and which pairs are in use: the islands and the set-up of FIO. -/
def fioSetUpKey (k : Nat) : Prop :=
  k = PWR_ISLSTAT.key ∨ k = FIO_CTRL_EN.key ∨ k = FIO_PAIRCFG_PEN.key
    ∨ (0x1080250100 * 64 ≤ k ∧ k < 0x10802501C0 * 64 ∧ k / 64 % 8 = 0)

section
variable {s t : State} (h : ∀ g : Fld, fioSetUpKey g.key → rd t g = rd s g)
include h

theorem fioActive_congr : fioActive t = fioActive s := by
  rw [fioActive, fioActive, on, on, h FIO_CTRL_EN (by simp [fioSetUpKey]),
    islandPowered_congr (h PWR_ISLSTAT (by simp [fioSetUpKey]))]

theorem pairUsed_congr {p : Nat} (hp : p < 4) : pairUsed t p = pairUsed s p := by
  have hmode : ∀ n, n < 24 → chMode t n = chMode s n := fun n hn => by
    refine h _ (.inr (.inr (.inr ?_)))
    simp only [FIO_CHCFG_MODE, Fld.key]
    omega
  rw [pairUsed, pairUsed, h FIO_PAIRCFG_PEN (by simp [fioSetUpKey]), hmode _ (by omega), hmode _ (by omega)]

end

/-- Keys of the registers of SFU. -/
abbrev sfuKey (k : Nat) : Prop := 0x1080260000 * 64 ≤ k ∧ k < 0x1080270000 * 64

/-- Publication leaves the set-up of FIO, the registers of SFU, and what is due. -/
theorem not_publishKey {k : Nat} (h : fioSetUpKey k ∨ sfuKey k ∨ k = I.SFU_PUBDUE.key) : ¬ publishKey k := by
  simp only [fioSetUpKey, sfuKey, publishKey, outputKey, evtKey, FIO_CTRL_EN, FIO_PAIRCFG_PEN, PWR_ISLSTAT, I.SFU_PUBDUE,
    I.EVC_LATCHLOST, I.HBR_MSIXPEND, I.FIO_LEVEL, I.FIO_PFSAFE, I.FIO_WANT, I.FIO_DEMT, I.FIO_TPT, ifld, Fld.key] at h ⊢
  omega

section
variable {s t : State} (h : Untouched publishKey s t)
include h

theorem rd_fioSetUp_of_published (g : Fld) (hg : fioSetUpKey g.key) : rd t g = rd s g := h g (not_publishKey (.inl hg))

theorem rd_isl_of_published : rd t PWR_ISLSTAT = rd s PWR_ISLSTAT := rd_fioSetUp_of_published h _ (by simp [fioSetUpKey])

theorem rd_sfu_of_published {g : Fld} (hg : sfuKey g.key) : rd t g = rd s g :=
  h g (not_publishKey (.inr (.inl hg)))

theorem rd_pubDue_of_published : rd t I.SFU_PUBDUE = rd s I.SFU_PUBDUE := h _ (not_publishKey (.inr (.inr rfl)))

end

/-- The demands `d` delivered to the pairs in order. -/
def deliverDemands (d : Nat → Bool) (n : Nat) (s : State) : State := (List.range n).foldl (fun t p => pairDemand p (d p) t) s

theorem deliverDemands_succ (d : Nat → Bool) (n : Nat) (s : State) :
    deliverDemands d (n + 1) s = pairDemand n (d n) (deliverDemands d n s) := by
  simp only [deliverDemands, List.range_succ, List.foldl_append, List.foldl_cons, List.foldl_nil]

theorem deliverDemands_untouched (d : Nat → Bool) {n : Nat} (hn : n ≤ 4) {s t : State} (h : Untouched publishKey s t) :
    Untouched publishKey s (deliverDemands d n t) := by
  refine .foldl (fun u p hp hu => hu.trans ?_) h
  have hp4 : p < 4 := (List.mem_range.1 hp).trans_le hn
  exact (pairDemand_untouched hp4 (d p) (.refl _ _)).mono fun _ => publishKey_of_demandKey hp4

/-- Every pair in use has its own demand after all are delivered: the demands of the later pairs leave it. -/
theorem on_demand_deliverDemands (d : Nat → Bool) {s : State} (hact : fioActive s = true) {n : Nat} (hn : n ≤ 4) {p : Nat}
    (hp : p < n) (hused : pairUsed s p = true) : on (deliverDemands d n s) (FIO_PAIRSTAT_DEMAND p) = d p := by
  induction n with
  | zero => omega
  | succ n ih =>
    have hsame := rd_fioSetUp_of_published (deliverDemands_untouched d (Nat.le_of_succ_le hn) (Untouched.refl publishKey s))
    rw [deliverDemands_succ]
    rcases Nat.lt_succ_iff_lt_or_eq.1 hp with hlt | rfl
    · have hother : ¬ demandKey n (FIO_PAIRSTAT_DEMAND p).key := by
        refine not_or.2 ⟨demand_not_outputKey (by omega), ?_⟩
        simp only [FIO_PAIRSTAT_DEMAND, Fld.key]
        omega
      rw [on, pairDemand_untouched (by omega) (d n) (.refl _ _) _ hother]
      exact ih (by omega) hlt
    · exact on_demand_pairDemand (by omega) (d p) ((fioActive_congr hsame).trans hact)
        ((pairUsed_congr hsame (by omega)).trans hused)

/-! SFU_PUBLISH -/

/-- The carriers with zero PDUs and the demands 0. -/
def withheldCarriers (s : State) : State := deliverDemands (fun _ => false) 4 ((List.range (recNConn s sfArea)).foldl sfuZeroConn s)

/-- The carriers with the committed PDUs and demands. -/
def publishedCarriers (s : State) : State := deliverDemands (sfuDemand s) 4 ((List.range (recNConn s sfArea)).foldl sfuPublishConn s)

/-- SFU_STATUS.NOSTAGE and event 425 where the stamp is not that of this commit. -/
def noteStage (bad : Bool) (s : State) : State := when bad (fun t => t |> set1 SFU_STATUS_NOSTAGE |> raise 425) s

/-- What SFU notes of a publication that it withholds. -/
def noteWithheld (bad : Bool) (s : State) : State :=
  s |> incSat SFU_PUBCNT_WITHHELD 1 |> glnAdd 64 1 |> clr SFU_STATUS_PUBLISH |> noteStage bad

theorem exec_sfuPublish_notDue {s : State} (h : publishDue s = false) : exec .sfuPublish s = .next s :=
  congrArg Host.Outcome.next (by simp [h])

theorem rd_fioSetUp_clr_pubDue (s : State) (g : Fld) (hg : fioSetUpKey g.key) : rd (clr I.SFU_PUBDUE s) g = rd s g := by
  refine rd_wr_ne s _ g 0 ?_
  simp only [fioSetUpKey, PWR_ISLSTAT, FIO_CTRL_EN, FIO_PAIRCFG_PEN, I.SFU_PUBDUE, ifld, Fld.key] at hg ⊢
  omega

/-- That no publication is due any more changes nothing of what may withhold it. -/
theorem withheld_clr_pubDue (s : State) : stampBad (clr I.SFU_PUBDUE s) = stampBad s
    ∧ sfuWithheld (clr I.SFU_PUBDUE s) = sfuWithheld s := by
  have hrd : ∀ g : Fld, g.key ≠ I.SFU_PUBDUE.key → rd (clr I.SFU_PUBDUE s) g = rd s g := fun g hg => rd_wr_ne s _ g 0 hg
  have hstamp : stampBad (clr I.SFU_PUBDUE s) = stampBad s := by
    rw [stampBad, hrd _ (by decide)]
    rfl
  refine ⟨hstamp, ?_⟩
  rw [sfuWithheld, hstamp, on, hrd _ (by decide), sfuRunning, hrd _ (by decide)]
  rfl

theorem exec_sfuPublish_due {s : State} (hen : on s SFU_CTRL_EN = true) (hdue : publishDue s = true) :
    exec .sfuPublish s = .next (if sfuWithheld s then noteWithheld (stampBad s) (withheldCarriers (clr I.SFU_PUBDUE s))
      else set1 SFU_STATUS_PUBLISH (publishedCarriers (clr I.SFU_PUBDUE s))) := by
  have hexec : exec .sfuPublish s = execSfuPublish s := rfl
  have hen' : on (clr I.SFU_PUBDUE s) SFU_CTRL_EN = true := hen ▸ congrArg (· != 0) (rd_wr_ne s _ SFU_CTRL_EN 0 (by decide))
  obtain ⟨hstamp, hheld⟩ := withheld_clr_pubDue s
  rw [hexec, execSfuPublish]
  simp only [hdue, hen', hstamp, hheld, Bool.not_true, Bool.false_eq_true, if_false]
  rfl

/-- Connections published one after the other, by `f`, and then the demands. -/
theorem carriers_untouched {f : State → Nat → State}
    (hf : ∀ (s t : State) (c : Nat), Untouched publishKey s t → Untouched publishKey s (f t c)) (d : Nat → Bool) (l : List Nat)
    (s : State) : Untouched publishKey s (deliverDemands d 4 (l.foldl f s)) :=
  deliverDemands_untouched d (by decide) (.foldl (fun _ c _ hu => hf _ _ c hu) (.refl _ _))

theorem on_demand_carriers {f : State → Nat → State}
    (hf : ∀ (s t : State) (c : Nat), Untouched publishKey s t → Untouched publishKey s (f t c)) (d : Nat → Bool) (l : List Nat)
    {s : State} (hact : fioActive s = true) (p : Fin 4) (hused : pairUsed s p = true) :
    on (deliverDemands d 4 (l.foldl f s)) (FIO_PAIRSTAT_DEMAND p) = d p := by
  have hsame := rd_fioSetUp_of_published (Untouched.foldl (l := l) (fun _ c _ hu => hf _ _ c hu) (Untouched.refl publishKey s))
  exact on_demand_deliverDemands d ((fioActive_congr hsame).trans hact) (by decide) p.isLt
    ((pairUsed_congr hsame p.isLt).trans hused)

theorem withheldCarriers_untouched (s : State) : Untouched publishKey s (withheldCarriers s) :=
  carriers_untouched (fun _ _ => sfuZeroConn_untouched) _ _ s

theorem publishedCarriers_untouched (s : State) : Untouched publishKey s (publishedCarriers s) :=
  carriers_untouched (fun _ _ => sfuPublishConn_untouched) _ _ s

/-! What SFU notes of a publication that it withholds (R395) -/

/-- The registers of SFU are none that raising an event writes. -/
theorem sfu_not_evtKey {k : Nat} (hk : sfuKey k) : ¬ evtKey k := by
  simp only [evtKey, I.EVC_LATCHLOST, I.HBR_MSIXPEND, ifld, Fld.key]
  omega

theorem rd_noteStage (bad : Bool) (s : State) (g : Fld) (hg : g.key ≠ SFU_STATUS_NOSTAGE.key) (he : ¬ evtKey g.key) :
    rd (noteStage bad s) g = rd s g := by
  cases bad with
  | false => rfl
  | true => exact (rd_raise 425 _ g (by decide) he).trans (rd_wr_ne _ _ _ _ hg)

theorem noteStage_bad {s : State} (hevc : evcOn s) :
    on (noteStage true s) SFU_STATUS_NOSTAGE = true ∧ pendBit (noteStage true s) 425 = true := by
  constructor
  · rw [noteStage, when_true, on_raise _ _ _ (by decide) (sfu_not_evtKey (by decide)), on, set1_eq, rd_wr_self]
    rfl
  · exact pend_raiseWith 425 0 false _ (by decide) ((islandPowered_congr (rd_wr_ne _ _ _ _ (by decide)) 8).trans hevc)

/-- Fields other than those of the notes read as before. -/
theorem rd_noteWithheld (bad : Bool) (s : State) (g : Fld)
    (hg : g.key ≠ SFU_STATUS_NOSTAGE.key ∧ g.key ≠ SFU_STATUS_PUBLISH.key ∧ g.key ≠ SFU_PUBCNT_WITHHELD.key) (he : ¬ evtKey g.key) :
    rd (noteWithheld bad s) g = rd s g := by
  obtain ⟨hstage, hpublish, hcount⟩ := hg
  have hgln : g.key ≠ (GLN_CNT_COUNT 64).key := fun h => he (h ▸ evtKey_cnt 64 (by decide))
  rw [noteWithheld, rd_noteStage _ _ _ hstage he, clr_eq, rd_wr_ne _ _ _ _ hpublish, glnAdd, rd_incSat_ne _ _ _ _ hgln,
    rd_incSat_ne _ _ _ _ hcount]

theorem on_publish_noteWithheld (bad : Bool) (s : State) : on (noteWithheld bad s) SFU_STATUS_PUBLISH = false := by
  rw [on, noteWithheld, rd_noteStage _ _ _ (by decide) (sfu_not_evtKey (by decide)), clr_eq, rd_wr_self]
  rfl

theorem rd_pubCnt_noteWithheld (bad : Bool) (s : State) :
    rd (noteWithheld bad s) SFU_PUBCNT_WITHHELD = satAdd 32 (rd s SFU_PUBCNT_WITHHELD) 1 := by
  rw [noteWithheld, rd_noteStage _ _ _ (by decide) (sfu_not_evtKey (by decide)), clr_eq, rd_wr_ne _ _ _ _ (by decide), glnAdd,
    rd_incSat_ne _ _ _ _ (by decide), rd_incSat_self]
  rfl

theorem noteWithheld_bad {s : State} (hevc : evcOn s) :
    on (noteWithheld true s) SFU_STATUS_NOSTAGE = true ∧ pendBit (noteWithheld true s) 425 = true := by
  refine noteStage_bad ((islandPowered_congr ?_ 8).trans hevc)
  rw [clr_eq, rd_wr_ne _ _ _ _ (by decide), glnAdd, rd_incSat_ne _ _ _ _ (by decide), rd_incSat_ne _ _ _ _ (by decide)]

/-- The demands are none of the registers that raising an event writes. -/
theorem demand_not_evtKey {p : Nat} (hp : p < 4) : ¬ evtKey (FIO_PAIRSTAT_DEMAND p).key :=
  fun h => demand_not_outputKey hp (outputKey_of_evtKey h)

theorem pubDue_not_evtKey : ¬ evtKey I.SFU_PUBDUE.key :=
  fun h => not_publishKey (.inr (.inr rfl)) (.inl (outputKey_of_evtKey h))

theorem demand_ne_sfu {p : Nat} (hp : p < 4) {k : Nat} (hk : sfuKey k) : (FIO_PAIRSTAT_DEMAND p).key ≠ k := by
  simp only [FIO_PAIRSTAT_DEMAND, Fld.key]
  omega

/-- A publication that is withheld. -/
theorem exec_sfuPublish_withholds {s : State} (hen : on s SFU_CTRL_EN = true) (hdue : publishDue s = true)
    (hheld : sfuWithheld s = true) :
    ∃ t, exec .sfuPublish s = .next t ∧ on t SFU_STATUS_PUBLISH = false ∧ on t I.SFU_PUBDUE = false
      ∧ rd t SFU_PUBCNT_WITHHELD = satAdd 32 (rd s SFU_PUBCNT_WITHHELD) 1
      ∧ (fioActive s = true → ∀ p : Fin 4, pairUsed s p = true → on t (FIO_PAIRSTAT_DEMAND p) = false)
      ∧ (evcOn s → stampBad s = true → on t SFU_STATUS_NOSTAGE = true ∧ pendBit t 425 = true) := by
  have hcarry := withheldCarriers_untouched (clr I.SFU_PUBDUE s)
  have hsame := rd_fioSetUp_clr_pubDue s
  refine ⟨_, (exec_sfuPublish_due hen hdue).trans (by rw [hheld, if_pos rfl]), on_publish_noteWithheld .., ?due, ?count,
    fun hact p hused => ?demand, fun hevc hbad => ?stage⟩
  case due =>
    rw [on, rd_noteWithheld _ _ _ (by decide) pubDue_not_evtKey, rd_pubDue_of_published hcarry, clr_eq, rd_wr_self]
    rfl
  case count =>
    rw [rd_pubCnt_noteWithheld, rd_sfu_of_published hcarry (by decide), clr_eq, rd_wr_ne _ _ _ _ (by decide)]
  case demand =>
    have hkey : ∀ {k}, sfuKey k → (FIO_PAIRSTAT_DEMAND p).key ≠ k := demand_ne_sfu p.isLt
    rw [on, rd_noteWithheld _ _ _ ⟨hkey (by decide), hkey (by decide), hkey (by decide)⟩ (demand_not_evtKey p.isLt)]
    exact on_demand_carriers (fun _ _ => sfuZeroConn_untouched) _ _ ((fioActive_congr hsame).trans hact) p
      ((pairUsed_congr hsame p.isLt).trans hused)
  case stage =>
    rw [hbad]
    refine noteWithheld_bad ((islandPowered_congr ?_ 8).trans hevc)
    exact (rd_isl_of_published hcarry).trans (hsame _ (by simp [fioSetUpKey]))

/-- A publication that is not. -/
theorem exec_sfuPublish_publishes {s : State} (hen : on s SFU_CTRL_EN = true) (hdue : publishDue s = true)
    (hgoes : sfuWithheld s = false) :
    ∃ t, exec .sfuPublish s = .next t ∧ on t SFU_STATUS_PUBLISH = true ∧ on t I.SFU_PUBDUE = false
      ∧ rd t SFU_PUBCNT_WITHHELD = rd s SFU_PUBCNT_WITHHELD
      ∧ (fioActive s = true → ∀ p : Fin 4, pairUsed s p = true → on t (FIO_PAIRSTAT_DEMAND p) = sfuDemand s p) := by
  have hcarry := publishedCarriers_untouched (clr I.SFU_PUBDUE s)
  have hsame := rd_fioSetUp_clr_pubDue s
  refine ⟨set1 SFU_STATUS_PUBLISH (publishedCarriers (clr I.SFU_PUBDUE s)), by rw [exec_sfuPublish_due hen hdue, hgoes]; rfl,
    ?publish, ?due, ?count, fun hact p hused => ?demand⟩
  case publish =>
    rw [on, set1_eq, rd_wr_self]
    rfl
  case due =>
    rw [on, set1_eq, rd_wr_ne _ _ _ _ (by decide), rd_pubDue_of_published hcarry, clr_eq, rd_wr_self]
    rfl
  case count =>
    rw [set1_eq, rd_wr_ne _ _ _ _ (by decide), rd_sfu_of_published hcarry (by decide), clr_eq, rd_wr_ne _ _ _ _ (by decide)]
  case demand =>
    rw [on, set1_eq, rd_wr_ne _ _ _ _ (demand_ne_sfu p.isLt (by decide))]
    exact on_demand_carriers (fun _ _ => sfuPublishConn_untouched) _ _ ((fioActive_congr hsame).trans hact) p
      ((pairUsed_congr hsame p.isLt).trans hused)

/-! A datagram received (R413) -/

/-- A datagram counted in a field of SFU, with event 426. -/
def countDatagram (f : Fld) (s : State) : State := s |> incSat f 1 |> raise 426

section
variable {f : Fld} (hf : sfuKey f.key) (s : State)

theorem fieldsSameBut_countDatagram : FieldsSameBut [f] s (countDatagram f s) := fun g hg he =>
  (rd_raise 426 _ g (by decide) he).trans (rd_incSat_ne _ _ _ _ (hg f (by simp)))

@[simp] theorem countDatagram_mem : (countDatagram f s).mem = s.mem := raiseWith_mem ..
@[simp] theorem countDatagram_dgrams : (countDatagram f s).dgrams = s.dgrams := raiseWith_dgrams ..

include hf

theorem rd_countDatagram : rd (countDatagram f s) f = satAdd f.width (rd s f) 1 := by
  rw [countDatagram, rd_raise _ _ _ (by decide) (sfu_not_evtKey hf), rd_incSat_self]

theorem pendBit_countDatagram {s : State} (hevc : evcOn s) : pendBit (countDatagram f s) 426 = true := by
  refine pend_raiseWith 426 0 false _ (by decide) ((islandPowered_congr (rd_incSat_ne _ _ _ _ ?_) 8).trans hevc)
  simp only [PWR_ISLSTAT, Fld.key] at hf ⊢
  omega

end

/-- A datagram that belongs to a connection is kept as the latest of its path. -/
def keepDatagram (c p : Nat) (bs : List Byte) (s : State) : State :=
  { s with dgrams := s.dgrams.filter (fun d => !replaced s c p d) ++ [⟨c, p, now s, bs.take 64⟩] }

section
variable {port : Fin 4} {udp : Nat} {bs : List Byte} {s : State} (hen : on s SFU_CTRL_EN = true)
  (hport : udp = rd s SFU_BBCFG_PORT ∨ udp = rd s SFU_BBCFG_JX5PORT)
include hen hport

theorem exec_datagram_unknown (hm : dgramMatch s port udp bs = none) :
    exec (.safeguardDatagramReceive port udp bs) s = .next (countDatagram SFU_RXCNT_UNKNOWN s) := by
  have hexec : exec (.safeguardDatagramReceive port udp bs) s = execSafeguardDatagramReceive port udp bs s := rfl
  have hsfu : (udp == rd s SFU_BBCFG_PORT || udp == rd s SFU_BBCFG_JX5PORT) = true := by simpa using hport
  rw [hexec, execSafeguardDatagramReceive, hen, hsfu, hm]
  rfl

theorem exec_datagram_kept {c p : Nat} (hm : dgramMatch s port udp bs = some (c, p)) :
    exec (.safeguardDatagramReceive port udp bs) s
      = .next (when (s.dgrams.any (replaced s c p)) (countDatagram SFU_RXCNT_OVWR) (keepDatagram c p bs s)) := by
  have hexec : exec (.safeguardDatagramReceive port udp bs) s = execSafeguardDatagramReceive port udp bs s := rfl
  have hsfu : (udp == rd s SFU_BBCFG_PORT || udp == rd s SFU_BBCFG_JX5PORT) = true := by simpa using hport
  rw [hexec, execSafeguardDatagramReceive, hen, hsfu, hm]
  rfl

end

/-! Safe bits (R399) -/

/-- A safe data byte reads 0 unless its connection is in RUN and the partner sends its own data. -/
theorem safeBit_of_data {s : State} {b : Nat} (hb : b < 0xFFFE) :
    safeBit s b = (connByte s (b / 512) (b % 512 / 8)).getLsbD (b % 512 % 8) := by
  rw [safeBit, if_neg (by omega), if_neg (by omega)]

theorem connByte_failSafe {s : State} {c : Nat} (h : (connOf s c).state ≠ 2 ∨ (connOf s c).fsv = true) (i : Nat) :
    connByte s c i = 0 := by
  refine if_neg fun hrun => ?_
  obtain ⟨hstate, hfsv⟩ := hrun
  rcases h with h | h
  · exact h hstate
  · simp [h] at hfsv

theorem connByte_run {s : State} {c : Nat} (hstate : (connOf s c).state = 2) (hfsv : (connOf s c).fsv = false) (i : Nat) :
    connByte s c i = (connOf s c).data.getD i 0 := if_pos ⟨hstate, hfsv⟩

/-! Connections and axes set -/

@[simp] theorem axisOf_putAxis_self (a : Nat) (x : Axis) (s : State) : axisOf (putAxis a x s) a = x := by
  simp [axisOf, putAxis]

section
variable (c src : Nat) (hsrc : src < 512) (k : Conn) (s : State)

/-- A connection set, and an event raised: the safety state is that of the connection set. -/
theorem raise_putConn_safe : (raise src (putConn c k s)).safe = { s.safe with conns := Assoc.put c k s.safe.conns } :=
  raiseWith_safe src 0 false (putConn c k s)

theorem connOf_raise_putConn : connOf (raise src (putConn c k s)) c = k := by
  rw [connOf, raise_putConn_safe, find_put, if_pos rfl]
  rfl

theorem memSame_raise_putConn : MemSame s (raise src (putConn c k s)) := memSame_of_mem (raiseWith_mem src 0 false (putConn c k s))

include hsrc

theorem fieldsSameBut_raise_putConn : FieldsSameBut [] s (raise src (putConn c k s)) :=
  fun g _ he => rd_raise src (putConn c k s) g hsrc he

theorem pendBit_raise_putConn {s : State} (hevc : evcOn s) : pendBit (raise src (putConn c k s)) src = true :=
  pend_raiseWith src 0 false (putConn c k s) hsrc hevc

end

/-! Time-outs (R403, R410, R416) -/

/-- A connection that has failed (R411). -/
def failedConn (c : Nat) (s : State) : Conn := { connOf s c with state := 3, count := 0, accepted := false }

/-- The connection and the cause of the failure, as the safety state notes them. -/
def failingState (c cause : Nat) (s : State) : State := { s with safe := { s.safe with lastConn := c, ccause := cause } }

theorem connFail_eq (c cause : Nat) (s : State) :
    connFail c cause s = raise 421 (putConn c (failedConn c s) (failingState c cause s)) := rfl

theorem connOf_connFail (c cause : Nat) (s : State) : connOf (connFail c cause s) c = failedConn c s := by
  rw [connFail_eq, connOf_raise_putConn]

theorem connFail_safe (c cause : Nat) (s : State) : (connFail c cause s).safe
    = { s.safe with lastConn := c, ccause := cause, conns := Assoc.put c (failedConn c s) s.safe.conns } := by
  rw [connFail_eq, raise_putConn_safe]
  rfl

theorem pendBit_connFail (c cause : Nat) {s : State} (hevc : evcOn s) : pendBit (connFail c cause s) 421 = true :=
  pendBit_raise_putConn c 421 (by decide) (failedConn c s) (s := failingState c cause s) hevc

theorem fieldsSameBut_connFail (c cause : Nat) (s : State) : FieldsSameBut [] s (connFail c cause s) :=
  fieldsSameBut_raise_putConn c 421 (by decide) (failedConn c s) (failingState c cause s)

theorem memSame_connFail (c cause : Nat) (s : State) : MemSame s (connFail c cause s) :=
  memSame_raise_putConn c 421 (failedConn c s) (failingState c cause s)

theorem sfuRunning_iff (s : State) : sfuRunning s = true ↔ rd s SFU_STATUS_STATE = 4 := by simp [sfuRunning]

section
variable {s : State} (hrun : rd s SFU_STATUS_STATE = 4)
include hrun

theorem exec_watchdog_running (c : Fin 128) (hc : (connOf s c).state = 2 ∨ (connOf s c).state = 4) :
    exec (.safeguardWatchdogExpiry c) s = .next (if connExpired sfArea c s then connFail c 2 s else s) := by
  have hexec : exec (.safeguardWatchdogExpiry c) s = execSafeguardWatchdogExpiry c s := rfl
  rw [hexec, execSafeguardWatchdogExpiry]
  simp [(sfuRunning_iff s).2 hrun, hc]

theorem exec_ss1Timeout_acts (a : Fin 64) (hresp : (axisOf s a).resp = 2)
    (hlasts : axisLasts s a (axCfg s sfArea a).tss1 = true) :
    exec (.ss1Timeout a) s = .next (putAxis a { axisOf s a with off := true } s) := by
  have hexec : exec (.ss1Timeout a) s = execSs1Timeout a s := rfl
  rw [hexec, execSs1Timeout, if_pos ⟨(sfuRunning_iff s).2 hrun, hlasts⟩]
  simp [axisSs1, hresp]

theorem exec_ss2Standstill_acts (a : Fin 64) (hresp : (axisOf s a).resp = 1) (hstill : (axisOf s a).still = none)
    (hlasts : axisLasts s a (axCfg s sfArea a).tss2 = true) :
    exec (.ss2Standstill a) s = .next (putAxis a { axisOf s a with still := some (axisOf s a).pos } s) := by
  have hexec : exec (.ss2Standstill a) s = execSs2Standstill a s := rfl
  rw [hexec, execSs2Standstill, if_pos ⟨(sfuRunning_iff s).2 hrun, hstill, hlasts⟩]
  simp [axisSs2, hresp, hstill]

/-- A path that has been silent for WD_M is lost, on either path. -/
theorem exec_jx5PathWatchdog_expires (c : Fin 128) (path2 : Bool) (hc : (connOf s c).state ≠ 0)
    (hjx5 : (cnCfg s sfArea c).transport = 2)
    (hlost : (if path2 then (connOf s c).lost2 else (connOf s c).lost1) = false)
    (hsilent : (if path2 then (connOf s c).at2 else (connOf s c).at1) + 1000000 * (cnCfg s sfArea c).wdm ≤ sfT0 s)
    (hevc : evcOn s) :
    ∃ t, exec (.jx5PathWatchdog c path2) s = .next t
      ∧ connOf t c = (if path2 then { connOf s c with lost2 := true } else { connOf s c with lost1 := true })
      ∧ pendBit t 427 = true ∧ FieldsSameBut [] s t ∧ MemSame s t := by
  have hexec : exec (.jx5PathWatchdog c path2) s = execJx5PathWatchdog c path2 s := rfl
  rw [hexec, execJx5PathWatchdog]
  refine ⟨_, congrArg Host.Outcome.next (if_pos ⟨(sfuRunning_iff s).2 hrun, hc, beq_iff_eq.2 hjx5, hlost, hsilent⟩),
    connOf_raise_putConn .., pendBit_raise_putConn _ 427 (by decide) _ hevc, fieldsSameBut_raise_putConn _ 427 (by decide) _ s,
    memSame_raise_putConn _ 427 _ s⟩

end

theorem exec_ss1Timeout_idle {s : State} {a : Fin 64}
    (h : (axisOf s a).resp ≠ 2 ∨ axisLasts s a (axCfg s sfArea a).tss1 = false) : exec (.ss1Timeout a) s = .next s := by
  have hexec : exec (.ss1Timeout a) s = execSs1Timeout a s := rfl
  rw [hexec, execSs1Timeout]
  rcases h with hresp | hlasts
  · simp [axisSs1, hresp]
  · simp [hlasts]

/-! The statement -/

/-- Settles O56: each clause is the branch of its row that its hypotheses select, with what the updates of that branch write. -/
theorem safeguardCarriers : Obligations.SafeguardCarriers := by
  unfold Obligations.SafeguardCarriers
  refine ⟨⟨?datagram, fun s => exec_sfuPublish_notDue, fun s hen hdue => ⟨exec_sfuPublish_withholds hen hdue,
    exec_sfuPublish_publishes hen hdue⟩, ?safeBits⟩, ?watchdog, ?axes, ?paths⟩
  case datagram =>
    intro port udp bs s hen hport
    refine ⟨fun hm hevc => ?unknown, fun c p hm => ⟨_, exec_datagram_kept hen hport hm, ?kept⟩⟩
    case unknown =>
      exact ⟨_, exec_datagram_unknown hen hport hm, countDatagram_dgrams s, pendBit_countDatagram (by decide) hevc,
        rd_countDatagram (by decide) s, fieldsSameBut_countDatagram s, memSame_of_mem (countDatagram_mem s)⟩
    case kept =>
      cases hany : s.dgrams.any (replaced s c p) with
      | false =>
        refine ⟨memSame_of_mem rfl, rfl, fun _ => rfl, fun _ hold => ?_, fieldsSameBut_of_regs rfl⟩
        obtain ⟨d, hd, hrep⟩ := hold
        exact absurd (List.any_eq_true.2 ⟨d, hd, hrep⟩) (by simp [hany])
      | true =>
        refine ⟨memSame_of_mem (countDatagram_mem _), countDatagram_dgrams _, fun hnone => ?_,
          fun hevc _ => ⟨rd_countDatagram (by decide) _, pendBit_countDatagram (by decide) hevc⟩,
          fieldsSameBut_countDatagram (keepDatagram c p bs s)⟩
        obtain ⟨d, hd, hrep⟩ := List.any_eq_true.1 hany
        exact absurd hrep (by simp [hnone d hd])
  case safeBits =>
    refine fun s => ⟨rfl, rfl, fun b hb => ⟨fun hsafe => ?_, fun hstate hfsv => ?_⟩⟩
    · rw [safeBit_of_data hb, connByte_failSafe hsafe]
      exact BitVec.getLsbD_zero
    · rw [safeBit_of_data hb, connByte_run hstate hfsv]
  case watchdog =>
    intro c s hrun hc
    refine ⟨fun hexp => ?alive, fun hexp hevc => ?expired⟩
    case alive => rw [exec_watchdog_running hrun c hc, hexp]; rfl
    case expired =>
      refine ⟨connFail c 2 s, by rw [exec_watchdog_running hrun c hc, hexp]; rfl, ?_, ?_, ?_, ?_, pendBit_connFail c 2 hevc, ?_,
        fieldsSameBut_connFail c 2 s, memSame_connFail c 2 s⟩
      all_goals simp only [connOf_connFail, connFail_safe, failedConn]
  case axes =>
    refine fun a s hrun => ⟨fun hresp hlasts => ?ss1, exec_ss1Timeout_idle, fun hresp hstill hlasts => ?ss2⟩
    case ss1 => exact ⟨_, exec_ss1Timeout_acts hrun a hresp hlasts, axisOf_putAxis_self .., rfl, rfl, rfl⟩
    case ss2 => exact ⟨_, exec_ss2Standstill_acts hrun a hresp hstill hlasts, axisOf_putAxis_self .., rfl, rfl, rfl⟩
  case paths =>
    exact fun c s hrun hc hjx5 hevc => ⟨fun hlost hsilent => exec_jx5PathWatchdog_expires hrun c false hc hjx5 hlost hsilent hevc,
      fun hlost hsilent => exec_jx5PathWatchdog_expires hrun c true hc hjx5 hlost hsilent hevc⟩

end Sys2Proof.Proofs
end
